-- ==== Sys2Proof/Word.lean ====
section
/-! DEFINITION. The word types of the model and their plainest arithmetic. -/

namespace Sys2Proof

/-- One byte. -/
abbrev Byte := BitVec 8

/-- A sequence of bytes, lowest address first. -/
abbrev Bytes := List Byte

/-- 256 bytes: a vector register, a flit payload (R189, R315). Byte k is bits [8k+7:8k] (R11). -/
abbrev Block := BitVec 2048

/-- One 64-byte SRAM or tier line (R81). -/
abbrev Line := BitVec 512

end Sys2Proof
end

