-- ==== Sys2Proof/Machine/Table.lean ====
section
/-! DEFINITION. Sparse tables (lists of key and value, keys strictly rising) and byte memories in one canonical form. -/

namespace Sys2Proof.Machine

/-- The value at key `k` of a table, `d` where nothing is listed. -/
def Tab.get {α : Type} (d : α) : List (Nat × α) → Nat → α
  | [], _ => d
  | (j, v) :: t, k => if k < j then d else if k = j then v else Tab.get d t k

/-- The table with `v` at key `k`. -/
def Tab.put {α : Type} (k : Nat) (v : α) : List (Nat × α) → List (Nat × α)
  | [] => [(k, v)]
  | (j, w) :: t => if k < j then (k, v) :: (j, w) :: t else if k = j then (k, v) :: t else (j, w) :: Tab.put k v t

/-- The table with key `k` removed. -/
def Tab.del {α : Type} (k : Nat) (t : List (Nat × α)) : List (Nat × α) := t.filter fun e => e.1 != k

/-- Apply `f` to every listed value. -/
def Tab.map {α : Type} (f : Nat → α → α) (t : List (Nat × α)) : List (Nat × α) := t.map fun e => (e.1, f e.1 e.2)

/-- The byte at address `a` of a memory in which an unlisted address reads as zero (R97, R106, R117: memory that
nothing wrote holds zero). -/
def Mem.read : List (Nat × Byte) → Nat → Byte := Tab.get 0

/-- Write one byte, keeping the canonical form: a zero is not listed. -/
def Mem.write (a : Nat) (v : Byte) : List (Nat × Byte) → List (Nat × Byte)
  | [] => if v = 0 then [] else [(a, v)]
  | (j, w) :: t =>
    if a < j then (if v = 0 then (j, w) :: t else (a, v) :: (j, w) :: t)
    else if a = j then (if v = 0 then t else (a, v) :: t)
    else (j, w) :: Mem.write a v t

/-- Every listed address is above `lo` and rising, and no listed byte is zero. -/
def Mem.wfFrom : Option Nat → List (Nat × Byte) → Bool
  | _, [] => true
  | lo, (j, w) :: t => (match lo with | none => true | some l => decide (l < j)) && (w != 0) && Mem.wfFrom (some j) t

/-- The canonical form of a memory: addresses strictly rising and no entry equal to what an unlisted address reads as. -/
def Memory.wf (m : List (Nat × Byte)) : Bool := Mem.wfFrom none m

/-- `n` bytes from address `a`, lowest address first. -/
def Mem.readN (m : List (Nat × Byte)) (a : Nat) : Nat → Bytes
  | 0 => []
  | n + 1 => Mem.read m a :: Mem.readN m (a + 1) n

/-- Write bytes at consecutive addresses from `a`. -/
def Mem.writeN (m : List (Nat × Byte)) (a : Nat) : Bytes → List (Nat × Byte)
  | [] => m
  | b :: bs => Mem.writeN (Mem.write a b m) (a + 1) bs

/-- Write zero to every address of the range (R97, R427): the listed entries of the range go. -/
def Mem.clear (m : List (Nat × Byte)) (lo hi : Nat) : List (Nat × Byte) :=
  m.filter fun e => e.1 < lo || hi ≤ e.1

/-- The lowest number not among the keys of the list. -/
def freshKey (t : List Nat) : Nat := (List.range (t.length + 1)).find? (fun n => !(t.contains n)) |>.getD 0

end Sys2Proof.Machine
end

