-- ==== Sys2Proof/Machine/Bytes.lean ====
section
/-! DEFINITION. Byte order, bit fields, sign extension and counters that wrap (R10, R11, R15). -/

namespace Sys2Proof.Machine

/-- The little-endian value of a byte sequence (R11). -/
def leNat : Bytes → Nat
  | [] => 0
  | b :: bs => b.toNat + 256 * leNat bs

/-- `n` little-endian bytes of a value (R11). -/
def leBytes : Nat → Nat → Bytes
  | 0, _ => []
  | n + 1, v => BitVec.ofNat 8 v :: leBytes n (v / 256)

/-- The big-endian value of a byte sequence (SEC 1 fields). -/
def beNat (b : Bytes) : Nat := leNat b.reverse

/-- `n` big-endian bytes of a value. -/
def beBytes (n v : Nat) : Bytes := (leBytes n v).reverse

/-- `n` bytes at offset `o`, short where the sequence ends. -/
def slice (b : Bytes) (o n : Nat) : Bytes := (b.drop o).take n

/-- The little-endian field of `n` bytes at offset `o`. -/
def field (b : Bytes) (o n : Nat) : Nat := leNat (slice b o n)

/-- Every byte of the range is zero. -/
def zeroAt (b : Bytes) (o n : Nat) : Bool := (slice b o n).all (· == 0)

/-- The offset of the first non-zero byte of the range. -/
def firstNonZero (b : Bytes) (o n : Nat) : Option Nat :=
  ((List.range n).find? fun i => (b.getD (o + i) 0) != 0).map (o + ·)

/-- Bits [hi:lo] of a number. -/
def bits (v hi lo : Nat) : Nat := (v >>> lo) % 2 ^ (hi + 1 - lo)

/-- Bit `i` of a number. -/
def bit (v i : Nat) : Bool := (v >>> i) % 2 == 1

/-- A number with bit `i` set to `b`. -/
def setBit (v i : Nat) (b : Bool) : Nat := if bit v i == b then v else if b then v + 2 ^ i else v - 2 ^ i

/-- A value of `w` bits read as two's complement. -/
def signed (w v : Nat) : Int := if v % 2 ^ w < 2 ^ (w - 1) then ((v % 2 ^ w : Nat) : Int) else ((v % 2 ^ w : Nat) : Int) - ((2 ^ w : Nat) : Int)

/-- An integer as `w` bits of two's complement. -/
def unsigned (w : Nat) (i : Int) : Nat := (i % ((2 ^ w : Nat) : Int)).toNat

/-- The signed difference of two counters of width `w` (R15). -/
def wrapDiff (w a b : Nat) : Int := signed w (a + 2 ^ w - b % 2 ^ w)

/-- "A is after B" at width `w` (R15). -/
def isAfter (w a b : Nat) : Bool := decide (0 < wrapDiff w a b)

/-- "A is B or after it" at width `w` (R15). -/
def atOrAfter (w a b : Nat) : Bool := decide (0 ≤ wrapDiff w a b)

/-- The lowest of tallies under R15 with a width of 48 bits (R20). -/
def lowestTally : List Nat → Option Nat
  | [] => none
  | t :: ts => some (ts.foldl (fun a b => if isAfter 48 a b then b else a) t)

/-- The highest of tallies under R15 with a width of 48 bits (R20). -/
def highestTally : List Nat → Option Nat
  | [] => none
  | t :: ts => some (ts.foldl (fun a b => if isAfter 48 b a then b else a) t)

/-- A tally so many steps later (R20). -/
def laterTally (t n : Nat) : Nat := (t + n) % 2 ^ 48

/-- The tally nearest `near` whose low `w` bits are `v` (R15, R321). -/
def extendTally (w v near : Nat) : Nat := (((near + 2 ^ 48 : Nat) : Int) + wrapDiff w v near).toNat % 2 ^ 48

/-- The later of two reports, each one more than a step begun and 0 for none (R15, R269). -/
def laterReport (a b : Nat) : Nat := if a = 0 ∨ isAfter 48 b a = true then b else a

/-- Steps that a tally is ahead of another, none when it is behind (R15, R20). -/
def stepsAhead (t base : Nat) : Option Nat := if atOrAfter 48 t base then some (wrapDiff 48 t base).toNat else none

/-- A saturating counter of `w` bits plus `n` (R473). -/
def satAdd (w v n : Nat) : Nat := min (v + n) (2 ^ w - 1)

/-- The low bytes of a bit vector, lowest first. -/
def bvBytes {w : Nat} (n : Nat) (v : BitVec w) : Bytes := (List.range n).map fun i => v.extractLsb' (8 * i) 8

/-- A bit vector from bytes, lowest first. -/
def bytesBv (w : Nat) (b : Bytes) : BitVec w := BitVec.ofNat w (leNat b)

/-- Payload bytes of a block. -/
def Block.bytes (b : Block) : Bytes := bvBytes 256 b

/-- Field of `n` bytes at byte offset `o` of a payload. -/
def Block.field (b : Block) (o n : Nat) : Nat := (b.toNat >>> (8 * o)) % 2 ^ (8 * n)

/-- A payload with `n` bytes at offset `o` set (the place holds zero before). -/
def Block.withField (b : Block) (o n v : Nat) : Block := b ||| BitVec.ofNat 2048 ((v % 2 ^ (8 * n)) <<< (8 * o))

/-- The lanes of width `w` of a vector register, lane 0 first. -/
def lanes (w n : Nat) (v : Block) : List (BitVec w) := (List.range n).map fun i => v.extractLsb' (w * i) w

/-- A vector register from lanes of width `w`, lane 0 first; the rest is zero. -/
def ofLanes {w : Nat} (l : List (BitVec w)) : Block :=
  BitVec.ofNat 2048 (l.foldr (fun x acc => x.toNat + 2 ^ w * acc) 0)

/-- Four consecutive lines as a block, line 0 lowest. -/
def ofLines (l : List Line) : Block := BitVec.ofNat 2048 (l.foldr (fun x acc => x.toNat + 2 ^ 512 * acc) 0)

/-- Line `k` of a block. -/
def lineOf (b : Block) (k : Nat) : Line := b.extractLsb' (512 * k) 512

/-- Floor of the base-2 logarithm; 0 for 0. -/
def log2 (n : Nat) : Nat := Nat.log2 n

/-- Ceiling division. -/
def ceilDiv (a b : Nat) : Nat := (a + b - 1) / b

/-- Round a rational a / b (b > 0) to the nearest integer, ties away from zero (R372, R379). -/
def roundDiv (a : Int) (b : Nat) : Int :=
  if 0 ≤ a then (((2 * a.toNat + b) / (2 * b) : Nat) : Int) else -(((2 * (-a).toNat + b) / (2 * b) : Nat) : Int)

/-- Saturate an integer to `w` bits of two's complement. -/
def satInt (w : Nat) (i : Int) : Int :=
  if i < -((2 ^ (w - 1) : Nat) : Int) then -((2 ^ (w - 1) : Nat) : Int)
  else if i > ((2 ^ (w - 1) - 1 : Nat) : Int) then ((2 ^ (w - 1) - 1 : Nat) : Int) else i

/-- Sum of a list. -/
def sumNat (l : List Nat) : Nat := l.foldl (· + ·) 0

/-- The least element of a list, `none` of the empty list. -/
def minNat? : List Nat → Option Nat
  | [] => none
  | x :: xs => match minNat? xs with | none => some x | some y => some (min x y)

/-- Append to a bounded record list, newest first, at most `n` kept (R517). -/
def pushRecent {α : Type} (n : Nat) (x : α) (l : List α) : List α := (x :: l).take n

/-- Update the element at an index. -/
def updAt {α : Type} (f : α → α) : List α → Nat → List α
  | [], _ => []
  | x :: xs, 0 => f x :: xs
  | x :: xs, n + 1 => x :: updAt f xs n

end Sys2Proof.Machine
end

