-- ==== Sys2Proof/Machine/Aes.lean ====
section
/-! DEFINITION. AES (FIPS 197) with 128-bit and 256-bit keys, counter mode as R329 uses it, and AES-256-XTS (R112). -/

namespace Sys2Proof.Machine

/-- Doubling in the AES field. -/
def aesDouble (b : Byte) : Byte := if b.msb then (b <<< 1) ^^^ 0x1B else b <<< 1

/-- Product in the AES field. -/
def aesMul (a : Byte) : Nat → Byte → Byte
  | 0, _ => 0
  | n + 1, b => (if b.getLsbD 0 then a else 0) ^^^ aesMul (aesDouble a) n (b >>> 1)

/-- a^254 in the AES field: the inverse, 0 for 0. -/
def aesInv (a : Byte) : Byte :=
  let m := fun x y => aesMul x 8 y
  let a2 := m a a
  let a3 := m a2 a
  let a12 := m (m a3 a3) (m a3 a3)
  let a15 := m a12 a3
  let s := fun x => m x x
  let a240 := s (s (s (s a15)))
  m (m a240 a12) a2

/-- SubBytes on one byte. -/
def aesSbox (a : Byte) : Byte :=
  let b := aesInv a
  b ^^^ b.rotateLeft 1 ^^^ b.rotateLeft 2 ^^^ b.rotateLeft 3 ^^^ b.rotateLeft 4 ^^^ 0x63

/-- The inverse of SubBytes on one byte. -/
def aesInvSbox (a : Byte) : Byte := aesInv (a.rotateLeft 1 ^^^ a.rotateLeft 3 ^^^ a.rotateLeft 6 ^^^ 0x05)

/-- XOR of byte strings. -/
def xorBytes (a b : Bytes) : Bytes := List.zipWith (· ^^^ ·) a b

/-- The key schedule, four-byte words newest first. -/
def aesExpand (nk : Nat) (n : Nat) (rcon : Byte) (w : List Bytes) : List Bytes :=
  match n with
  | 0 => w
  | n + 1 =>
    let i := w.length
    let t := w.headD []
    let core := i % nk == 0
    let t' := if core then (match (t.drop 1 ++ t.take 1).map aesSbox with | x :: xs => (x ^^^ rcon) :: xs | [] => [])
              else if nk > 6 && i % nk == 4 then t.map aesSbox else t
    aesExpand nk n (if core then aesDouble rcon else rcon) (xorBytes (w.getD (nk - 1) []) t' :: w)

/-- The round keys of a key of 16 or 32 bytes, first round first. -/
def aesKeys (key : Bytes) : List Bytes :=
  let nk := key.length / 4
  let nr := nk + 6
  let w0 := (List.range nk).map fun i => slice key (4 * i) 4
  let w := (aesExpand nk (4 * (nr + 1) - nk) 1 w0.reverse).reverse
  (List.range (nr + 1)).map fun r => (slice w.flatten (16 * r) 16)

/-- ShiftRows on a 16-byte state in column order. -/
def shiftRows (s : Bytes) : Bytes := (List.range 16).map fun i => s.getD ((i + 4 * (i % 4)) % 16) 0

/-- The inverse of ShiftRows. -/
def invShiftRows (s : Bytes) : Bytes := (List.range 16).map fun i => s.getD ((i + 12 * (i % 4)) % 16) 0

/-- MixColumns with the given first-row coefficients. -/
def mixColumns (c : List Byte) (s : Bytes) : Bytes :=
  (List.range 16).map fun i =>
    (List.range 4).foldl (fun acc j => acc ^^^ aesMul (s.getD (4 * (i / 4) + (i + j) % 4) 0) 8 (c.getD j 0)) 0

/-- AES encryption of one 16-byte block. -/
def aesEnc (key block : Bytes) : Bytes :=
  match aesKeys key with
  | [] => block
  | k0 :: ks =>
    let s := (ks.dropLast).foldl (fun s k => xorBytes (mixColumns [2, 3, 1, 1] (shiftRows (s.map aesSbox))) k) (xorBytes block k0)
    xorBytes (shiftRows (s.map aesSbox)) (ks.getLastD [])

/-- AES decryption of one 16-byte block. -/
def aesDec (key block : Bytes) : Bytes :=
  match (aesKeys key).reverse with
  | [] => block
  | kl :: ks =>
    let s := (ks.dropLast).foldl (fun s k => mixColumns [14, 11, 13, 9] (xorBytes ((invShiftRows s).map aesInvSbox) k)) (xorBytes block kl)
    xorBytes ((invShiftRows s).map aesInvSbox) (ks.getLastD [])

/-- Payload encryption of R329: counter mode, counter block ESEQ (8 bytes), zero (4 bytes), j (4 bytes). -/
def sealPayload (key : Bytes) (eseq : Nat) (p : Block) : Block :=
  let ks := (List.range 16).flatMap fun j => aesEnc key (leBytes 8 eseq ++ leBytes 4 0 ++ leBytes 4 j)
  p ^^^ bytesBv 2048 ks

/-- Multiply the XTS tweak by x (IEEE 1619). -/
def xtsDouble (t : Nat) : Nat := if bit t 127 then ((2 * t) % 2 ^ 128) ^^^ 0x87 else 2 * t

/-- AES-256-XTS of a 64-byte tier block number b under a key pair; `f` is the block cipher direction (R112). -/
def xts (f : Bytes → Bytes → Bytes) (k1 k2 : Bytes) (b : Nat) (d : Line) : Line :=
  let t0 := leNat (aesEnc k2 (leBytes 16 b))
  let out := (List.range 4).foldl (fun (s : Bytes × Nat) j =>
    let x := leBytes 16 s.2
    (s.1 ++ xorBytes (f k1 (xorBytes (bvBytes 16 (d.extractLsb' (128 * j) 128)) x)) x, xtsDouble s.2)) ([], t0)
  bytesBv 512 out.1

end Sys2Proof.Machine
end

