-- ==== Sys2Proof/Machine/Codes.lean ====
section
/-! DEFINITION. Check codes: the SRAM and tier line code over GF(256) (R102, R103), the tier address check (R110), the
flit CRC-32 (R314) and the RS(1120,1088) encoder over GF(1024) (R312). -/

namespace Sys2Proof.Machine

/-- Multiply by x in GF(2^w) with the field polynomial `poly` (its x^w term included). -/
def gfStep (w poly a : Nat) : Nat := if bit a (w - 1) then (2 * a) ^^^ poly else 2 * a

/-- Product in GF(2^w). -/
def gfMul (w poly a : Nat) : Nat → Nat → Nat
  | 0, _ => 0
  | n + 1, b => (if bit b 0 then a else 0) ^^^ gfMul w poly (gfStep w poly a) n (b / 2)

/-- Product in the field of R102, polynomial 0x11D. -/
def gf8 (a b : Nat) : Nat := gfMul 8 0x11D a 8 b

/-- Powers of α = 2 times `a` in the field of R102. -/
def gf8Pow (a : Nat) : Nat → Nat
  | 0 => a
  | n + 1 => gf8Pow (gfStep 8 0x11D a) n

/-- The three check bytes of a line's 64 data bytes (R102): the coefficients of x^3 d(x) mod g(x). -/
def checkBytes (d : Bytes) : Nat × Nat × Nat :=
  d.foldr (fun b (c : Nat × Nat × Nat) =>
    let f := b.toNat ^^^ c.2.2
    (gf8 f 0x08, c.1 ^^^ gf8 f 0x0E, c.2.1 ^^^ gf8 f 0x07)) (0, 0, 0)

/-- The syndrome S_j of an error pattern: symbol index and error value (a codeword has syndrome zero, R102). -/
def syndrome (j : Nat) (errs : List (Nat × Byte)) : Nat :=
  errs.foldl (fun acc e => acc ^^^ gf8Pow e.2.toNat (j * e.1)) 0

/-- The outcome of decoding a line (R103). -/
inductive EccOutcome where
  | clean
  | correctable (symbol : Nat) (error : Nat)
  | uncorrectable
  deriving DecidableEq, Repr

/-- Classify the error pattern of a line by its syndromes (R103). -/
def eccClassify (errs : List (Nat × Byte)) : EccOutcome :=
  let s0 := syndrome 0 errs
  let s1 := syndrome 1 errs
  let s2 := syndrome 2 errs
  if s0 = 0 ∧ s1 = 0 ∧ s2 = 0 then .clean
  else if s0 ≠ 0 ∧ s1 ≠ 0 ∧ s2 ≠ 0 ∧ gf8 s1 s1 = gf8 s0 s2 then
    match (List.range 67).find? fun i => gf8Pow s0 i == s1 with
    | some i => .correctable i s0
    | none => .uncorrectable
  else .uncorrectable

/-- The data of a line with an error pattern laid over it; symbol 3 + k is data byte k (R102). -/
def overlay (l : Line) (errs : List (Nat × Byte)) : Line :=
  errs.foldl (fun acc e => if 3 ≤ e.1 then acc ^^^ BitVec.ofNat 512 (e.2.toNat <<< (8 * (e.1 - 3))) else acc) l

/-- CRC-8 with polynomial x^8 + x^2 + x + 1, initial value 0 (R110). -/
def crc8 (b : Bytes) : Nat :=
  b.foldl (fun c x => (List.range 8).foldl (fun c _ => if bit c 7 then ((2 * c) ^^^ 0x107) % 256 else (2 * c) % 256) (c ^^^ x.toNat)) 0

/-- The CRC-32 of R314, as IEEE 802.3. -/
def crc32 (b : Bytes) : Nat :=
  0xFFFFFFFF ^^^ b.foldl (fun c x =>
    (List.range 8).foldl (fun c _ => if bit c 0 then (c / 2) ^^^ 0xEDB88320 else c / 2) (c ^^^ x.toNat)) 0xFFFFFFFF

/-- Product in GF(1024), polynomial x^10 + x^3 + 1 (R312). -/
def gf10 (a b : Nat) : Nat := gfMul 10 0x409 a 10 b

/-- Multiply a polynomial (lowest coefficient first) by (x + r) over GF(1024). -/
def gf10MulRoot (r : Nat) (p : List Nat) : List Nat :=
  List.zipWith (· ^^^ ·) (0 :: p) (p.map (gf10 r) ++ [0])

/-- The generator polynomial of RS(1120,1088), lowest coefficient first, its leading 1 last (R312). -/
def rsGenerator : List Nat :=
  ((List.range 32).foldl (fun (s : List Nat × Nat) _ => (gf10MulRoot s.2 s.1, gf10 s.2 2)) ([1], 1)).1

/-- The 32 parity symbols of a message, highest degree first (R312). -/
def rsParity (msg : List Nat) : List Nat :=
  let g := (rsGenerator.take 32).reverse
  msg.foldl (fun (rem : List Nat) m =>
    let f := m ^^^ rem.headD 0
    List.zipWith (fun r c => r ^^^ gf10 f c) (rem.drop 1 ++ [0]) g) (List.replicate 32 0)

/-- The 1,088 message symbols of five flits: 10 bits each, bytes least significant bit first (R312). -/
def rsMessage (flits : List Bytes) : List Nat :=
  let v := leNat flits.flatten
  (List.range 1088).map fun k => bits v (10 * k + 9) (10 * k)

/-- The codeword of five flits in transmission order (R312). -/
def rsCodeword (flits : List Bytes) : List Nat := let m := rsMessage flits; m ++ rsParity m

/-- The lane that carries symbol `n` of a direction with the given active lanes (R311). -/
def symbolLane (active : List Nat) (n : Nat) : Nat := active.getD (n % active.length) 0

/-- One bit through the self-synchronous scrambler x^58 + x^39 + 1, with the last 58 output bits (R311). -/
def scrambleBit (s : Nat) (b : Bool) : Nat × Bool :=
  let o := b != (bit s 57 != bit s 38)
  ((2 * s + (if o then 1 else 0)) % 2 ^ 58, o)

end Sys2Proof.Machine
end

