-- ==== Sys2Proof/Machine/Sha.lean ====
section
/-! DEFINITION. SHA-256, HMAC-SHA-256 (FIPS 198-1) and HKDF-SHA-256 (RFC 5869), which R179, R326, R359, R403, R482,
R533 and R536 use. -/

namespace Sys2Proof.Machine

/-- The 64 round constants of SHA-256. -/
def shaK : List Nat :=
  [0x428a2f98, 0x71374491, 0xb5c0fbcf, 0xe9b5dba5, 0x3956c25b, 0x59f111f1, 0x923f82a4, 0xab1c5ed5] ++
  [0xd807aa98, 0x12835b01, 0x243185be, 0x550c7dc3, 0x72be5d74, 0x80deb1fe, 0x9bdc06a7, 0xc19bf174] ++
  [0xe49b69c1, 0xefbe4786, 0x0fc19dc6, 0x240ca1cc, 0x2de92c6f, 0x4a7484aa, 0x5cb0a9dc, 0x76f988da] ++
  [0x983e5152, 0xa831c66d, 0xb00327c8, 0xbf597fc7, 0xc6e00bf3, 0xd5a79147, 0x06ca6351, 0x14292967] ++
  [0x27b70a85, 0x2e1b2138, 0x4d2c6dfc, 0x53380d13, 0x650a7354, 0x766a0abb, 0x81c2c92e, 0x92722c85] ++
  [0xa2bfe8a1, 0xa81a664b, 0xc24b8b70, 0xc76c51a3, 0xd192e819, 0xd6990624, 0xf40e3585, 0x106aa070] ++
  [0x19a4c116, 0x1e376c08, 0x2748774c, 0x34b0bcb5, 0x391c0cb3, 0x4ed8aa4a, 0x5b9cca4f, 0x682e6ff3] ++
  [0x748f82ee, 0x78a5636f, 0x84c87814, 0x8cc70208, 0x90befffa, 0xa4506ceb, 0xbef9a3f7, 0xc67178f2]

/-- The initial hash value of SHA-256. -/
def shaInit : List (BitVec 32) :=
  [0x6a09e667, 0xbb67ae85, 0x3c6ef372, 0xa54ff53a, 0x510e527f, 0x9b05688c, 0x1f83d9ab, 0x5be0cd19]

/-- The message schedule: 48 words after the block's 16, kept newest first. -/
def shaSchedule (n : Nat) (w : List (BitVec 32)) : List (BitVec 32) :=
  match n with
  | 0 => w
  | n + 1 =>
    let w2 := w.getD 1 0
    let w15 := w.getD 14 0
    let s0 := w15.rotateRight 7 ^^^ w15.rotateRight 18 ^^^ (w15 >>> 3)
    let s1 := w2.rotateRight 17 ^^^ w2.rotateRight 19 ^^^ (w2 >>> 10)
    shaSchedule n ((w.getD 15 0 + s0 + w.getD 6 0 + s1) :: w)

/-- One round of SHA-256 on (a, b, c, d, e, f, g, h). -/
def shaRound (v : List (BitVec 32)) (kw : BitVec 32) : List (BitVec 32) :=
  match v with
  | [a, b, c, d, e, f, g, h] =>
    let s1 := e.rotateRight 6 ^^^ e.rotateRight 11 ^^^ e.rotateRight 25
    let ch := (e &&& f) ^^^ (~~~e &&& g)
    let t1 := h + s1 + ch + kw
    let s0 := a.rotateRight 2 ^^^ a.rotateRight 13 ^^^ a.rotateRight 22
    let maj := (a &&& b) ^^^ (a &&& c) ^^^ (b &&& c)
    [t1 + s0 + maj, a, b, c, d + t1, e, f, g]
  | _ => v

/-- Compress one 64-byte block. -/
def shaBlock (h : List (BitVec 32)) (b : Bytes) : List (BitVec 32) :=
  let ws := (List.range 16).map fun i => BitVec.ofNat 32 (beNat (slice b (4 * i) 4))
  let w := (shaSchedule 48 ws.reverse).reverse
  let v := (List.zip shaK w).foldl (fun v kw => shaRound v (BitVec.ofNat 32 kw.1 + kw.2)) h
  List.zipWith (· + ·) h v

/-- Compress `n` blocks. -/
def shaBlocks (n : Nat) (h : List (BitVec 32)) (b : Bytes) : List (BitVec 32) :=
  match n with
  | 0 => h
  | n + 1 => shaBlocks n (shaBlock h b) (b.drop 64)

/-- SHA-256 of a message, 32 bytes. -/
def sha256 (m : Bytes) : Bytes :=
  let padLen := (119 - m.length % 64) % 64
  let p := m ++ [0x80] ++ List.replicate padLen 0 ++ beBytes 8 (8 * m.length)
  (shaBlocks (p.length / 64) shaInit p).flatMap fun w => beBytes 4 w.toNat

/-- HMAC-SHA-256 (FIPS 198-1). -/
def hmac (key m : Bytes) : Bytes :=
  let k := if key.length ≤ 64 then key else sha256 key
  let k := k ++ List.replicate (64 - k.length) 0
  sha256 (k.map (· ^^^ 0x5C) ++ sha256 (k.map (· ^^^ 0x36) ++ m))

/-- HKDF-SHA-256 expansion (RFC 5869): `n` blocks. -/
def hkdfExpand (prk info : Bytes) (n : Nat) : Bytes :=
  ((List.range n).foldl (fun (s : Bytes × Bytes) i =>
    let t := hmac prk (s.2 ++ info ++ [BitVec.ofNat 8 (i + 1)])
    (s.1 ++ t, t)) ([], [])).1

/-- HKDF-SHA-256 with an output of 64 bytes (R326). -/
def hkdf64 (salt ikm info : Bytes) : Bytes := hkdfExpand (hmac salt ikm) info 2

/-- ASCII bytes of a string. -/
def ascii (s : String) : Bytes := s.toList.map fun c => BitVec.ofNat 8 c.toNat

end Sys2Proof.Machine
end

