-- ==== Sys2Proof/Machine/P256.lean ====
section
/-! DEFINITION. ECDSA and ECDH on NIST P-256 (SEC 1), which R325 to R328, R405, R463 and R536 use. -/

namespace Sys2Proof.Machine

/-- The field prime of P-256. -/
def p256P : Nat := 0xFFFFFFFF00000001000000000000000000000000FFFFFFFFFFFFFFFFFFFFFFFF
/-- The group order of P-256. -/
def p256N : Nat := 0xFFFFFFFF00000000FFFFFFFFFFFFFFFFBCE6FAADA7179E84F3B9CAC2FC632551
/-- The coefficient b of P-256. -/
def p256B : Nat := 0x5AC635D8AA3A93E7B3EBBD55769886BC651D06B0CC53B0F63BCE3C3E27D2604B
/-- The base point of P-256. -/
def p256G : Nat × Nat :=
  (0x6B17D1F2E12C4247F8BCE6E563A440F277037D812DEB33A0F4A13945D898C296,
   0x4FE342E2FE1A7F9B8EE7EB4A7C0F9E162BCE33576B315ECECBB6406837BF51F5)

/-- Modular power, `n` exponent bits. -/
def powMod (m a : Nat) : Nat → Nat → Nat
  | 0, _ => 1
  | n + 1, e => let r := powMod m (a * a % m) n (e / 2); if e % 2 = 1 then a * r % m else r

/-- Inverse modulo a prime. -/
def invMod (p a : Nat) : Nat := powMod p (a % p) 256 (p - 2)

/-- Subtraction modulo p. -/
def subMod (p a b : Nat) : Nat := (a + p - b % p) % p

/-- Point addition; `none` is the point at infinity. -/
def ecAdd : Option (Nat × Nat) → Option (Nat × Nat) → Option (Nat × Nat)
  | none, q => q
  | p, none => p
  | some (x1, y1), some (x2, y2) =>
    let q := p256P
    if x1 = x2 ∧ (y1 + y2) % q = 0 then none
    else
      let l := if x1 = x2 then (3 * x1 * x1 + (q - 3)) * invMod q (2 * y1) % q
               else subMod q y2 y1 * invMod q (subMod q x2 x1) % q
      let x3 := subMod q (l * l) (x1 + x2)
      some (x3, subMod q (l * subMod q x1 x3) y1)

/-- Scalar multiplication, `n` scalar bits. -/
def ecMul (p : Option (Nat × Nat)) : Nat → Nat → Option (Nat × Nat)
  | 0, _ => none
  | n + 1, k => let r := ecMul (ecAdd p p) n (k / 2); if k % 2 = 1 then ecAdd p r else r

/-- The point lies on the curve (R327). -/
def onCurve (p : Nat × Nat) : Bool :=
  decide (p.1 < p256P) && decide (p.2 < p256P) &&
    (p.2 * p.2 % p256P == (p.1 * p.1 * p.1 + (p256P - 3) * p.1 + p256B) % p256P)

/-- A public key of 64 bytes, X then Y, big-endian. -/
def pointOf (b : Bytes) : Nat × Nat := (beNat (slice b 0 32), beNat (slice b 32 32))

/-- The 64 bytes of a point, X then Y, big-endian. -/
def pointBytes (p : Nat × Nat) : Bytes := beBytes 32 p.1 ++ beBytes 32 p.2

/-- The public key of a private scalar. -/
def publicOf (d : Nat) : Nat × Nat := (ecMul (some p256G) 256 (d % p256N)).getD (0, 0)

/-- The ECDH shared secret Z, 32 bytes (R326). -/
def ecdh (d : Nat) (q : Nat × Nat) : Bytes := beBytes 32 ((ecMul (some q) 256 d).getD (0, 0)).1

/-- ECDSA verification of a signature (r then s, 64 bytes) over SHA-256 of a message. -/
def ecdsaVerify (q : Nat × Nat) (msg sig : Bytes) : Bool :=
  let r := beNat (slice sig 0 32)
  let s := beNat (slice sig 32 32)
  if sig.length = 64 ∧ 0 < r ∧ r < p256N ∧ 0 < s ∧ s < p256N ∧ onCurve q = true then
    let e := beNat (sha256 msg)
    let w := invMod p256N s
    match ecAdd (ecMul (some p256G) 256 (e * w % p256N)) (ecMul (some q) 256 (r * w % p256N)) with
    | some (x, _) => x % p256N == r
    | none => false
  else false

/-- ECDSA signature with private key d and per-message secret k, 64 bytes. -/
def ecdsaSign (d k : Nat) (msg : Bytes) : Bytes :=
  let e := beNat (sha256 msg)
  let r := (publicOf k).1 % p256N
  let s := invMod p256N k * (e + r * d) % p256N
  beBytes 32 r ++ beBytes 32 s

end Sys2Proof.Machine
end

