-- ==== Sys2Proof/Config.lean ====
section
/-! DEFINITION. What an implementation of the MZN4 fixes and the spec leaves open: free values, each an opaque constant
with no body, so that a statement about one holds for every value (log 3). -/

namespace Sys2Proof.Config

/-- The finite VTR result of a function number and an FP32 input where R211 gives only an error bound (EXP2, LOG2,
SIN, COS, TANH, SIGMOID): a fixed map of the module (R211), not stated by the spec; the machine uses it where it keeps the bound.
Log 4. -/
opaque vtrValue : Nat → BitVec 32 → BitVec 32

/-- Draw number n of the DRBGs of R534 (link keys, nonces, BOOTID, tier keys). Log 3. -/
opaque drbg : Nat → BitVec 256

/-- The n-th choice among alternatives that the spec leaves to the implementation (R293, R295). Log 8. -/
opaque choice : Nat → Nat

/-- Lanes that have converged by the n-th training frame time of EQUALIZE (R324): the PHY's analog progress. Log 42. -/
opaque converged : Nat → BitVec 4

/-- The transmitter coefficient request that the n-th training frame time of EQUALIZE carries for a lane (R323): the spec gives it no
format. Log 42. -/
opaque coefficientRequest : Nat → Nat → Nat

/-- Position within its tick of the n-th flit's transmission, as the PHY interpolator measures it, in 2^-16 of a tick (R366). Log 44. -/
opaque phyFraction : Nat → BitVec 16

/-- The n-th byte string of a structure that only an external standard defines (R461, R463, R464). Log 5. -/
opaque externalBytes : Nat → List (BitVec 8)

/-- The per-message secret number of an ECDSA signature (SEC 1), fresh for each signature. Log 3. -/
opaque sigNonce : Nat → Nat

/-- Contents of the MC ROM of this implementation (R540 measurement 1). Log 6. -/
opaque romDigest : BitVec 256

/-- Mehrivo's endorsement public key in the MC ROM, X then Y (R327, R533). Log 6. -/
opaque endorsementKey : Nat × Nat

/-- SHA-256 of the firmware signing key, in the MC ROM (R533, R537). Log 6. -/
opaque firmwareKeyDigest : BitVec 256

/-- A measured analog quantity the dictionary reports (VIN, IIN, rail voltages ...), by 256 × index + sub-index and the number of
the reading. Log 7. -/
opaque measured : Nat → Nat → Nat

/-- SHA-256 of a firmware image, 0 MC and 1 I/O die, as the module leaves manufacture (R538, R540 measurements 2 and 3). Log 6. -/
opaque factoryDigest : Nat → BitVec 256

/-- A fixed byte string of the module that only an external standard defines: 1 supported logs, 2 Command Effects Log, 3 Identify
Memory Device, 4 the certificate chain of slot 0, 5 the CDAT header, 16 and up DOE Discovery answers (R461, R463, R464). Log 5. -/
opaque externalTable : Nat → List (BitVec 8)

end Sys2Proof.Config
end

