-- ==== Sys2Proof/Machine/Float.lean ====
section
/-! DEFINITION. Exact values and the one rounding of 04_number_formats.md (R118 to R125, R130 to R132, R136, R137). -/

namespace Sys2Proof.Machine

/-- An exact value: NaN, an infinity, or sign, magnitude integer and power of two (so that −0 is kept). -/
inductive Val where
  | nan
  | inf (neg : Bool)
  | fin (neg : Bool) (m : Nat) (e : Int)
  deriving DecidableEq, Repr

/-- The sticky conversion flags as bits: NX 1, SF 2, NV 4 (R137, R216). -/
abbrev Flags := Nat

/-- Exponent bits, mantissa bits and bias of a floating format code (R120). -/
def fpShape : Nat → Option (Nat × Nat × Nat)
  | 0 => some (8, 23, 127)
  | 1 => some (8, 7, 127)
  | 4 => some (4, 3, 7)
  | 5 => some (5, 2, 15)
  | 6 => some (3, 2, 3)
  | 7 => some (2, 3, 1)
  | 8 => some (2, 1, 1)
  | _ => none

/-- Element width in bits of a format code (R118). -/
def elemBits : Nat → Nat
  | 0 => 32 | 1 => 16 | 2 => 8 | 4 => 8 | 5 => 8 | 6 => 6 | 7 => 6 | 8 => 4 | 9 => 8 | _ => 8

/-- A format code names an MX block format (R118). -/
def isMx (f : Nat) : Bool := 4 ≤ f && f ≤ 9

/-- The power of two of an integer format's unit (R120): INT8 2^0, MXINT8 2^-6. -/
def intUnit (f : Nat) : Int := if f = 9 then -6 else 0

/-- The value of an element encoding before any block scale (R120, R121). -/
def decodeElem (f x : Nat) : Val :=
  match fpShape f with
  | none => let i := signed 8 x; .fin (decide (i < 0)) i.natAbs (intUnit f)
  | some (eb, mb, bias) =>
    let neg := bit x (eb + mb)
    let ex := bits x (eb + mb - 1) mb
    let mn := bits x (mb - 1) 0
    if f ∈ [0, 1, 5] ∧ ex = 2 ^ eb - 1 then (if mn = 0 then .inf neg else .nan)
    else if f = 4 ∧ ex = 15 ∧ mn = 7 then .nan
    else if ex = 0 then .fin neg mn (1 - (bias : Int) - mb)
    else .fin neg (2 ^ mb + mn) ((ex : Int) - bias - mb)

/-- Apply an E8M0 block scale (R122, R123). -/
def scaleVal (scale : Nat) (v : Val) : Val :=
  if scale = 0xFF then .nan
  else match v with
    | .fin n m e => .fin n m (e + (scale : Int) - 127)
    | w => w

/-- The canonical NaN of a format; INT8 and the formats without NaN give 0 (R125, R132). -/
def canonicalNaN : Nat → Nat
  | 0 => 0x7FC00000 | 1 => 0x7FC0 | 4 => 0x7F | 5 => 0x7E | _ => 0

/-- The largest finite magnitude of a format as integer and power of two (R121, R132); negative INT8 reaches 128. -/
def maxFinite (f : Nat) (neg : Bool) : Nat × Int :=
  match f with
  | 0 => (2 ^ 24 - 1, 104)
  | 1 => (255, 120)
  | 2 => (if neg then 128 else 127, 0)
  | 4 => (7, 6)
  | 5 => (7, 13)
  | 6 => (7, 2)
  | 7 => (15, -1)
  | 8 => (3, 1)
  | _ => (127, -6)

/-- a·2^x > b·2^y. -/
def magGt (a : Nat) (x : Int) (b : Nat) (y : Int) : Bool :=
  if x ≥ y then decide (a * 2 ^ (x - y).toNat > b) else decide (a > b * 2 ^ (y - x).toNat)

/-- Round m·2^e to a multiple of 2^ue: to nearest even (R130), or stochastically with a 16-bit draw (R131). The
multiple and whether it differs. -/
def roundUnit (sr : Option Nat) (m : Nat) (e ue : Int) : Nat × Bool :=
  if e ≥ ue then (m * 2 ^ (e - ue).toNat, false)
  else
    let s := (ue - e).toNat
    let i := m / 2 ^ s
    let r := m % 2 ^ s
    let up := match sr with
      | none => decide (2 * r > 2 ^ s) || (decide (2 * r = 2 ^ s) && i % 2 == 1)
      | some d => decide (r * 65536 / 2 ^ s + d ≥ 65536)
    (if up then i + 1 else i, r != 0)

/-- The power of two of the target's spacing at magnitude m·2^e, m ≠ 0 (R130). -/
def unitAt (f m : Nat) (e : Int) : Int :=
  match fpShape f with
  | none => intUnit f
  | some (_, mb, bias) => max (e + log2 m) (1 - (bias : Int)) - mb

/-- The encoding of magnitude q·2^ue, which the format represents (R120). -/
def encodeMag (f : Nat) (neg : Bool) (q : Nat) (ue : Int) : Nat :=
  match fpShape f with
  | none => unsigned 8 (if neg then -(q : Int) else (q : Int))
  | some (eb, mb, bias) =>
    let s := if neg then 2 ^ (eb + mb) else 0
    let norm := if q ≥ 2 ^ (mb + 1) then (q / 2, ue + 1) else (q, ue)
    if norm.1 < 2 ^ mb then s + norm.1
    else s + (norm.2 + mb + bias).toNat * 2 ^ mb + (norm.1 - 2 ^ mb)

/-- The encoding of the largest finite magnitude with a sign. -/
def encodeMax (f : Nat) (neg : Bool) : Nat :=
  let mx := maxFinite f neg
  match fpShape f with
  | none => encodeMag f neg mx.1 (intUnit f)
  | some (_, mb, _) =>
    let k := mb - log2 mx.1
    encodeMag f neg (mx.1 * 2 ^ k) (mx.2 - k)

/-- The encoding of an infinity in a format that has one (R121). -/
def encodeInf (f : Nat) (neg : Bool) : Nat :=
  match fpShape f with
  | some (eb, mb, _) => (if neg then 2 ^ (eb + mb) else 0) + (2 ^ eb - 1) * 2 ^ mb
  | none => 0

/-- Round an exact value to a format, with the flags it sets (R130 to R132, R134 for the NaN of E4M3 and E5M2). The
NaN of a format without one gives 0 here; R134's block rule is `toMxBlock`'s. -/
def roundTo (f : Nat) (sr : Option Nat) (v : Val) : Nat × Flags :=
  match v with
  | .nan => (canonicalNaN f, if f = 2 ∨ 6 ≤ f then 4 else 0)
  | .inf neg => if f ∈ [0, 1, 5] then (encodeInf f neg, 0) else (encodeMax f neg, 2)
  | .fin neg m e =>
    if m = 0 then (if (fpShape f).isSome then (encodeMag f neg 0 0, 0) else (0, 0))
    else
      let ue := unitAt f m e
      let (q, nx) := roundUnit sr m e ue
      let mx := maxFinite f neg
      if magGt q ue mx.1 mx.2 then
        if f ≤ 1 then (encodeInf f neg, 1)
        else (encodeMax f neg, if f = 2 then 3 else 1)
      else (encodeMag f neg q ue, if nx then 1 else 0)

/-- A finite value as an integer multiple of 2^u, where u is at most its own power. -/
def finInt (neg : Bool) (m : Nat) (e u : Int) : Int :=
  let a : Nat := m * 2 ^ (e - u).toNat
  if neg then -(a : Int) else (a : Int)

/-- The value of an integer times 2^e; an exact zero is +0 (R130). -/
def ofInt (i : Int) (e : Int) : Val := .fin (decide (i < 0)) i.natAbs e

/-- The exact product (R205); a zero keeps the XOR of the signs. -/
def mulVal : Val → Val → Val
  | .nan, _ => .nan
  | _, .nan => .nan
  | .inf a, .inf b => .inf (a != b)
  | .inf a, .fin b m _ => if m = 0 then .nan else .inf (a != b)
  | .fin b m _, .inf a => if m = 0 then .nan else .inf (a != b)
  | .fin a m e, .fin b n f => .fin (a != b) (m * n) (e + f)

/-- The exact sum of two terms (R205). -/
def addVal : Val → Val → Val
  | .nan, _ => .nan
  | _, .nan => .nan
  | .inf a, .inf b => if a = b then .inf a else .nan
  | .inf a, .fin .. => .inf a
  | .fin .., .inf a => .inf a
  | .fin a m e, .fin b n f =>
    if m = 0 ∧ n = 0 then .fin (a && b) 0 0
    else let u := min e f; ofInt (finInt a m e u + finInt b n f u) u

/-- The value with its sign inverted (R205, VSUB). -/
def negVal : Val → Val
  | .nan => .nan
  | .inf a => .inf (!a)
  | .fin a m e => .fin (!a) m e

/-- Exact sum of a list of terms (R210); every input −0 gives −0. -/
def sumVal (l : List Val) : Val :=
  match l with
  | [] => .fin false 0 0
  | v :: vs => vs.foldl addVal v

/-- Compare two values that are not NaN, −0 equal to +0. -/
def cmpVal : Val → Val → Ordering
  | .nan, _ => .eq
  | _, .nan => .eq
  | .inf a, .inf b => if a = b then .eq else if a then .lt else .gt
  | .inf a, .fin .. => if a then .lt else .gt
  | .fin .., .inf a => if a then .gt else .lt
  | .fin a m e, .fin b n f => let u := min e f; compare (finInt a m e u) (finInt b n f u)

/-- The greater (or, with `least`, the lesser) of two values, +0 above −0 (R206, R210). -/
def maxVal (least : Bool) (a b : Val) : Val :=
  match a, b with
  | .nan, _ => .nan
  | _, .nan => .nan
  | _, _ =>
    match cmpVal a b with
    | .lt => if least then a else b
    | .gt => if least then b else a
    | .eq => match a, b with
      | .fin na ma ea, .fin nb _ _ => if ma = 0 then .fin (if least then na || nb else na && nb) 0 ea else a
      | _, _ => a

/-- Integer square root by bits. -/
def isqrt : Nat → Nat → Nat
  | 0, _ => 0
  | n + 1, v => let r := 2 * isqrt n (v / 4); if (r + 1) * (r + 1) ≤ v then r + 1 else r

/-- 1 / (m·2^e) with one sticky bit below 64 quotient bits, so that one rounding is correct (R211 RCP). -/
def recipVal (neg : Bool) (m : Nat) (e : Int) : Val :=
  let k := 2 * log2 m + 64
  let q := 2 ^ k / m
  .fin neg (2 * q + (if 2 ^ k % m = 0 then 0 else 1)) (-(k : Int) - 1 - e)

/-- 1 / √(m·2^e) with one sticky bit (R211 RSQRT). -/
def rsqrtVal (m : Nat) (e : Int) : Val :=
  let (m, e) := if e % 2 = 0 then (m, e) else (2 * m, e - 1)
  let k := log2 m + 64
  let r := isqrt (k + 1) (2 ^ (2 * k) / m)
  .fin false (2 * r + (if r * r * m = 2 ^ (2 * k) then 0 else 1)) (-(k : Int) - 1 - e / 2)

end Sys2Proof.Machine
end

