-- ==== Sys2Proof/Machine/Formats.lean ====
section
/-! DEFINITION. MX blocks: layout in lines and registers (R126, R127, R189) and conversion into a block (R133, R134). -/

namespace Sys2Proof.Machine

/-- One MX block: its scale encoding and its 32 element encodings. -/
structure MxBlock where
  scale : Nat
  elems : List Nat
  deriving DecidableEq, Repr

/-- `n` elements of `w` bits from bit offset `o` of a number. -/
def unpack (v o w n : Nat) : List Nat := (List.range n).map fun i => bits v (o + w * i + w - 1) (o + w * i)

/-- The number whose `w`-bit elements from bit offset `o` are the list. -/
def pack (o w : Nat) (l : List Nat) : Nat := (l.foldr (fun x acc => x % 2 ^ w + 2 ^ w * acc) 0) * 2 ^ o

/-- Byte offset of the scale of block `h` in an activation row (R127). -/
def rowScaleByte (f h : Nat) : Nat := if f = 6 ∨ f = 7 then 24 else 32 + h

/-- Block `h` of an activation row or packed quarter (R127); h is 0 but for MXFP4. -/
def rowBlock (f : Nat) (l : Line) (h : Nat) : MxBlock :=
  let w := elemBits f
  { scale := bits l.toNat (8 * rowScaleByte f h + 7) (8 * rowScaleByte f h)
    elems := unpack l.toNat (if f = 8 then 128 * h else 0) w 32 }

/-- Blocks in one activation row (R127). -/
def rowBlocks (f : Nat) : Nat := if f = 8 then 2 else 1

/-- Blocks per register in packed MX form (R189). -/
def regBlocks (f : Nat) : Nat := 4 * rowBlocks f

/-- Block j of a register sequence in packed MX form (R189). -/
def packedBlock (f : Nat) (regs : List Block) (j : Nat) : MxBlock :=
  let r := regs.getD (j / regBlocks f) 0
  let k := j % regBlocks f
  rowBlock f (lineOf r (k / rowBlocks f)) (k % rowBlocks f)

/-- A block placed as block `k` of a register; every byte it does not assign is zero (R189). -/
def placeBlock (f k : Nat) (b : MxBlock) : Block :=
  let q := k / rowBlocks f
  let h := k % rowBlocks f
  let base := 512 * q
  BitVec.ofNat 2048 (pack (base + (if f = 8 then 128 * h else 0)) (elemBits f) b.elems
    + b.scale % 256 * 2 ^ (base + 8 * rowScaleByte f h))

/-- Registers in packed MX form holding a list of blocks (R189). -/
def packBlocks (f : Nat) (bs : List MxBlock) : List Block :=
  let n := regBlocks f
  (List.range (ceilDiv bs.length n)).map fun r =>
    (List.range n).foldl (fun acc k => match bs[n * r + k]? with
      | some b => acc ||| placeBlock f k b
      | none => acc) 0

/-- emax of R133. -/
def blockEmax : Nat → Int
  | 4 => 8 | 5 => 15 | 6 => 4 | 7 => 2 | 8 => 2 | _ => 0

/-- ⌊log₂⌋ of the largest finite non-zero magnitude of the values, if any (R133). -/
def amaxLog (vs : List Val) : Option Int :=
  vs.foldl (fun acc v => match v with
    | .fin _ m e => if m = 0 then acc else
        let l := e + log2 m
        match acc with | none => some l | some a => some (max a l)
    | _ => acc) none

/-- The scale exponent X of R133. -/
def blockScale (f : Nat) (vs : List Val) : Int :=
  match amaxLog vs with
  | none => 0
  | some l => max (-127) (min 127 (l - blockEmax f))

/-- Convert 32 values into one MX block (R133, R134), with the flags set; `draw e` is element e's draw, none for RNE. -/
def toMxBlock (f : Nat) (vs : List Val) (draws : List (Option Nat)) : MxBlock × Flags :=
  let x := blockScale f vs
  if 6 ≤ f ∧ vs.any (· == .nan) then ({ scale := 0xFF, elems := List.replicate 32 0 }, 4)
  else
    let rs := List.zipWith (fun v d => roundTo f d (match v with | .fin n m e => .fin n m (e - x) | w => w)) vs draws
    ({ scale := (x + 127).toNat, elems := rs.map (·.1) }, rs.foldl (fun a r => a ||| r.2) 0)

/-- The exact values of a block's elements (R123). -/
def blockVals (f : Nat) (b : MxBlock) : List Val := b.elems.map fun x => scaleVal b.scale (decodeElem f x)

/-- The first `n` values of a register of format `f` (R213). -/
def regVals (f n : Nat) (r : Block) : List Val :=
  if isMx f then ((List.range (n / 32)).map fun j => blockVals f (packedBlock f [r] j)).flatten
  else (unpack r.toNat 0 (elemBits f) n).map (decodeElem f)

/-- A register holding converted values, with the flags set; `draws` gives each output element's draw (R213, R214). -/
def valsReg (f : Nat) (vs : List Val) (draws : List (Option Nat)) : Block × Flags :=
  if isMx f then
    let bs := (List.range (vs.length / 32)).map fun j => toMxBlock f ((vs.drop (32 * j)).take 32) ((draws.drop (32 * j)).take 32)
    ((packBlocks f (bs.map (·.1))).headD 0, bs.foldl (fun a r => a ||| r.2) 0)
  else
    let rs := List.zipWith (roundTo f) draws vs
    (BitVec.ofNat 2048 (pack 0 (elemBits f) (rs.map (·.1))), rs.foldl (fun a r => a ||| r.2) 0)

end Sys2Proof.Machine
end

