-- ==== Sys2Proof/Machine/Accum.lean ====
section
/-! DEFINITION. Exact accumulation: contributions, columns, long-sum words and the one final rounding
(05_exact_accumulation.md). -/

namespace Sys2Proof.Machine

/-- One accumulator column (R142). -/
structure Col where
  sum   : BitVec 192 := 0
  flags : BitVec 16 := 0
  count : BitVec 32 := 0
  deriving DecidableEq, Repr

/-- One contribution: the exact value i·2^e and the flags it sets (R139, R141). -/
structure Contrib where
  i     : Int
  e     : Int
  flags : Nat
  deriving DecidableEq, Repr

/-- FLAGS bits of R149. -/
def flTR : Nat := 1
def flSAT : Nat := 2
def flNAN : Nat := 4
def flPINF : Nat := 8
def flNINF : Nat := 16
def flCNT : Nat := 32
def flPSN : Nat := 64

/-- The power of two of an element integer's unit (R140). -/
def elemUnit : Nat → Int
  | 4 => -9 | 5 => -16 | 6 => -4 | 7 => -3 | 8 => -1 | _ => -6

/-- The element integer (R140). -/
def elemInt (f x : Nat) : Int :=
  match decodeElem f x with
  | .fin n m e => finInt n m e (elemUnit f)
  | _ => 0

/-- The flags of one product by its factors' values (R141). -/
def productFlags (a b : Val) : Nat :=
  match mulVal a b with
  | .nan => flNAN
  | .inf neg => if neg then flNINF else flPINF
  | .fin .. => 0

/-- The scaled block partial of two blocks (R139 to R141). -/
def blockPartial (fa fw : Nat) (a w : MxBlock) : Contrib :=
  if a.scale = 0xFF ∨ w.scale = 0xFF then ⟨0, 0, flNAN⟩
  else
    let ps := List.zip a.elems w.elems
    let fl := ps.foldl (fun acc p => acc ||| productFlags (decodeElem fa p.1) (decodeElem fw p.2)) 0
    let i := ps.foldl (fun acc p =>
      if productFlags (decodeElem fa p.1) (decodeElem fw p.2) = 0 then acc + elemInt fa p.1 * elemInt fw p.2 else acc) (0 : Int)
    ⟨i, elemUnit fa + elemUnit fw + (a.scale : Int) - 127 + (w.scale : Int) - 127, fl⟩

/-- One BF16 product (R140, R141). -/
def bf16Product (x y : Nat) : Contrib :=
  match mulVal (decodeElem 1 x) (decodeElem 1 y) with
  | .nan => ⟨0, 0, flNAN⟩
  | .inf neg => ⟨0, 0, if neg then flNINF else flPINF⟩
  | .fin neg m e => ⟨if neg then -(m : Int) else (m : Int), e, 0⟩

/-- The integer t a contribution enters as under window base b, with TR and SAT (R145). -/
def windowInt (c : Contrib) (b : Int) : Int × Nat :=
  let a := c.i.natAbs
  let sh := c.e - b
  let t := if sh ≥ 0 then a * 2 ^ sh.toNat else a / 2 ^ (-sh).toNat
  let tr := if sh < 0 ∧ a % 2 ^ (-sh).toNat ≠ 0 then flTR else 0
  let mx := 2 ^ 159 - 1
  let t' := if t > mx then mx else t
  (if c.i < 0 then -(t' : Int) else (t' : Int), tr ||| (if t > mx then flSAT else 0))

/-- Add one contribution into a column under window base b (R145, R146). -/
def addContrib (b : Int) (k : Col) (c : Contrib) : Col :=
  let w := windowInt c b
  let fl := k.flags ||| BitVec.ofNat 16 (c.flags ||| w.2)
  if k.count = BitVec.allOnes 32 then { sum := 0, flags := fl ||| BitVec.ofNat 16 flCNT, count := k.count }
  else if k.flags.getLsbD 5 then { sum := 0, flags := fl, count := k.count + 1 }
  else { sum := k.sum + BitVec.ofInt 192 w.1, flags := fl, count := k.count + 1 }

/-- Set PSN in a column (R150). -/
def poisonCol (p : Bool) (k : Col) : Col := if p then { k with flags := k.flags ||| BitVec.ofNat 16 flPSN } else k

/-- A long-sum word (R151): one column with its window base. -/
structure Lsw where
  col  : Col
  wexp : Int
  deriving DecidableEq, Repr

/-- Read a long-sum word from 256 bits; reserved FLAGS bits are ignored (R151, R152). -/
def Lsw.ofBits (x : BitVec 256) : Lsw :=
  { col := { sum := x.extractLsb' 0 192, flags := x.extractLsb' 208 16 &&& 0x7F, count := x.extractLsb' 224 32 }
    wexp := signed 16 (x.extractLsb' 192 16).toNat }

/-- The 256 bits of a long-sum word (R151). -/
def Lsw.toBits (w : Lsw) : BitVec 256 :=
  w.col.count ++ w.col.flags ++ BitVec.ofInt 16 w.wexp ++ w.col.sum

/-- The sum of two long-sum states that share a window (R152). -/
def joinCol (a b : Col) : Col :=
  let fl := (a.flags ||| b.flags) &&& 0x7F
  if a.count.toNat + b.count.toNat > 0xFFFFFFFF ∨ a.flags.getLsbD 5 ∨ b.flags.getLsbD 5 then
    { sum := 0, flags := fl ||| BitVec.ofNat 16 flCNT, count := BitVec.allOnes 32 }
  else { sum := a.sum + b.sum, flags := fl, count := a.count + b.count }

/-- The value ACCOUT rounds for a column (R156, R157). -/
def colVal (wb : Int) (k : Col) : Val :=
  if k.flags.getLsbD 5 ∨ k.flags.getLsbD 2 then .nan
  else if k.flags.getLsbD 3 ∧ k.flags.getLsbD 4 then .nan
  else if k.flags.getLsbD 3 then .inf false
  else if k.flags.getLsbD 4 then .inf true
  else ofInt k.sum.toInt wb

end Sys2Proof.Machine
end

