-- ==== Sys2Proof/Syntax.lean ====
section
/-! DEFINITION. The commands of the block: one constructor of `Instr` for each row of spec/opcode_table.json (R-numbers
in the docstrings are the rows'). -/

namespace Sys2Proof

/-- The functions of R489 and R572 that have an enable and a state entry. -/
inductive Func where
  | port (p : Nat)
  | sramScrub
  | tierScrub
  | compute
  deriving DecidableEq, Repr

/-- What a DMA read of host memory was for (R400, R454, R539). -/
inductive HostRd where
  | cpb (slot : Nat)
  | image (slot : Nat)
  | manifest (slot : Nat)
  | descriptor (port ring : Nat)
  deriving DecidableEq, Repr

/-- A drove link, 0x10000 + port or the output that feeds it, and whether the CRC-32 of its oldest flit fails there (R255). -/
structure LinkFlit where
  link : Nat
  crcBad : Bool := false
  deriving DecidableEq, Repr

/-- A drove link on which a HOLD flit comes in, and the flit's PEN (R254, R263, R282). -/
structure LinkHold where
  link : Nat
  pen : Nat
  deriving DecidableEq, Repr

/-- A slot time of a node of the stray network, and the outputs whose stray flit of it fails its CRC-32 behind them (R287, R295). -/
structure StraySlot where
  node : Nat
  bad : List Nat := []
  deriving DecidableEq, Repr

/-- The lanes whose receiver has equalized, and the lane number that the frames of each of L0 to L3 carry (R324). -/
structure LaneFrames where
  set : BitVec 4
  numbers : List Nat := [0, 1, 2, 3]
  deriving DecidableEq, Repr

/-- A register of a CXL function whose place only the external standards give: of configuration space, or of BAR0's component registers
(R436 to R439, R454, R455, R460, R467). -/
inductive FuncReg where
  | serialNumber              -- Device Serial Number: MODID (R437)
  | registerLocator           -- BAR0 offsets of the device and the component registers (R439)
  | cxlResetCapable           -- the CXL Reset capability bit (R436)
  | bar (n : Nat)             -- BAR0, BAR2 (R439)
  | aerStatus                 -- AER uncorrectable error status (R436, R465)
  | aerHeader                 -- what AER logged of the first error's request (R443)
  | msixControl               -- MSI-X function mask, bit 14 (R460)
  | viralControl              -- Viral enable, bit 0 (R467)
  | hdmControl                -- HDM decoder control, a component register: bit 9 commit (R455)
  | other (offset : Nat)
  deriving DecidableEq, Repr

/-- The target of REGISTER_WRITE: a dictionary entry or a register of a CXL port without a row of its own. The table has no row for a
read of such a register: the three read forms stand here, and take no data. -/
inductive RegTgt where
  | dict (index sub : Nat)
  | bar0 (port offset size : Nat)
  | func (port : Nat) (reg : FuncReg)
  | bar0Read (port offset size : Nat)
  | funcRead (port : Nat) (reg : FuncReg)
  deriving DecidableEq, Repr

/-- The failure of a start-up step (R565). -/
inductive StartFailure where
  | noBank                    -- step 2, no bank verifies
  | rail (n : Nat)            -- step 3
  | pll (die : Nat)           -- step 4
  | channel (n : Nat)         -- step 5, code 3
  | tierSlow                  -- step 5, code 4
  | site (core : Nat)         -- step 5, a site failed its test (R76): start-up goes on
  deriving DecidableEq, Repr

/-- The PLLs of R558 and the reference, as R561 groups them. -/
inductive Pll where
  | compute (die : Nat)
  | fabricPorts (iod : Nat)
  | memory (iod : Nat)
  | cxl (port : Nat)
  | ioFabric (iod : Nat)
  | mc
  | timeUnit
  | reference
  deriving DecidableEq, Repr

/-- A fold flit's payload (R278). -/
structure FoldMsg where
  fold   : Nat
  tally  : Nat
  status : Nat
  reason : Nat
  fmod   : Nat
  fsite  : Nat
  nfail  : Nat
  deriving DecidableEq, Repr

/-- The commands, one constructor per opcode-table row, in the table's order. -/
inductive Instr where
  -- C slot (R167, R220 to R222, R231, R235)
  | nop (core : Nat) (slot : Fin 5)
  | add (core : Nat) (d a b : BitVec 5)
  | sub (core : Nat) (d a b : BitVec 5)
  | and (core : Nat) (d a b : BitVec 5)
  | or (core : Nat) (d a b : BitVec 5)
  | xor (core : Nat) (d a b : BitVec 5)
  | shl (core : Nat) (d a b : BitVec 5)
  | shr (core : Nat) (d a b : BitVec 5)
  | sar (core : Nat) (d a b : BitVec 5)
  | cmpeq (core : Nat) (d a b : BitVec 5)
  | cmplt (core : Nat) (d a b : BitVec 5)
  | cmpltu (core : Nat) (d a b : BitVec 5)
  | mul (core : Nat) (d a b : BitVec 5)
  | mov (core : Nat) (d a : BitVec 5)
  | addi (core : Nat) (d a : BitVec 5) (imm : BitVec 32)
  | subi (core : Nat) (d a : BitVec 5) (imm : BitVec 32)
  | andi (core : Nat) (d a : BitVec 5) (imm : BitVec 32)
  | ori (core : Nat) (d a : BitVec 5) (imm : BitVec 32)
  | xori (core : Nat) (d a : BitVec 5) (imm : BitVec 32)
  | shli (core : Nat) (d a : BitVec 5) (imm : BitVec 32)
  | shri (core : Nat) (d a : BitVec 5) (imm : BitVec 32)
  | sari (core : Nat) (d a : BitVec 5) (imm : BitVec 32)
  | cmpeqi (core : Nat) (d a : BitVec 5) (imm : BitVec 32)
  | cmplti (core : Nat) (d a : BitVec 5) (imm : BitVec 32)
  | cmpltui (core : Nat) (d a : BitVec 5) (imm : BitVec 32)
  | muli (core : Nat) (d a : BitVec 5) (imm : BitVec 32)
  | li (core : Nat) (d : BitVec 5) (imm : BitVec 32)
  | lih (core : Nat) (d a : BitVec 5) (imm : BitVec 32)
  | br (core : Nat) (off : BitVec 19)
  | beqz (core : Nat) (a : BitVec 5) (off : BitVec 19)
  | bnez (core : Nat) (a : BitVec 5) (off : BitVec 19)
  | bltz (core : Nat) (a : BitVec 5) (off : BitVec 19)
  | bgez (core : Nat) (a : BitVec 5) (off : BitVec 19)
  | bdec (core : Nat) (a : BitVec 5) (off : BitVec 19)
  | hurdle (core : Nat) (classes : BitVec 5)
  | fold (core : Nat) (index : BitVec 10)
  | rdtally (core : Nat) (d : BitVec 5)
  | flgrd (core : Nat) (d : BitVec 5)
  | flgclr (core : Nat)
  -- M slot (R169)
  | lds (core : Nat) (rel : Bool) (d : BitVec 5) (ea : BitVec 22)
  | ldv (core : Nat) (rel : Bool) (d : BitVec 5) (ea : BitVec 22)
  | stv (core : Nat) (v : BitVec 5) (ea : BitVec 22)
  | mxload (core : Nat) (rel : Bool) (fmt : BitVec 4) (wt : BitVec 1) (ea : BitVec 22)
  | kvapp (core : Nat) (v : BitVec 5) (kvs : BitVec 4)
  | kvcommit (core : Nat) (a : BitVec 5) (kvs : BitVec 4)
  | kvdrop (core : Nat) (kvs : BitVec 4)
  -- X slot (R171)
  | mxstream (core : Nat) (wt : BitVec 1) (afmt : BitVec 4) (rel : Bool) (acc cnt : BitVec 7) (line : BitVec 18)
  | accout (core : Nat) (acc : BitVec 7) (cnt : BitVec 3) (ofmt : BitVec 4) (d : BitVec 5)
  | accclr (core : Nat) (acc cnt : BitVec 7) (ws : Bool) (wb : BitVec 11) (sw : BitVec 5)
  -- V slot (R172)
  | vfma (core : Nat) (d a b c : BitVec 5) (fmt : BitVec 4)
  | vadd (core : Nat) (d a b : BitVec 5) (fmt : BitVec 4)
  | vsub (core : Nat) (d a b : BitVec 5) (fmt : BitVec 4)
  | vmul (core : Nat) (d a b : BitVec 5) (fmt : BitVec 4)
  | vmax (core : Nat) (d a b : BitVec 5) (fmt : BitVec 4)
  | vmin (core : Nat) (d a b : BitVec 5) (fmt : BitVec 4)
  | vcmp (core : Nat) (d a b : BitVec 5) (fmt sub : BitVec 4)
  | vsel (core : Nat) (d a b c : BitVec 5)
  | vand (core : Nat) (d a b : BitVec 5)
  | vor (core : Nat) (d a b : BitVec 5)
  | vxor (core : Nat) (d a b : BitVec 5)
  | viadd (core : Nat) (d a b : BitVec 5) (sub : BitVec 4)
  | visub (core : Nat) (d a b : BitVec 5) (sub : BitVec 4)
  | vimul (core : Nat) (d a b : BitVec 5) (sub : BitVec 4)
  | vshl (core : Nat) (d a b : BitVec 5) (sub : BitVec 4)
  | vshr (core : Nat) (d a b : BitVec 5) (sub : BitVec 4)
  | vsar (core : Nat) (d a b : BitVec 5) (sub : BitVec 4)
  | vcvt (core : Nat) (d a dr : BitVec 5) (sfmt dfmt : BitVec 4) (sr : Bool)
  | vred (core : Nat) (d a : BitVec 5) (fmt sub : BitVec 4)
  | vtr (core : Nat) (d a : BitVec 5) (fmt sub : BitVec 4)
  | gemv (core : Nat) (wfmt afmt : BitVec 4) (a : BitVec 5) (acc : BitVec 7) (cg : BitVec 1) (beats : BitVec 6) (rel : Bool)
      (line : BitVec 18)
  | lswadd (core : Nat) (a : BitVec 5) (acc : BitVec 7) (g : BitVec 2)
  | rngfill (core : Nat) (d : BitVec 5) (seed : BitVec 2) (idx : BitVec 16)
  | vbcast (core : Nat) (d a : BitVec 5) (fmt : BitVec 4)
  -- L slot (R174)
  | send (core : Nat) (v : BitVec 5) (flow : BitVec 10)
  | recv (core : Nat) (d : BitVec 5) (rel : Bool) (line : BitVec 18)
  | lswsend (core : Nat) (acc : BitVec 7) (flow : BitVec 10)
  | strayw (core : Nat) (v t : BitVec 5) (len : BitVec 2) (msk : Bool) (m : BitVec 5)
  | straya (core : Nat) (v t : BitVec 5) (aop : BitVec 3) (w : Bool) (p : BitVec 5)
  -- core and memory events (R21, R42, R50, R55, R61 to R117)
  | resultLands (core : Nat)
  | tileReady (core : Nat) (buf : BitVec 1)
  | holdRequest (core : Nat) (cause : Nat)
  | holdEnd (core : Nat) (cause : Nat)
  | stepBegin (core : Nat)
  | stepReportReceive (core flow receiver tally : Nat)
  | fetchRead (core : Nat)
  | runaheadRead (core : Nat) (line : Nat)
  | streamerRequest (slot entry k : Nat)
  | streamerLanding (slot core line epoch : Nat)
  | inboundLineWrite (core bank : Nat)
  | eccWriteback (core : Nat)
  | sramPatrolScrub (core : Nat)
  | hostAccessWaitHold (core : Nat)
  | bankConflictOverrun (core : Nat)
  | tierRefresh (channel rank bank : Nat)
  | tierEccBlockEvict (channel : Nat)
  | tierPatrolScrub
  -- drove fabric (R251 to R275)
  | droveFlitDepart (out : Nat)
  | droveFlitArrive (input : LinkFlit)
  | positionDue (out : Nat)
  | holdFlitArrive (input : LinkHold) (cause step pos omod osite : Nat)
  | holdFlitDepart (out : Nat)
  | portHoldGenerate (port : Nat)
  | droveStall (core flow : Nat)
  -- folds (R235, R236, R279 to R281, R602)
  | foldArrivalSend (core : Nat)
  | foldArrivalComplete
  | foldUpReceive (port : Nat) (m : FoldMsg)
  | foldDownReceive (port : Nat) (m : FoldMsg)
  | foldOutcomeReachCore (core : Nat)
  | foldTimeout
  -- stray network (R290 to R306)
  | strayRoute (node : StraySlot)
  | strayAgeTick (packet : Nat)
  | strayEject (core : Nat)
  | strayRequestPerform (core : Nat)
  | strayResponseLand (dest : Nat)
  | strayResponseTimeout (source rtag : Nat)
  -- Xancel link (R313 to R347)
  | codewordReceive (port : Nat) (errorLanes : List Nat)
  | codewordLockLoss (port : Nat)
  | flitTimeTransmit (port : Nat)
  | sequencedFlitReceive (port : Nat) (raw : Bytes)
  | ackReceive (port : Nat) (ackseq : BitVec 16) (retry : Bool) (nakid : BitVec 3)
  | creditReceive (port : Nat) (dfree : BitVec 10) (req rsp ereq ersp : BitVec 2)
  | stepMessageReceive (port : Nat) (tally : BitVec 16)
  | ackTimeout (port : Nat)
  | replayRetryLimit (port : Nat)
  | switchReceive (port : Nat) (mask : BitVec 4) (cw : BitVec 16)
  | laneSwitchEffect (port : Nat)
  | addReqReceive (port : Nat) (mask : BitVec 4)
  | withdrawReceive (port : Nat)
  | retrainReqReceive (port : Nat)
  | laneDropThreshold (port lane : Nat)
  | laneAddLocked (port : Nat)
  | laneAddTimeout (port : Nat)
  | laneAddRetry (port lane : Nat)
  | portSignalDetect (port : Nat)
  | equalizeEnd (port : Nat) (rxSet : LaneFrames) (peerSet : BitVec 4)
  | trainFlitReceive (port : Nat) (payload : Block)
  | lockTimeout (port : Nat)
  | sealHelloSend (port : Nat)
  | sealHelloReceive (port : Nat) (payload : Block)
  | sealProofReceive (port : Nat) (payload : Block)
  | sealTimeout (port : Nat)
  | retrainRelock (port : Nat) (rxSet peerSet : BitVec 4)
  | retrainTimeout (port : Nat)
  | linkResetReceive (port reason : Nat)
  -- discovery and muster (R357 to R361)
  | discoveryProbeSend (port : Nat)
  | discoveryProbeReceive (port : Nat) (payload : Block) (stamp : BitVec 64)
  | discoveryReplyReceive (port : Nat) (payload : Block) (stamp : BitVec 64)
  | portClassify (port : Nat)
  | musterRecordReceive (port : Nat) (payload : Block)
  | musterReadyReceive (port : Nat) (payload : Block)
  | musterFailReceive (port : Nat) (payload : Block)
  | musterRepeat
  | musterTimeout
  -- time (R371 to R380, R583)
  | syncEdge (count : Nat) (stamp : BitVec 64)
  | rackrefLoss
  | syncArm (ts : BitVec 64)
  | netAtEdge
  | netNow
  | rejoin
  | coast
  | refAtEdge
  | timeRequestSend
  | timeRequestReceive (port : Nat) (payload : Block) (stamp : BitVec 64)
  | timeReplyReceive (port : Nat) (payload : Block) (stamp : BitVec 64)
  | slewEnd
  | timeParentLost
  -- contexts (R418 to R433)
  | load (slot : Nat)
  | unload (slot : Nat)
  | muster (slot : Nat)
  | abort (slot : Nat)
  | kill (slot : Nat)
  | shardAttemptEnd (slot shard : Nat) (fetched : Option Bytes)
  | shardFetchTimeout (slot shard : Nat)
  | unloadComplete (slot : Nat)
  | kvReset (slot kvs core reserved toff : Nat)
  | kvSpill (slot kvs core reserved toff : Nat)
  -- host attachment (R436 to R467, R577)
  | hostWindowWrite (port offset : Nat) (data : Bytes)
  | hostWindowRead (port offset length : Nat)
  | ringEnable (port ring : Nat)
  | ringDisable (port ring : Nat)
  | sqTail (port ring value : Nat)
  | tailLineSnoop (port ring value : Nat)
  | descriptorStart (port ring : Nat)
  | h2d (port ring index : Nat) (data : Option Bytes)
  | d2h (port ring index : Nat)
  | zero (port ring index : Nat)
  | tierRelease (port ring index : Nat)
  | descNop (port ring index : Nat)
  | descriptorComplete (port ring index : Nat)
  | cxlMemRead (port ta : Nat) (keep : Bool)
  | cxlMemWrite (port ta : Nat) (data : Line) (poison : Bool)
  | bisnpinvResponse (port line : Nat) (writeback : Option Line)
  | hdmCommit (port : Nat)
  | cxlLinkDown (port : Nat)
  | functionLevelReset (port : Nat)
  | perstAssert (port : Nat)
  | ideStreamInsecure (port stream : Nat)
  | getEventRecords (port log : Nat)
  | clearEventRecords (port log : Nat) (all : Bool) (handles : List Nat)
  | getEventInterruptPolicy (port : Nat)
  | setEventInterruptPolicy (port : Nat) (policy : Bytes)
  | getSupportedLogs (port : Nat)
  | getLog (port : Nat) (offset length : Nat)
  | identifyMemoryDevice (port : Nat)
  | getTimestamp (port : Nat)
  | setTimestamp (port : Nat) (value : BitVec 64)
  | dictRead (port : Nat) (payload : Bytes)
  | dictWrite (port : Nat) (payload : Bytes)
  | doeDiscovery (port index : Nat)
  | cdatRead (port entry : Nat)
  | getVersion (port : Nat)
  | getCapabilities (port : Nat) (request : Bytes)
  | negotiateAlgorithms (port : Nat) (request : Bytes)
  | getDigests (port : Nat) (request : Bytes)
  | getCertificate (port certSlot offset length : Nat) (request : Bytes)
  | challenge (port certSlot : Nat) (request : Bytes)
  | getMeasurements (port index : Nat) (sign : Bool) (request : Bytes)
  | keyExchange (port : Nat) (request : Bytes)
  | finish (port session : Nat) (verified : Bool)
  | endSession (port session : Nat)
  -- management and dictionary (R474 to R489, R539, R547, R563, R572)
  | jendyRead (pdu : Bytes)
  | jendyWrite (pdu : Bytes)
  | identify (pdu : Bytes)
  | registerWrite (target : RegTgt) (data : Bytes)
  | portEn (port : Nat) (value : Byte)
  | sramScrubEn (value : Byte)
  | tierScrubEn (value : Byte)
  | computeEn (value : Byte)
  | functionStartComplete (f : Func)
  | functionShutdownComplete (f : Func)
  | portCmdRetrain (port : Nat)
  | portCmdReset (port : Nat)
  | moduleReset (value : Byte)
  | keeperEnter (value : Byte)
  | zeroize (value : Byte)
  | stage
  | select
  | fwStageComplete (image : Option Bytes)
  -- events (R504 to R515)
  | eventAssert (die source : Nat)
  | pendWrite (die bank : Nat) (value : BitVec 64)
  | pendW1cWrite (die bank : Nat) (value : BitVec 64)
  | maskWrite (die bank : Nat) (value : BitVec 64)
  | stormClear (die bank : Nat) (value : BitVec 64)
  | stuckClear (die bank : Nat) (value : BitVec 64)
  | srcCfgWrite (die source : Nat) (value : BitVec 64)
  | stuckLimitExpire (die source : Nat)
  | mcWatchdogExpire
  | entropyHealthFail (iod : Nat)
  | tamperBreach
  -- power, clocks, start-up (R550 to R571)
  | powerOn
  | startupStepComplete (failure : Option StartFailure)
  | vinOutOfRange
  | vinRangeTimeout (volts : Nat)
  | powerFail
  | powerFailRecovery
  | vinBelow36
  | inputDisconnect
  | inputReconnect
  | railOutOfRegulation (rail : Nat)
  | pllLossOfLock (pll : Pll)
  | mrstAssert
  | mrstDeassert
  | powerThrottleEval (watts : Nat)
  | powerFastCheck (watts : Nat)
  | thermalThrottleEval (dieTemps packageTemps : List Int)
  | throttleFrameStart (die : Nat)
  | shutdownTempReached (isPackage : Bool) (index celsius : Nat)
  -- rows added at the table's end
  | sealProofRepeat (port : Nat)
  | perstDeassert (port : Nat)
  | cxlLinkUp (port width rate : Nat) (flit256 : Bool)
  | ideKmRequest (port stream : Nat)
  | hostReadCompletion (what : HostRd) (data : Option Bytes)
  | vinReturnToRange
  | resetDrainNullSupply (port : Nat)
  | uioRequestReceive (port : Nat)
  deriving DecidableEq, Repr

end Sys2Proof
end

