-- ==== Sys2Proof/Machine/State.lean ====
section
/-! DEFINITION. The state of one MZN4 module, as plain data. Each docstring names the rules that give the field and its
value at reset. Tables are lists of key and value, an unlisted key at its default. -/

namespace Sys2Proof.Machine

/-- Why the machine could stop. No meaning raises it: every fault of the manual is an effect on the state (R518, R526).
Safe: nothing ends in it. -/
inductive Fault where
  /-- Raised by no meaning. Safe. -/
  | none
  deriving DecidableEq, Repr

/-- Why a command could be refused. -/
inductive Refusal where
  /-- A command without a meaning yet, by its mnemonic. Safe: the machine stops. No meaning answers with it. -/
  | notModelled (mnemonic : String)
  deriving DecidableEq, Repr

/-- What leaves the module, as the outside sees it. -/
inductive Sent where
  /-- A flit on a fabric port (R315). -/
  | flit (port : Nat) (raw : Bytes)
  /-- A codeword of five flits as the symbols of each lane (R311, R312). -/
  | codeword (port : Nat) (lanes : List (Nat × List Nat))
  /-- A per-lane training frame: lane number, lane report, and in EQUALIZE a transmitter coefficient request (R323, R324). -/
  | trainFrame (port lane : Nat) (report : BitVec 4) (coefficients : Option Nat)
  /-- An MSI-X message of a CXL port (R460, R511). -/
  | msix (port vector : Nat)
  /-- An interrupt to the MC by an event controller (R511). -/
  | mcIrq (die source : Nat)
  /-- A posted write to host memory (R449, R452). -/
  | hostWrite (port addr : Nat) (data : Bytes)
  /-- Configuration Request Retry Status (R564). -/
  | configRetry (port : Nat)
  /-- The data of a read of BAR0 or of a function's register (R437, R439). -/
  | registerData (port : Nat) (data : Bytes)
  /-- A read of a host line into the device cache, with Shared ownership (R436, R451). -/
  | cacheRead (port addr : Nat)
  /-- A DMA read of host memory (R400, R454). -/
  | hostRead (port addr length : Nat)
  /-- A UIO memory read (R459). -/
  | uioRead (port addr length : Nat)
  /-- A mailbox answer: return code (0 Success, 2 Invalid Input, 0x15 Unsupported ...) and output payload (R461, R462). -/
  | mailbox (port code : Nat) (payload : Bytes)
  /-- A DOE or SPDM answer (R463, R464). -/
  | doe (port : Nat) (payload : Bytes)
  /-- A Jendy frame, sent after a delay in microseconds (R481, R486). -/
  | jendy (delay : Nat) (pdu : Bytes)
  /-- The data of a window read (R443). -/
  | windowData (port : Nat) (data : Bytes)
  /-- Completer Abort (R440, R441, R443). -/
  | completerAbort (port : Nat)
  /-- Unsupported Request, logged or answered (R438, R441, R443, R459). -/
  | unsupported (port offset : Nat)
  /-- A CXL.mem read answer (R456). -/
  | memData (port ta : Nat) (data : Line) (poison : Bool)
  /-- A CXL.mem write completion (R456). -/
  | memDone (port ta : Nat)
  /-- A back-invalidation of a line (R457). -/
  | backInv (port line : Nat)
  /-- Viral signalled (R467, R527). -/
  | viral (port : Nat)
  deriving DecidableEq, Repr

/-- A site of a compute die: a core site by column and row, or the spare site of a group (R73). -/
inductive Site where
  | core (die u w : Nat)
  | spare (die group : Nat)
  deriving DecidableEq, Repr

/-- Settings fixed at manufacture (R490, R498, R501, R533). -/
structure Fuse where
  /-- 0 MZN4-A, 1 MZN4-B (R1, R490). Reset: fused; DESIGN CHOICE 0. -/
  grade : Nat := 0
  /-- Module identity, 64 bits (R490). Reset: fused; DESIGN CHOICE 1. -/
  modid : Nat := 1
  /-- PART_NUMBER, 16 bytes (R490). Reset: fused; DESIGN CHOICE zeros. -/
  part : Bytes := List.replicate 16 0
  /-- SERIAL, 16 bytes (R490). Reset: fused; DESIGN CHOICE zeros. -/
  serial : Bytes := List.replicate 16 0
  /-- BOARD_ISSUE, 16 bits (R490). Reset: fused; DESIGN CHOICE 0. -/
  board : Nat := 0
  /-- VERSIONS 1: MC ROM, 32 bits (R490). Reset: DESIGN CHOICE 0. -/
  romVersion : Nat := 0
  /-- Identity private key, 256 bits, in OTP of IOD0 (R533). Reset: fused; DESIGN CHOICE 1. -/
  idKey : Nat := 1
  /-- Identity public key, X and Y (R325, R498). Reset: fused; DESIGN CHOICE the P-256 base point, which belongs to idKey. -/
  idPub : Nat × Nat := (0x6B17D1F2E12C4247F8BCE6E563A440F277037D812DEB33A0F4A13945D898C296, 0x4FE342E2FE1A7F9B8EE7EB4A7C0F9E162BCE33576B315ECECBB6406837BF51F5)
  /-- Endorsement of IDPUB, r then s (R325, R498). Reset: fused; DESIGN CHOICE zeros. -/
  endorse : Bytes := List.replicate 64 0
  /-- Device secret, 256 bits, in OTP of IOD0 (R533). Reset: fused; DESIGN CHOICE 0. -/
  deviceSecret : Nat := 0
  /-- SPARE_MFG of CD0 to CD3, 64 bits each (R74, R501, R502). Reset: fused; DESIGN CHOICE 0. -/
  spareMfg : List Nat := [0, 0, 0, 0]
  deriving DecidableEq, Repr

/-- RWS entries of one fabric port (R491). -/
structure PortNv where
  /-- PORT_EN, 1 bit (R491). Reset: 1. -/
  en : Nat := 1
  /-- DROP_THRESH (R491). Reset: 256. -/
  drop : Nat := 256
  /-- AUTO_ADD (R491). Reset: 1. -/
  autoAdd : Nat := 1
  /-- TIMERS 1 to 5 in microseconds (R491). Reset: 10, 30,000, 2,000, 20,000, 25,000. -/
  timers : List Nat := [10, 30000, 2000, 20000, 25000]
  deriving DecidableEq, Repr

/-- RWS entries of one event source (R495). -/
structure GuardNv where
  /-- GUARD_COUNT (R495). Reset: 64. -/
  count : Nat := 64
  /-- GUARD_WINDOW in microseconds (R495). Reset: 1,000. -/
  window : Nat := 1000
  /-- STUCK_LIMIT in microseconds (R495). Reset: 10,000. -/
  stuck : Nat := 10000
  deriving DecidableEq, Repr

/-- The MC's non-volatile store (R472, R535): RWS entries and what zeroization keeps outside it. -/
structure Nv where
  /-- RWS entries of ports 0 to 31 (R491). Reset: manufacturing defaults. -/
  ports : List (Nat × PortNv) := []
  /-- Guard settings by 1,024 × die + source (R495). Reset: manufacturing defaults. -/
  guards : List (Nat × GuardNv) := []
  /-- PLCA_NODE, PLCA_COUNT, PLCA_TO (R492). Reset: 0xFF, 8, 32. -/
  plca : List Nat := [0xFF, 8, 32]
  /-- SRAM_SCRUB_EN (R493). Reset: 1. -/
  sramScrub : Nat := 1
  /-- TIER_SCRUB_EN (R493). Reset: 1. -/
  tierScrub : Nat := 1
  /-- BELL, 64 bits (R387). Reset: 0. -/
  bell : Nat := 0
  /-- TEPOCH, 32 bits (R387). Reset: 0. -/
  tepoch : Nat := 0
  /-- JUMP in ns (R387). Reset: 50. -/
  jump : Nat := 50
  /-- INTERVAL in microseconds (R387). Reset: 125. -/
  interval : Nat := 125
  /-- POWER_LIMIT in W (R496). Reset: 2,200 (grade A; 2,000 on grade B). -/
  powerLimit : Nat := 2200
  /-- THROTTLE_TEMP in 0.1 °C (R496). Reset: 950. -/
  throttleTemp : Int := 950
  /-- COMPUTE_EN (R573). Reset: 1. -/
  computeEn : Nat := 1
  /-- INTAKE_TIMEOUT in ms (R428). Reset: 100. -/
  intakeTimeout : Nat := 100
  /-- MUSTER_TIMEOUT in ms (R497). Reset: 1,000. -/
  musterTimeout : Nat := 1000
  /-- MANIFEST_KEY slots 0 to 7, 64 bytes each (R498). Reset: empty. -/
  manifestKeys : List (Nat × Bytes) := []
  /-- IDE_REQUIRED (R498). Reset: 1. -/
  ideRequired : Nat := 1
  /-- MGMT_KEY, 32 bytes; none when unset (R498). Reset: unset. -/
  mgmtKey : Option Bytes := none
  /-- BANK_OVR_THRESH in core cycles (R499). Reset: 64. -/
  bankOvr : Nat := 64
  /-- DROVE_STALL_LIMIT in microseconds (R499). Reset: 1,000. -/
  stallLimit : Nat := 1000
  /-- FOLD_TIMEOUT in microseconds (R499). Reset: 10,000. -/
  foldTimeout : Nat := 10000
  /-- STRAY_TIMEOUT in microseconds (R499). Reset: 200. -/
  strayTimeout : Nat := 200
  /-- SPARE_FIELD of CD0 to CD3 (R502). Reset: 0. -/
  spareField : List Nat := [0, 0, 0, 0]
  /-- SPARE_PENDING of CD0 to CD3 (R502). Reset: 0. -/
  sparePending : List Nat := [0, 0, 0, 0]
  /-- SPARE_APPLY (R502). Reset: 0. -/
  spareApply : Nat := 0
  deriving DecidableEq, Repr

/-- A weight tile buffer (R50, R190, R192). -/
structure WtBuf where
  /-- Ready bit (R50). Reset: clear (R71). -/
  ready : Bool := false
  /-- Format recorded by the last MXLOAD into the buffer (R192). Reset: none (R71). -/
  fmt : Option Nat := none
  /-- The tile's lines once ready (R128, R190). Reset: none. -/
  tile : List Line := []
  /-- Poison bit (R190). Reset: clear (R71). -/
  poison : Bool := false
  /-- Lines read so far by the MXLOAD in progress, and whether one was uncorrectable (R47, R104). Reset: none. -/
  filling : List Line := []
  /-- Poison seen by the MXLOAD in progress. Reset: clear. -/
  fillPoison : Bool := false
  /-- Landing lines the MXLOAD in progress reads (R50). Reset: none. -/
  source : List Nat := []
  deriving DecidableEq, Repr

/-- An accumulator row (R142). -/
structure AccRow where
  /-- Window base WB (R142, R143). Reset: 0. -/
  wb : Int := 0
  /-- Columns 0 to 31 (R142). Reset: SUM, FLAGS, COUNT zero. -/
  cols : List (Nat × Col) := []
  deriving DecidableEq, Repr

/-- A region map entry of a core (R94); reserved bits read zero. -/
structure Region where
  valid : Bool := false
  ctx : Nat := 0
  kind : Nat := 0
  cr : Bool := false
  cw : Bool := false
  sw : Bool := false
  sa : Bool := false
  hr : Bool := false
  hw : Bool := false
  limit : Nat := 0
  base : Nat := 0
  deriving DecidableEq, Repr

/-- A KV stream descriptor (R226). -/
structure KvDesc where
  base : Nat := 0
  cap : Nat := 0
  commit : Nat := 0
  append : Nat := 0
  deriving DecidableEq, Repr

/-- What happens at a live cycle for an operation in flight (R42, R83). -/
inductive Act where
  /-- A scalar result lands. -/
  | sreg (r : Nat) (v : BitVec 64)
  /-- A vector result lands, with the last-write address of R200. -/
  | vreg (r : Nat) (v : Block) (from_ : Nat)
  /-- ACCOUT and VCVT set sticky flags with their result (R217). -/
  | flags (f : Nat)
  /-- FLGCLR's clear, before the landings of its cycle (R217). -/
  | flagClear
  /-- LDS reads its line (R224). -/
  | readWord (d : Nat) (ea : Nat) (rel : Bool)
  /-- LDV and RECV read four lines (R224, R239). -/
  | readVec (d : Nat) (line : Nat) (rel : Bool)
  /-- A store writes four lines (R224, R227). -/
  | write (line : Nat) (v : Block)
  /-- MXLOAD reads up to eight lines of its tile (R83). -/
  | tileRead (wt : Nat) (line n : Nat) (rel : Bool)
  /-- The tile is ready (R50, R190). -/
  | tileReady (wt fmt : Nat)
  /-- MXSTREAM reads an activation row (R83). -/
  | rowRead (wt fmt row line : Nat) (rel : Bool) (lat : Nat)
  /-- An MXSTREAM row or GEMV beat lands: contributions by column (R145, R146), with PSN. -/
  | accAdd (row : Nat) (cs : List (Nat × List Contrib)) (psn : Bool)
  /-- GEMV reads the eight scale lines of a group (R202). -/
  | gemvScale (line : Nat) (rel : Bool)
  /-- GEMV reads a beat (R202): weight and activation format, activation block, row, first column, index in its group. -/
  | gemvBeat (wf af : Nat) (a : MxBlock) (row col line n idx : Nat) (rel : Bool)
  /-- An LSWADD lands (R199): words by column, and the address and register of a poisoned word (R200). -/
  | lswAdd (row : Nat) (ws : List (Nat × Lsw)) (psn : Option (Nat × Nat))
  /-- ACCCLR sets its rows (R195). -/
  | accClear (row cnt : Nat) (wb : Int)
  /-- A KV pointer moves: the stream and its new COMMIT and APPEND as functions of what landed before (R227 to R229). -/
  | kvAppend (kvs : Nat)
  | kvCommit (kvs n : Nat)
  | kvDrop (kvs : Nat)
  /-- SEND or LSWSEND stages a flit of its flow (R237). -/
  | stage (flow ipos step : Nat) (payload : Block)
  /-- A stray packet reaches the router (R241). -/
  | inject (packet : Nat)
  /-- The branch target lines are read (R83, R84). -/
  | targetFetch (line : Nat)
  /-- A sequential fetch read supplies its bundles (R84). -/
  | fetchIn (line : Nat)
  deriving DecidableEq, Repr

/-- An operation's event in flight (R42, R56). -/
structure Flight where
  /-- Live cycle in which it happens. -/
  due : Nat
  /-- Live cycle of issue. -/
  issue : Nat
  act : Act
  deriving DecidableEq, Repr

/-- A destination that a result in flight will write, for R43 and R196: kind (0 scalar, 1 vector, 2 accumulator row by the
array, 3 by the GEMV path), number, live cycle. -/
structure Resv where
  kind : Nat
  num : Nat
  due : Nat
  deriving DecidableEq, Repr

/-- A branch whose shadow is running (R45, R223). -/
structure Shadow where
  /-- Bundles of the shadow still to issue. -/
  left : Nat
  taken : Bool
  target : Nat
  deriving DecidableEq, Repr

/-- A flit in the outbound staging store (R237, R238). -/
structure Staged where
  flow : Nat
  ipos : Nat
  step : Nat
  payload : Option Block
  /-- Outputs whose position has taken it. -/
  gone : List Nat := []
  deriving DecidableEq, Repr

/-- An inbound line waiting for its bank (R87): a drove fill or a streamer landing. -/
structure Inbound where
  line : Nat
  data : Line
  /-- A NULL flit's line (R273). -/
  null : Bool := false
  /-- A streamer landing, with its context's slot (R66, R69). -/
  landing : Bool := false
  /-- The landing's data was uncorrectable in the tier (R111). -/
  poison : Bool := false
  /-- Cause of the pending mark that its flow had when it was delivered (R26, R266, log 13). -/
  mark : Option Nat := none
  deriving DecidableEq, Repr

/-- A stray packet (R285 to R289). -/
structure Packet where
  pen : Nat := 0
  ch : Nat := 0
  age : Nat := 0
  dag : Nat := 0
  dest : Nat := 0
  dmod : Nat := 0
  smod : Nat := 0
  src : Nat := 0
  pseq : Nat := 0
  rtag : Nat := 0
  type : Nat := 0
  addr : Nat := 0
  status : Nat := 0
  opx : Nat := 0
  fep : Nat := 0
  mask : Nat := 0
  inline : Line := 0
  datas : List Block := []
  /-- The packet was bounced once (R295). -/
  bounced : Bool := false
  deriving DecidableEq, Repr

/-- An entry of a source's outstanding table (R284, R292). -/
structure OutReq where
  packet : Packet
  /-- STRAYA's response address (R242); none for a request that lands nowhere. -/
  sp : Option Nat := none
  /-- Live cycle of issue, for R233. -/
  issue : Nat := 0
  /-- Order of issue within the source. -/
  order : Nat := 0
  /-- Sent once more after a timeout (R304). -/
  resent : Bool := false
  /-- For an agent, what the request serves: kind (0 window write, 1 window read, 2 descriptor), port, ring, index. -/
  serve : Nat × Nat × Nat × Nat := (0, 0, 0, 0)
  /-- The descriptor word of the issuing instruction (R244); for an agent, the slot of the access (R442). -/
  desc : Nat := 0
  deriving DecidableEq, Repr

/-- A HURDLE or FOLD of a core whose before sets are not all performed (R231, R233, R235). -/
structure HurdleWait where
  classes : Nat
  /-- Live cycle of its issue: strays that its own bundle issues belong to it too (R233). -/
  issue : Nat := 0
  /-- Inbound lines of the before set still to write: the oldest so many of the queue. -/
  inbound : Nat := 0
  /-- Stray writes and atomics, and host accesses, of the before set still to perform: source key and PSEQ. -/
  strays : List (Nat × Nat) := []
  host : List (Nat × Nat) := []
  /-- Landing lines whose tier read a controller had accepted, still to be written. -/
  tier : List Nat := []
  /-- Own stray requests (RTAGs) whose response is awaited. -/
  own : List Nat := []
  /-- The wait is a FOLD's, whose arrival it delays (R235). -/
  fold : Bool := false
  deriving DecidableEq, Repr

/-- The request that a core performs, one line at a time (R290). -/
structure StrayWork where
  req : Packet
  /-- Next line of the request, from 0. -/
  k : Nat := 0
  /-- The read of a read-modify-write has been done: its data and the core cycle of the read (R91). -/
  old : Option (Line × Nat) := none
  /-- Lines read so far by a READ (R290). -/
  got : List Line := []
  /-- A duplicate READ, read again (R305). -/
  again : Bool := false
  /-- A WRITE has written a line (R290, R394). -/
  wrote : Bool := false
  deriving DecidableEq, Repr

/-- Whether a core runs (R40, R178, R274). -/
inductive CoreRun where
  /-- No context, or the core waits for its context's start. -/
  | idle
  /-- The core issues its stream. -/
  | run
  /-- The core steps without issuing until the next fold (R274). -/
  | silent
  deriving DecidableEq, Repr

/-- One tile core, by its logical core number (R72). -/
structure Core where
  /-- s0 to s31, 64 bits each (R162). Reset: zero (R71). -/
  sreg : List (Nat × BitVec 64) := []
  /-- v0 to v31, 2,048 bits each (R162). Reset: zero (R71). -/
  vreg : List (Nat × Block) := []
  /-- wt0 and wt1 (R50). Reset: not ready (R71). -/
  wt : List (Nat × WtBuf) := []
  /-- acc0 to acc127 (R142). Reset: R143. -/
  acc : List (Nat × AccRow) := []
  /-- Sticky flags NX, SF, NV, AT, AS, 5 bits (R216). Reset: clear. -/
  sticky : Nat := 0
  /-- Last-write line address of each vector register (R200). Reset: 0x7FFFC0. -/
  lastWrite : List (Nat × Nat) := []
  /-- The 6 MiB slice, by byte address (R81). Reset: zero (R106). -/
  sram : List (Nat × Byte) := []
  /-- Wrong symbols of stored lines: line index to symbol and error (R102, R103). Reset: none (R106). -/
  ecc : List (Nat × List (Nat × Byte)) := []
  /-- Lines whose fill bit is set (R98). Reset: none (R99). -/
  fill : List Nat := []
  /-- Region map, 16 entries (R94). Reset: VALID 0. -/
  regions : List (Nat × Region) := []
  /-- Lines queued for ECC write-back (R104, R105). Reset: none. -/
  writeback : List Nat := []
  /-- Next line of the patrol scrubber (R105). Reset: 0. -/
  scrubLine : Nat := 0
  /-- Banks used in this core cycle (R85). Reset: none. -/
  banks : List Nat := []
  /-- Inbound queue, oldest first, at most 32 lines (R87). Reset: empty. -/
  inbound : List Inbound := []
  /-- Whether the core runs. Reset: idle. -/
  run : CoreRun := .idle
  /-- Live cycles since the context start (R40). Reset: 0. -/
  live : Nat := 0
  /-- Live cycles in the current step (R175). Reset: 0. -/
  stepLive : Nat := 0
  /-- SYNC edges seen when R21 came to hold, while the gate is waited for (R385). Reset: none. -/
  gate : Option Nat := none
  /-- Core cycle in which the step's live cycle 0 issued; none before (R261). Reset: none. -/
  stepStart : Option Nat := none
  /-- The same of the step before (R261). Reset: none. -/
  prevStart : Option Nat := none
  /-- Fetch queue: address and bundle, oldest first, at most 80 (R46). Reset: empty. -/
  queue : List (Nat × BitVec 256) := []
  /-- Address of the next line the fetch unit reads (R84). Reset: 0. -/
  fetchAt : Nat := 0
  /-- Address of the bundle that issues next (R71). Reset: 0. -/
  pc : Nat := 0
  /-- Target lines read ahead by a branch (R84). Reset: none. -/
  target : List (Nat × BitVec 256) := []
  /-- A fetch line was uncorrectable: fetch poison at issue (R104). Reset: none. -/
  fetchPoison : List Nat := []
  /-- Slots of the due bundle that have issued (R41). Reset: none. -/
  issued : List Nat := []
  /-- The due bundle passed its checks at issue (R178). Reset: no. -/
  cleared : Bool := false
  /-- Running branch shadow (R45). Reset: none. -/
  shadow : Option Shadow := none
  /-- Operations in flight (R42). Reset: none. -/
  flights : List Flight := []
  /-- Destinations of results in flight (R43). Reset: none. -/
  resv : List Resv := []
  /-- First live cycle in which each unit is free (R44). Reset: 0. -/
  busy : List (Nat × Nat) := []
  /-- Last live cycle of bank use of the operations issued so far (R232). Reset: 0. -/
  lastBank : Nat := 0
  /-- Scale lines of the GEMV group in progress, and poison (R202). Reset: none. -/
  gemvScales : List Line := []
  /-- Which GEMV scale lines of the group were uncorrectable (R203). Reset: none. -/
  gemvPoison : List Bool := []
  /-- Active hold conditions: cause, the core cycle in which each began, and its origin: 0 a request, 1 the issue check,
  2 the fetch queue (R88), 3 the inbound backlog (R87), 4 a host access (R89), 5 the ejection backlog (R291), 6 the fold
  outcome (R236), 8 + b the fill of weight buffer b (R50) (R55, R59). Reset: none. -/
  holds : List (Nat × Nat × Nat) := []
  /-- A fault raised outside issue stops issue from the next live cycle (R524). Reset: no. -/
  stopping : Bool := false
  /-- Steps in which a held core cycle was recorded, newest first, at most four: tally, and the cause of its latest held cycle (R48,
  R59, R261). Reset: none. -/
  heldSteps : List (Nat × Nat) := []
  /-- Cause-6 cycles of the current step (R90). Reset: 0. -/
  overrun : Nat := 0
  /-- The current step's bundle stream has ended: the core waits for closure (R60). Reset: no. -/
  ended : Bool := false
  /-- Tally of the step in progress, 48 bits (R20). Reset: 0. -/
  tally : Nat := 0
  /-- Step descriptor in progress (R183). Reset: 0. -/
  desc : Nat := 0
  /-- Flits delivered, by 1,024 × (step mod 8) + inbound flow (R21, R267). Reset: 0. -/
  arrived : List (Nat × Nat) := []
  /-- Pending marks, by 1,024 × (step mod 256) + flow: cause, origin module, origin site (R266). Reset: none. -/
  marks : List (Nat × Nat × Nat × Nat) := []
  /-- Step reports, by 65,536 × flow + receiver: one more than the latest step begun, 0 for none (R269). Reset: none. -/
  reports : List (Nat × Nat) := []
  /-- Outbound staging store, at most 8 flits (R238). Reset: empty. -/
  staged : List Staged := []
  /-- Flits of each outbound flow taken in the current step (R237). Reset: 0. -/
  taken : List (Nat × Nat) := []
  /-- FOLD issued in the current step (R176). Reset: no. -/
  foldIssued : Bool := false
  /-- The fold arrival has been sent (R235). Reset: no. -/
  foldSent : Bool := false
  /-- The fold outcome has reached the core (R236). Reset: no. -/
  foldDone : Bool := false
  /-- HURDLEs and FOLDs whose waits are in progress, oldest first (R231, R233). Reset: none. -/
  hurdles : List HurdleWait := []
  /-- Host accesses waiting for a bank, oldest first: source key and PSEQ (R89, R231). Reset: none. -/
  hostWaiting : List (Nat × Nat) := []
  /-- The host access for which the hold of R89 was requested. Reset: none. -/
  hostHold : Option (Nat × Nat) := none
  /-- The request being performed (R290). Reset: none. -/
  work : Option StrayWork := none
  /-- Intake's load writes waiting for their banks, oldest first: slot, line and data (R416). Reset: none. -/
  loads : List (Nat × Nat × Line) := []
  /-- Core cycle in which the router last delivered a flit into the inbound queue (R87). Reset: none. -/
  ejectedAt : Option Nat := none
  /-- Fold-failing conditions since the last fold: REASON and FSITE (R35, R523). Reset: none. -/
  failing : List (Nat × Nat) := []
  /-- Poison of this fold interval: line, kind, register (R521). Reset: none (R106). -/
  poison : Option (Nat × Nat × Nat) := none
  /-- Saturation event last raised: row, column and tally (R148, R504). Reset: none. -/
  satStep : Option (Nat × Nat × Nat) := none
  /-- A saturation event was raised in this step (R148). Reset: no. -/
  satSeen : Bool := false
  /-- Bank-conflict overrun raised in this step (R90). Reset: no. -/
  overrunStep : Bool := false
  /-- Outstanding stray requests by RTAG, at most 64 (R245). Reset: empty. -/
  outs : List (Nat × OutReq) := []
  /-- Fold epoch, mod 4 (R300). Reset: 0. -/
  epoch : Nat := 0
  /-- Send table: 2,048 × module + core to next PSEQ, at most 256 (R300). Reset: empty. -/
  sendSeq : List (Nat × Nat) := []
  /-- Receive table: 4,096 × module + source to expected PSEQ, at most 2,048 core sources (R300). Reset: empty. -/
  recvSeq : List (Nat × Nat) := []
  /-- Fixed receive entries of the module's three agents, which never reset (R300). Reset: 0. -/
  agentSeq : List (Nat × Nat) := []
  /-- Reorder store, at most 256 packets (R301). Reset: empty. -/
  reorder : List Packet := []
  /-- Ejection queue, at most 8 packets (R291). Reset: empty. -/
  ejectQ : List Packet := []
  /-- Response injection queue, at most 4 packets (R291). Reset: empty. -/
  respQ : List Packet := []
  /-- ATOMIC results kept for duplicates: source, PSEQ, RTAG, response (R305). Reset: empty. -/
  atomics : List (Nat × Nat × Nat × Line) := []
  /-- First response with non-zero STATUS recorded in this fold interval (R244). Reset: none. -/
  statusSeen : Bool := false
  /-- Stray requests of this fold interval: other than EXADD, and EXADD (R394). Reset: 0. -/
  strayCount : Nat × Nat := (0, 0)
  /-- Counts of the last fold intervals, newest first (R394, R500). Reset: none. -/
  strayHist : List (Nat × Nat) := []
  /-- Move-unit staging store: line and data, at most 64 (R61). Reset: empty. -/
  staging : List (Nat × Line) := []
  /-- Hold cycles by cause, 1 to 9 (R30, R500). Reset: 0. -/
  holdCycles : List (Nat × Nat) := []
  /-- Closure wait cycles (R60, R500). Reset: 0. -/
  closureWait : Nat := 0
  /-- Run-ahead hits and misses (R65, R500). Reset: 0. -/
  runahead : Nat × Nat := (0, 0)
  /-- CORE_CORRECTED (R500). Reset: 0. -/
  corrected : Nat := 0
  /-- STRAY_BAD_STATUS (R500). Reset: 0. -/
  badStatus : Nat := 0
  /-- STALL_REC (R500). Reset: 0. -/
  stallRec : Nat := 0
  /-- The core's site failed its test (R76). Reset: no. -/
  siteBad : Bool := false
  deriving DecidableEq, Repr

/-- A drove flit on its way (R254). -/
structure DFlit where
  pen : Nat
  kind : Nat
  step : Nat
  pos : Nat
  payload : Block
  /-- Outputs that have taken it from a buffer (R270). -/
  gone : List Nat := []
  deriving DecidableEq, Repr

/-- A HOLD flit (R262). -/
structure HFlit where
  /-- Pen of the program whose step it holds (R17, R254). -/
  pen : Nat
  /-- Cause, STEP, position, module and site of origin (R262). -/
  cause : Nat
  step : Nat
  pos : Nat
  omod : Nat
  osite : Nat
  /-- Descriptor of its step (the model's own). -/
  desc : Nat := 0
  deriving DecidableEq, Repr

/-- A drove output (R250, R251). -/
structure OutSt where
  /-- Tally of the step whose table is being departed (R251, R253). Reset: 0. -/
  step : Nat := 0
  /-- Its descriptor (R183). Reset: 0. -/
  desc : Nat := 0
  /-- Next position to depart (R251). Reset: 0. -/
  pos : Nat := 0
  /-- HOLD queue, at most 16 (R263). Reset: empty. -/
  holdQ : List HFlit := []
  /-- HOLD flits sent or forwarded for positions of this step; cause 0 marks a counted unexplained block (R263, R264).
  Reset: none. -/
  held : List HFlit := []
  deriving DecidableEq, Repr

/-- The receive side of a drove link, by the output that feeds it, or 0x10000 + port (R250, R255). -/
structure InSt where
  /-- Flits on the link, oldest first. Reset: none. -/
  wire : List DFlit := []
  /-- Drove buffer, oldest first (R250). Reset: empty. -/
  buf : List DFlit := []
  /-- Step, descriptor and position expected next (R255). Reset: 0. -/
  step : Nat := 0
  desc : Nat := 0
  pos : Nat := 0
  /-- HOLD flits generated for this many inbound positions from the expected one (R265). Reset: 0. -/
  gen : Nat := 0
  deriving DecidableEq, Repr

/-- A failure as a fold carries it: REASON, FMOD, FSITE (R278). -/
structure Failure where
  reason : Nat
  fmod : Nat
  fsite : Nat
  deriving DecidableEq, Repr

/-- The fold unit on IOD0 (R279 to R281). -/
structure FoldUnit where
  /-- Arrivals of cores: core and its failure, if any (R279). Reset: none. -/
  cores : List (Nat × Option Failure) := []
  /-- Arrivals of child ports: port, failure, NFAIL (R279). Reset: none. -/
  children : List (Nat × Option Failure × Nat) := []
  /-- Failures that the unit detected itself (R597). Reset: none. -/
  own : List Failure := []
  /-- Failures detected after the arrival was formed, for the next fold. Reset: none. -/
  later : List Failure := []
  /-- Outcome of the last fold that has reached every core (R280). Reset: none. -/
  last : Option FoldMsg := none
  /-- Slot and ATTEMPT that a good switch-point outcome hands over to (R424). Reset: none. -/
  handTo : Option (Nat × Nat) := none
  /-- The module's complete arrival: failure and NFAIL (R279). Reset: none. -/
  arrival : Option (Option Failure × Nat) := none
  /-- The outcome once held (R280). Reset: none. -/
  outcome : Option FoldMsg := none
  /-- What the PARENT port brought before the module's arrival was formed: an outcome, or none for a NULL (R280, R597). Reset: nothing. -/
  early : Option (Option FoldMsg) := none
  /-- Fold flits waiting for their position, by port: kind and message (R280). Reset: none. -/
  tx : List (Nat × Nat × FoldMsg) := []
  deriving DecidableEq, Repr

/-- The drove fabric (R250 to R281). -/
structure Fabric where
  /-- Outputs by OUT of R257. Reset: at step 0, position 0. -/
  outs : List (Nat × OutSt) := []
  /-- Receive sides by link. Reset: empty. -/
  ins : List (Nat × InSt) := []
  /-- The fold unit. Reset: empty. -/
  fold : FoldUnit := {}
  /-- Step reports on the report lanes: by core, one more than the latest step begun (R268). Reset: none. -/
  reports : List (Nat × Nat) := []
  deriving DecidableEq, Repr

/-- Where a stray packet waits (R293): at a core router, an I/O die or a port's receive side, or part of a link. -/
structure StrayAt where
  /-- Node: logical core, 4,096 + I/O die, 8,192 + port receive side, or 12,288 + agent that the packet has reached. -/
  node : Nat
  packet : Packet
  /-- Injected here and never routed (R295). -/
  injected : Bool := false
  /-- Slot times waited in this buffer (R296). -/
  waited : Nat := 0
  /-- The output it came through, which names its input buffer (R293). -/
  via : Nat := 0
  deriving DecidableEq, Repr

/-- A packet part-way through departing on an output (R285, R293). -/
structure Sending where
  /-- Output, and number of the packet (R293). -/
  out : Nat
  packet : Nat
  /-- Flits still to go. -/
  left : Nat
  /-- A flit failed its CRC-32: the input behind the output discards the packet (R287). -/
  lost : Bool := false
  /-- The departure is a deflection (R295). -/
  deflected : Bool := false
  deriving DecidableEq, Repr

/-- The stray network (R284 to R307). -/
structure StrayNet where
  /-- Packets in the network's buffers by packet number. Reset: none. -/
  packets : List (Nat × StrayAt) := []
  /-- Next packet number (the model's own). Reset: 0. -/
  next : Nat := 0
  /-- Packets part-way through departing on mesh, die-edge, eject and I/O-die outputs (R285, R293). Reset: none. -/
  sending : List Sending := []
  /-- Packets that wait for their node's injection buffer, by node, oldest first (R295). Reset: none. -/
  injQ : List (Nat × Packet) := []
  /-- Input that each output last served for an escape packet (R299). Reset: none. -/
  served : List (Nat × Nat) := []
  /-- Outstanding tables of agents 0 IOD0, 1 IOD1, 2 MC, by 65,536 × agent + RTAG (R284). Reset: empty. -/
  agents : List (Nat × OutReq) := []
  /-- Requests that wait for an entry of their agent's table (R284). Reset: none. -/
  agentQ : List (Nat × OutReq) := []
  /-- Send sequences of the agents: 4,096 × agent + core to next PSEQ (R300). Reset: 0. -/
  agentSeq : List (Nat × Nat) := []
  deriving DecidableEq, Repr

/-- A port's lane operation in progress (R339 to R342). -/
inductive LaneOp where
  | none
  /-- Own SWITCH sent: the inbound set it names. -/
  | switchOut (mask cw : Nat)
  /-- SWITCH accepted from the peer: takes effect at codeword CW of the outbound stream. -/
  | switchIn (mask cw : Nat)
  /-- Own ADD-REQ sent for a lane. -/
  | addOut (lane mask : Nat)
  /-- ADD-REQ accepted: frames run on the added lane. -/
  | addIn (mask : Nat)
  /-- RETRAIN-REQ is being sent in three LANE messages (R343). -/
  | retrainOut
  deriving DecidableEq, Repr

/-- States of R323, in the order of PORT_STATE (R491). -/
inductive PortSt where
  | off | detect | equalize | lock | seal | active | retrain | reset
  deriving DecidableEq, Repr

/-- A fabric port (R310 to R347, R357, R358, R491). -/
structure Port where
  /-- PORT_STATE (R323, R491). Reset: OFF. -/
  st : PortSt := .off
  /-- PORT_FUNC: 0 OFF, 1 STARTING, 2 ON, 3 STOPPING, 4 PENDING (R488). Reset: 0. -/
  func : Nat := 0
  /-- Transmit and receive active lane sets, 4 bits each (R311, R491). Reset: 0. -/
  txLanes : BitVec 4 := 0
  rxLanes : BitVec 4 := 0
  /-- Lanes on which this receiver converged (R324). Reset: 0. -/
  converged : BitVec 4 := 0
  /-- Consecutive TRAIN flits received without loss (R324). Reset: 0. -/
  trainRun : Nat := 0
  /-- LOCKED set, and the peer's LOCKED seen (R324). Reset: no. -/
  locked : Bool := false
  peerLocked : Bool := false
  /-- RETRAIN is past its EQUALIZE part (R323). Reset: no. -/
  relock : Bool := false
  /-- Ephemeral private key of the attempt, 0 when erased (R325). Reset: 0. -/
  ephKey : Nat := 0
  /-- Own SEAL-HELLO payload of the attempt (R325). Reset: zero. -/
  hello : Block := 0
  /-- The peer's SEAL-HELLO payload (R326). Reset: none. -/
  peerHello : Option Block := none
  /-- Link keys, outbound and inbound (R326). Reset: none. -/
  keys : Option (Bytes × Bytes) := none
  /-- SEAL-PROOF is still repeated (R328). Reset: no. -/
  proofRepeat : Bool := false
  /-- Own SEAL-PROOF payload of the attempt (R326). Reset: zero. -/
  proof : Block := 0
  /-- The peer's MODID, known from its SEAL-HELLO (R342). Reset: 0. -/
  peerModid : Nat := 0
  /-- ESEQ of the next new sequenced flit (R329). Reset: 0. -/
  eseq : Nat := 0
  /-- Replay buffer: ESEQ and bytes 4 to 267 of the flit, tag and ciphertext, oldest first (R329, R333). Reset: empty. -/
  replay : List (Nat × Bytes) := []
  /-- ESEQ of the next flit of a replay in progress (R332). Reset: none. -/
  replayAt : Option Nat := none
  /-- Last NAKID acted on (R332). Reset: 0. -/
  nakActed : Nat := 0
  /-- Extended expected sequence number E (R329, R331). Reset: 0. -/
  expect : Nat := 0
  /-- Receiver in RETRY; its NAKID, 3 bits; entries into RETRY without E advancing (R331, R335). Reset: NORMAL, 0, 0. -/
  retry : Bool := false
  nakid : Nat := 0
  retries : Nat := 0
  /-- The new NAKID has not been sent yet (R321). Reset: no. -/
  nakNew : Bool := false
  /-- Drove credits: sent and freed at the transmitter, freed at the receiver (R336, R337). Reset: 0. -/
  dSent : Nat := 0
  dFreed : Nat := 0
  rFreed : Nat := 0
  /-- Stray credits by channel 0 REQ, 1 RSP, 2 ESC-REQ, 3 ESC-RSP: sent, freed, freed at the receiver (R337). Reset: 0. -/
  sSent : List (Nat × Nat) := []
  sFreed : List (Nat × Nat) := []
  rsFreed : List (Nat × Nat) := []
  /-- Drove flits and stray packets held by the receive side (R336). Reset: 0. -/
  dHeld : Nat := 0
  sHeld : List (Nat × Nat) := []
  /-- Stray packet being received, with the data flits so far, and the number its head announces (R287). Reset: none. -/
  partial_ : Option (Packet × Nat) := none
  /-- Data flits still to come of a packet discarded in assembly (R287). Reset: 0. -/
  skipData : Nat := 0
  /-- Drove flits waiting for a flit time (R318). Reset: empty. -/
  droveQ : List DFlit := []
  /-- Stray flits waiting for a flit time: tag and payload (R318). Reset: empty. -/
  strayQ : List (Nat × Block) := []
  /-- HOLD flits waiting for a flit time (R263, R318). Reset: empty. -/
  holdQ : List HFlit := []
  /-- Link control flits waiting: CTYPE, CSEQ and payload (R322). Reset: empty. -/
  ctlQ : List (Nat × Nat × Block) := []
  /-- Link messages waiting: LANE and STEP bodies (R319, R321). Reset: none. -/
  laneMsgs : List Nat := []
  stepMsg : Option Nat := none
  /-- Second slice of the message in progress (R319). Reset: none. -/
  slice2 : Option Nat := none
  /-- First slice of the message being received (R319). Reset: none. -/
  rxSlice : Option Nat := none
  /-- Flits sent in this direction since its codeword stream began (R319). Reset: 0. -/
  flitCount : Nat := 0
  /-- The last three messages' types, newest first (R321). Reset: none. -/
  lastMsgs : List Nat := []
  /-- Flits of the codeword being filled (R312). Reset: none. -/
  cwFlits : List Bytes := []
  /-- Codewords sent and received since ACTIVE, mod 2^16 (R339). Reset: 0. -/
  cwSent : Nat := 0
  cwRecv : Nat := 0
  /-- Symbols sent since the codeword stream began in LOCK or RETRAIN: n of the next symbol (R311). Reset: 0. -/
  symbols : Nat := 0
  /-- Scrambler state of each transmit lane, 58 bits (R311). Reset: 0. -/
  scramblers : List (Nat × Nat) := []
  /-- Consecutive uncorrectable codewords (R343). Reset: 0. -/
  badCws : Nat := 0
  /-- Corrected symbols of the last 1 ms: core cycle and lane (R340). Reset: none. -/
  laneErrs : List (Nat × Nat) := []
  /-- Lane operation in progress (R339). Reset: none. -/
  laneOp : LaneOp := .none
  /-- The first LANE message of the port's own operation has been sent (R342). Reset: no. -/
  laneSent : Bool := false
  /-- A retrain command waits for the lane operation in progress (R339, R343). Reset: no. -/
  retrainCmd : Bool := false
  /-- A message of the peer that started an operation was ignored, and its WITHDRAW has not come (R342). Reset: no. -/
  ignored : Bool := false
  /-- Deskew codewords still to send after a SWITCH (R339). Reset: 0. -/
  deskew : Nat := 0
  /-- Bad FT 1 KINDs in this fold interval (R317). Reset: 0. -/
  badKind : Nat := 0
  /-- Reset-drain of R347 in force. Reset: no. -/
  drain : Bool := false
  /-- Probes: latest reply (MODID, PORT, COORD, PEN), latencies of replies since the muster start with a COORD and without
  one, in ps, probes to send (R357, R358). Reset: none. -/
  peer : Option (Nat × Nat × Nat × Nat) := none
  lats : List Nat := []
  latsAll : List Nat := []
  /-- Latest reply since the muster start (R358). Reset: none. -/
  musterPeer : Option (Nat × Nat × Nat × Nat) := none
  /-- Latest reply since the muster start that counts toward the eight with a COORD, and whether any reply since then carries one
  (R358). Reset: none, no. -/
  musterFull : Option (Nat × Nat × Nat × Nat) := none
  musterCoord : Bool := false
  /-- CLASS, PEER, LATENCY (R491). Reset: 0. -/
  cls : Nat := 0
  peerRec : Nat × Nat × Nat := (0, 0, 0)
  latency : Nat := 0
  /-- HOPS of the latest usable TIME reply (R375). Reset: 0xFF. -/
  hops : Nat := 0xFF
  /-- CSEQ of the last control flit of each type (R322). Reset: 0. -/
  cseq : List (Nat × Nat) := []
  /-- SEAL_RUN, TRAIN_PERSISTENT (R491). Reset: 0. -/
  sealRun : Nat := 0
  persistent : Nat := 0
  /-- SEAL_REFUSE, SEAL_PEER (R491). Reset: 0. -/
  refuse : Nat := 0
  refusePeer : Nat := 0
  /-- LINK_COUNTS 1 to 10 (R491). Reset: 0. -/
  counts : List (Nat × Nat) := []
  /-- LANE_CORRECTED 0 to 3 (R491). Reset: 0. -/
  laneCorrected : List (Nat × Nat) := []
  /-- RESET_REASON, RESET_TALLY (R491). Reset: 0. -/
  resetReason : Nat := 0
  resetTally : Nat := 0
  /-- HOLD_DISCARDED (R491). Reset: 0. -/
  holdDiscarded : Nat := 0
  /-- FOREIGN_FLITS, FOREIGN_FIRST (R500). Reset: 0. -/
  foreign : Nat := 0
  foreignFirst : Nat := 0
  /-- PORT_HOLDS by cause (R500). Reset: 0. -/
  holdCycles : List (Nat × Nat) := []
  deriving DecidableEq, Repr

/-- The LPDDR5X tier and its controllers (R107 to R117, R457). -/
structure Tier where
  /-- Plaintext of the usable tier by byte address (R108, R112). Reset: zero (R117). -/
  mem : List (Nat × Byte) := []
  /-- Wrong symbols of stored blocks by block number: symbol and error (R110, R111). Reset: none. -/
  errs : List (Nat × List (Nat × Byte)) := []
  /-- Blocks whose check word is inverted by a poisoned write (R456). Reset: none. -/
  inverted : List Nat := []
  /-- ECC block store of each channel: ECC block numbers, newest first, at most 64, dirty ones marked (R111). Reset: empty. -/
  store : List (Nat × List (Nat × Bool)) := []
  /-- Refreshes performed, by 64 × channel + 32 × rank + bank (R114). Reset: 0. -/
  refreshed : List (Nat × Nat) := []
  /-- Next block of the patrol scrubber (R117). Reset: 0. -/
  scrubBlock : Nat := 0
  /-- TIER_CORRECTED by channel, TIER_UNCORRECTABLE, TIER_SCRUB_PASSES (R493). Reset: 0. -/
  corrected : List (Nat × Nat) := []
  uncorrectable : Nat := 0
  passes : Nat := 0
  /-- TIER_UNCORR_REC: TA and finder (R499). Reset: zero. -/
  lastBad : Nat × Nat := (0, 0)
  /-- Host-held bits that are set: 2 × 64 KiB granule + I/O die (R457). Reset: none. -/
  hostHeld : List Nat := []
  /-- Back-invalidations outstanding: port and tier line (R457). Reset: none. -/
  backInv : List (Nat × Nat) := []
  /-- Tier lines whose back-invalidation was answered, for the access that waits (R457). Reset: none. -/
  answered : List Nat := []
  /-- Tier lines to back-invalidate once fewer than 64 are outstanding, and lines that a device-side write has overwritten, so that
  the host's write-back counts no more (R457). Reset: none. -/
  backQ : List Nat := []
  superseded : List Nat := []
  /-- Corrected blocks of host-held granules whose rewrite waits for the response to a back-invalidation (R111, R457). Reset: none. -/
  rewrites : List Nat := []
  /-- Channels lost to a memory PLL failure (R561). Reset: none. -/
  lost : List Nat := []
  /-- The tier is initialised and usable (R117, R566). Reset: no. -/
  usable : Bool := false
  /-- Tier key pair of each I/O die: two 32-byte keys (R112, R533). Reset: none. -/
  keys : List (Nat × Bytes × Bytes) := []
  deriving DecidableEq, Repr

/-- One request of the weight streamer (R66). -/
structure StrReq where
  slot : Nat
  core : Nat
  line : Nat
  ta : Nat
  epoch : Nat
  /-- Accepted by its controller (R68). -/
  accepted : Bool
  deriving DecidableEq, Repr

/-- The weight streamer (R66 to R70). -/
structure Streamer where
  /-- Requests outstanding. Reset: none. -/
  reqs : List StrReq := []
  /-- Streamer requests, withdrawals, epoch drops (R499). Reset: 0. -/
  requests : Nat := 0
  withdrawals : Nat := 0
  drops : Nat := 0
  deriving DecidableEq, Repr

/-- Where a load is (R423). -/
inductive LoadPhase where
  | none | cpb | image | segments | manifest | intake
  deriving DecidableEq, Repr

/-- A shard of this module in intake (R418 to R420). -/
structure Shard where
  /-- Status of R420. Reset: PENDING. -/
  status : Nat := 0
  /-- Attempts begun (R419). Reset: 0. -/
  attempts : Nat := 0
  /-- Blocks that set NX (R420). Reset: 0. -/
  nx : Nat := 0
  /-- An engine has it in progress (R410). Reset: no. -/
  active : Bool := false
  deriving DecidableEq, Repr

/-- States of R421, in the order of their codes. -/
inductive CtxSt where
  | empty | loading | loaded | mustering | running | suspended | stopped | ended | failed | unloading | pending
  deriving DecidableEq, Repr

/-- A context slot (R400 to R434). -/
structure Ctx where
  /-- CTX_STATE (R421). Reset: EMPTY. -/
  st : CtxSt := .empty
  /-- The state it came from when MUSTERING (R422). Reset: EMPTY. -/
  origin : CtxSt := .empty
  /-- CPB_ADDR (R428). Reset: 0. -/
  cpbAddr : Nat := 0
  /-- The CPB address named at the LOAD (R422, R423). Reset: 0. -/
  loadAddr : Nat := 0
  /-- PENDING with its unload done, while another slot loads (R422). Reset: no. -/
  unloaded : Bool := false
  /-- PEN of the image whose header was read (R599). Reset: none. -/
  pen : Option Nat := none
  /-- LOAD_STATUS, LOAD_DETAIL (R425). Reset: 0. -/
  status : Nat := 0
  detail : Nat := 0
  /-- Phase of the load sequence (R423). Reset: none. -/
  phase : LoadPhase := .none
  /-- The CPB (R400): its bytes without seeds and KV table while loading. Reset: none. -/
  cpb : Bytes := []
  /-- The four seeds, 16 bytes each (R398). Reset: none. -/
  seeds : List Bytes := []
  /-- KV table of the CPB (R430). Reset: none. -/
  kvTable : List Nat := []
  /-- The program image, which holds the step descriptors, slot, fold and streamer tables (R179 to R185, R256). Reset: none. -/
  image : Bytes := []
  /-- Route table by destination module: SIDE, ESCP, PROD; an unlisted module is not VALID (R294). Reset: none. -/
  routes : List (Nat × Nat × Nat × Nat) := []
  /-- The manifest while loading (R402). Reset: none. -/
  manifest : Bytes := []
  /-- Shards of this module by manifest entry index (R418). Reset: none. -/
  shards : List (Nat × Shard) := []
  /-- SHARD_FAIL (R420). Reset: 0. -/
  shardFail : Nat := 0
  /-- QUANT_COUNTS: NX, SF, NV groups (R420). Reset: 0. -/
  quant : Nat × Nat × Nat := (0, 0, 0)
  /-- IMAGE_DIGEST, 32 bytes (R428). Reset: zero. -/
  digest : Bytes := List.replicate 32 0
  /-- MUSTER_ATTEMPT (R428). Reset: 0. -/
  attempt : Nat := 0
  /-- Tier region entry: VALID, SIZE and BASE in GiB (R109). Reset: not valid. -/
  tierRegion : Option (Nat × Nat) := none
  /-- KV stream descriptors by 16 × core + stream (R226). Reset: CAP 0. -/
  kv : List (Nat × KvDesc) := []
  /-- Queued KV requests: OP, KVS, CORE, TOFF, oldest first, at most 64 (R433). Reset: none. -/
  kvQueue : List (Nat × Nat × Nat × Nat) := []
  /-- KV_STATUS (R428). Reset: 0. -/
  kvStatus : Nat := 0
  /-- Streamer epoch, 4 bits (R66). Reset: 0. -/
  epoch : Nat := 0
  /-- Tally and descriptor position kept across a switch (R71, R183). Reset: 0. -/
  tally : Nat := 0
  desc : Nat := 0
  /-- Stream position of each core kept across a switch (R71). Reset: none. -/
  pcs : List (Nat × Nat) := []
  /-- Tally of the last good fold outcome since the start (R450, R452). Reset: none. -/
  lastFold : Option Nat := none
  /-- KILL waits for the next fold (R426). Reset: no. -/
  killed : Bool := false
  /-- MUSTER_REASON, MUSTER_FMODID, MUSTER_RX_REASON (R497). Reset: 0. -/
  musterReason : Nat := 0
  musterFmodid : Nat := 0
  musterRx : Nat := 0
  deriving DecidableEq, Repr

/-- The muster in progress, or the FAIL that is still repeated (R359 to R361, R599). -/
structure Muster where
  /-- Slot that musters (R422). Reset: none. -/
  slot : Option Nat := none
  attempt : Nat := 0
  /-- Every USE = 1 port is classed and RECORD is sent (R360 step 2). Reset: no. -/
  recordSent : Bool := false
  /-- READY reached; its round (R360). Reset: no. -/
  ready : Bool := false
  round : Nat := 0
  /-- Ports classed since the muster start (R358). Reset: none. -/
  classed : List Nat := []
  /-- Stamp of the muster start (R357, R358). Reset: 0. -/
  start : Nat := 0
  /-- Latest RECORD or READY of the attempt by port (R360). Reset: none. -/
  recs : List (Nat × Block) := []
  /-- One more than the highest ROUND seen, by port (R360). Reset: none. -/
  rounds : List (Nat × Nat) := []
  /-- The flit repeated every 100 µs and the ports it goes to (R359, R361, R599). Reset: none. -/
  latest : Option Block := none
  ports : List Nat := []
  /-- The latest flit is a FAIL (R361). Reset: no. -/
  failed : Bool := false
  /-- READY with ROUND DIAM is sent until the first fold completes (R360 step 5). Reset: no. -/
  completed : Bool := false
  /-- FAIL flits of R599 that are still repeated: port, core cycle of the first, payload. Reset: none. -/
  fails : List (Nat × Nat × Block) := []
  /-- Core cycle from which MUSTER_TIMEOUT runs: that of the muster start, or of the muster's failure (R361). Reset: 0. -/
  timer : Nat := 0
  /-- MATCH ports that have been through RESET since the module was ready (R362). Reset: none. -/
  resets : List Nat := []
  deriving DecidableEq, Repr

/-- States of R370, in the order of TIME_STATE. -/
inductive TimeSt where
  | unset | ref | net | coast
  deriving DecidableEq, Repr

/-- The time unit (R365 to R387). -/
structure TimeUnit where
  /-- The counter runs: core cycle of the time-unit PLL lock (R365). Reset: not locked. -/
  lock : Option Nat := none
  /-- SA, OFF, RATE, FREQ (R367, R379). Reset: 0. -/
  sa : Nat := 0
  off : Nat := 0
  rate : Int := 0
  freq : Int := 0
  /-- TIME_STATE (R370). Reset: UNSET. -/
  st : TimeSt := .unset
  /-- SYNC_ARM landed: T_s (R371). Reset: none. -/
  armed : Option Nat := none
  /-- T_s of the arm in force and the edge index k (R371, R374). Reset: none. -/
  arm : Option (Nat × Nat) := none
  /-- Index and stamp of the last edges, newest first, at most five (R372). Reset: none. -/
  edges : List (Nat × Nat) := []
  /-- RACKREF count at the last accepted edge; none while no count runs (R583). Reset: none. -/
  lastCount : Option Nat := none
  /-- RACKREF_PRESENT, SYNC_REJECTED, RACKREF_LOSSES (R583, R584). Reset: 0. -/
  present : Nat := 0
  rejected : Nat := 0
  losses : Nat := 0
  /-- Command that takes effect at a SYNC edge, 1 NET or 5 REF, and the core cycle in which it landed (R370). Reset: none. -/
  atEdge : Option (Nat × Nat) := none
  /-- Slots whose loaded contexts have been mustered, the last one first (R375). Reset: none. -/
  mustered : List Nat := []
  /-- REJOIN or NET now takes the next usable reply as a step (R380). Reset: no. -/
  stepNext : Bool := false
  /-- PARENT, HOPS (R375, R387). Reset: 0xFF. -/
  parent : Nat := 0xFF
  hops : Nat := 0xFF
  /-- The parent is one that R380 found in place of R375's. Reset: no. -/
  found : Bool := false
  /-- XSEQ of the last request, the port it went to and requests without a usable reply (R377, R380). Reset: 0, none, 0. -/
  xseq : Nat := 0
  asked : Option Nat := none
  misses : Nat := 0
  /-- Ports still to try before coasting (R380). Reset: none. -/
  trying : List Nat := []
  /-- A slew is in progress since the last accepted exchange (R379). Reset: no. -/
  slewing : Bool := false
  /-- LAST_THETA, LAST_PATH, REFUSALS, REFUSED_THETA, SYNC_MON (R387). Reset: 0. -/
  lastTheta : Int := 0
  lastPath : Nat := 0
  refusals : Nat := 0
  refusedTheta : Int := 0
  syncMon : Int := 0
  /-- Last applied step, in 2^-32 ns (R380). Reset: 0. -/
  lastStep : Int := 0
  /-- Latched NT_FRAC and NT_STAMP (R387). Reset: 0. -/
  latchFrac : Nat := 0
  latchStamp : Nat := 0
  /-- SYNC_GATE (R385). Reset: 0. -/
  gate : Nat := 0
  /-- Accepted SYNC edges so far (R385, R386). Reset: 0. -/
  gateEdge : Nat := 0
  /-- FOLD_TIME: index, tally, NT, newest first, at most 16 (R384). Reset: none. -/
  foldTime : List (Nat × Nat × Nat) := []
  /-- TALLY_MARK: k and module tally, newest first, at most 16 (R384). Reset: none. -/
  tallyMark : List (Nat × Nat) := []
  deriving DecidableEq, Repr

/-- A ring's descriptor in progress (R448 to R453). -/
structure Desc where
  raw : Bytes
  /-- Device requests still outstanding. -/
  left : Nat := 0
  /-- First error STATUS, 0 none (R452). -/
  status : Nat := 0
  /-- FOLDTALLY at its last device access, and at its start (R452, R453). -/
  tally : Option Nat := none
  startTally : Option Nat := none
  late : Bool := false
  /-- Its operation has run. -/
  ran : Bool := false
  /-- Data of its device reads (D2H), by line offset (R449). -/
  got : List (Nat × Line) := []
  deriving DecidableEq, Repr

/-- A command ring of a CXL port (R445 to R453). -/
structure Ring where
  sqBase : Nat := 0
  cqBase : Nat := 0
  sqTail : Nat := 0
  sqHead : Nat := 0
  cqHead : Nat := 0
  /-- The module's CQ tail and phase (R447, R452). -/
  cqTail : Nat := 0
  phase : Bool := true
  tailAddr : Nat := 0
  cqsz : Nat := 0
  sqsz : Nat := 0
  /-- STATE: 0 OFF, 1 ACTIVE, 2 DRAINING, 3 PENDING (R446). -/
  st : Nat := 0
  busy : Bool := false
  snoop : Bool := false
  cfgErr : Bool := false
  /-- Descriptors read and not complete, by SQ index (R450). -/
  descs : List (Nat × Desc) := []
  /-- Descriptors fetched but not started: SQ index and bytes, none where the read failed (R448, R452). -/
  fetched : List (Nat × Option Bytes) := []
  /-- A read of the next SQ entry is outstanding (R445, R454). -/
  reading : Bool := false
  /-- The slot of the first fetched descriptor, which waits, has left RUNNING and MUSTERING (R450). -/
  waitLeft : Bool := false
  /-- CQ entries written and not freed by CQ_HEAD (R452). -/
  cqUsed : Nat := 0
  deriving DecidableEq, Repr

/-- An SPDM session (R463). -/
structure Session where
  id : Nat
  secret : Bytes
  finished : Bool := false
  deriving DecidableEq, Repr

/-- A window read in progress (R443). -/
structure WinRead where
  num : Nat
  core : Nat
  addr : Nat
  len : Nat
  /-- READs outstanding. -/
  left : Nat
  lines : List (Nat × Line) := []
  failed : Bool := false
  deriving DecidableEq, Repr

/-- A CXL port, C0 or C1 (R435 to R467, R492). -/
structure Cxl where
  /-- CXL_LINK, width, rate, CXL_FLIT256 (R492). Reset: 0. -/
  link : Nat := 0
  width : Nat := 0
  rate : Nat := 0
  flit256 : Nat := 0
  /-- CXL_IDE: bit 0 CXL.io, bit 1 CXL.cachemem secure (R492). Reset: 0. -/
  ide : Nat := 0
  /-- CXL_DOWNS (R492). Reset: 0. -/
  downs : Nat := 0
  /-- PERST_N held low (R577). Reset: no. -/
  perst : Bool := false
  /-- WIN_CTL.SLOT (R442). Reset: 0. -/
  winSlot : Nat := 0
  /-- Rings 0 to 15 (R445). Reset: OFF, zero. -/
  rings : List (Nat × Ring) := []
  /-- MSI-X table: entry to address, data, masked (R439, R460). Reset: masked, as PCIe. -/
  msixTab : List (Nat × Nat × Nat × Bool) := []
  /-- MSI-X PBA, 64 bits (R439). Reset: 0. -/
  pba : Nat := 0
  /-- HDM decoder committed; Error Not Committed shown (R455). Reset: no. -/
  hdm : Bool := false
  hdmError : Bool := false
  /-- Base addresses of BAR0 and BAR2 (R439, R466). Reset: 0. -/
  bar0 : Nat := 0
  bar2 : Nat := 0
  /-- MSI-X function mask (R460). Reset: no, as PCIe. -/
  msixMasked : Bool := false
  /-- Device cache, 64 KiB: addresses of host lines held Shared, 1,024 at most (R436, R451). Reset: empty. -/
  cache : List Nat := []
  /-- Window requests waiting for earlier writes: offset, length (R444). Reset: none. -/
  readsWaiting : List (Nat × Nat) := []
  /-- Window reads in progress (R443). Reset: none. -/
  reads : List WinRead := []
  /-- Number of the next window read (the model's own). Reset: 0. -/
  nextRead : Nat := 0
  /-- Viral enabled by the host (R467). Reset: no. -/
  viral : Bool := false
  /-- Event logs of the mailbox: by log, handle and record, oldest first (R461, R465). Reset: empty. -/
  logs : List (Nat × List (Nat × Bytes)) := []
  nextHandle : Nat := 1
  /-- Event Interrupt Policy bytes (R461). Reset: zero. -/
  policy : Bytes := [0, 0, 0, 0, 0]
  /-- Mailbox timestamp: value and the core cycle at which it was set (R461). Reset: 0. -/
  stamp : Nat := 0
  stampAt : Nat := 0
  /-- SPDM transcript state: 0 start, 1 version, 2 capabilities, 3 negotiated; the transcript (R463). Reset: 0. -/
  spdm : Nat := 0
  transcript : Bytes := []
  sessions : List Session := []
  /-- AER uncorrectable error status: bit 15 Completer Abort, bit 20 Unsupported Request; the offset of the request that the first of them
  logged (R436, R440, R443, R465). Reset: 0. -/
  aer : Nat := 0
  aerHeader : Nat := 0
  deriving DecidableEq, Repr

/-- An event controller of an I/O die (R503 to R516). -/
structure Evc where
  /-- PEND, MASK, STORM, STUCK, LEVEL, 1,024 bits each as 16 banks of 64 (R508). Reset: 0. -/
  pend : List (Nat × BitVec 64) := []
  mask : List (Nat × BitVec 64) := []
  storm : List (Nat × BitVec 64) := []
  stuck : List (Nat × BitVec 64) := []
  level : List (Nat × BitVec 64) := []
  /-- SRC_CFG by source: VECTOR and MCEN where software changed them (R509). Reset: class default, 1. -/
  cfg : List (Nat × Nat × Bool) := []
  /-- Guard windows by source: core cycle of opening, count, GUARD_COUNT and GUARD_WINDOW taken at opening (R514). Reset: none. -/
  windows : List (Nat × Nat × Nat × Nat × Nat) := []
  deriving DecidableEq, Repr

/-- Records and module-wide counters (R473, R493, R495, R499, R517). -/
structure Diag where
  /-- Sites that have failed their test since the last module reset (R76). Reset: none. -/
  badSites : List Site := []
  /-- FAULT_REC, newest first, at most 16 (R518). Reset: none. -/
  faults : List Bytes := []
  /-- FAULT_COUNT (R517). Reset: 0. -/
  faultCount : Nat := 0
  /-- POISON_REC, newest first, at most 16 (R520). Reset: none. -/
  poisons : List Bytes := []
  /-- FOLD_FAIL_REC, newest first, at most 8 (R522). Reset: none. -/
  foldFails : List Bytes := []
  /-- STRAY_STATUS_REC by fold interval, newest first, at most 16 (R499). Reset: zero. -/
  strayStatus : List Bytes := []
  /-- FOLD_RECORDS, newest first, at most 16 (R499). Reset: none. -/
  foldRecs : List Bytes := []
  /-- Host writes into core memory and CXL.mem writes of this fold interval (R394). Reset: 0. -/
  hostWrites : Nat := 0
  memWrites : Nat := 0
  /-- SRAM_CORRECTED, SRAM_POISON (R493). Reset: 0. -/
  sramCorrected : Nat := 0
  sramPoison : Nat := 0
  /-- HOLD_CYCLES by cause, CLOSURE_WAIT (R499). Reset: 0. -/
  holdCycles : List (Nat × Nat) := []
  closureWait : Nat := 0
  /-- DROVE_ORDER_ERR, STRAY_FRAMING_ERR, STALE_RESPONSES, STALE_REQUESTS, BOUNCES (R499). Reset: 0. -/
  droveOrder : Nat := 0
  framing : Nat := 0
  staleRsp : Nat := 0
  staleReq : Nat := 0
  bounces : Nat := 0
  /-- SAT_SUPPRESSED, HOLD_FLOW 1 and 2, CXLMEM_DISCARDED (R499). Reset: 0. -/
  satSuppressed : Nat := 0
  holdDiscard : Nat := 0
  unexplained : Nat := 0
  memDiscarded : Nat := 0
  /-- EVENTS_RAISED (R495). Reset: 0. -/
  events : Nat := 0
  /-- Slot that last ran, whose records R394 holds (R500). Reset: none. -/
  lastSlot : Option Nat := none
  /-- SPARE_TEST of CD0 to CD3 (R502). Reset: 0. -/
  spareTest : List Nat := [0, 0, 0, 0]
  /-- Store errors counted (R535). Reset: 0. -/
  storeErrors : Nat := 0
  deriving DecidableEq, Repr

/-- Power, clocks, reset and start-up (R550 to R573). -/
structure Power where
  /-- The module is on (R550). Reset: on, as after a module reset. -/
  on : Bool := true
  /-- Core cycle of the last module reset: entries that report a measurement hold their defaults until the next one (R14, R472). Reset: 0. -/
  resetAt : Nat := 0
  /-- Input voltage outside 40 V to 60 V (source 8) (R550). Reset: no. -/
  vinOut : Bool := false
  /-- Disconnected above 62 V (R550). Reset: no. -/
  disconnected : Bool := false
  /-- Power-fail wait: groups S, C, L and I are off (R553). Reset: no. -/
  failWait : Bool := false
  /-- Off after a protective shutdown until VIN was below 36 V (R557). Reset: no. -/
  shutdown : Bool := false
  /-- The sequencer's record of the last shutdown, and LAST_SHUTDOWN taken from it at boot (R557, R573). Reset: 0. -/
  seqRec : Nat := 0
  lastShutdown : Nat := 0
  /-- MRST_N held low; the module waits for it (R562, R563). Reset: no. -/
  mrst : Bool := false
  mrstWait : Bool := false
  /-- START_STAGE, START_FAIL (R573). Reset: 0. -/
  stage : Nat := 0
  startFail : Nat := 0
  /-- Start-up step in progress: 1 to 5, 6 when the five are complete, 0 when start-up ended in a failure (R564). Reset: 2. -/
  step : Nat := 2
  /-- Recovery of R538. Reset: no. -/
  recovery : Bool := false
  /-- Rails switched off, by rail number (R554, R555). Reset: every rail of groups I, L, C and S. -/
  railsOff : List Nat := (List.range 22).map (· + 4)
  /-- COMPUTE_STATE (R573). Reset: 0. -/
  compute : Nat := 0
  /-- SRAM_SCRUB_STATE, TIER_SCRUB_STATE (R493). Reset: 0. -/
  sramScrub : Nat := 0
  tierScrub : Nat := 0
  /-- DUTY_POWER, DUTY_DIE of CD0 to CD3, DUTY_GLOBAL (R573). Reset: 0. -/
  duty : Nat := 0
  dutyDie : List Nat := [0, 0, 0, 0]
  dutyGlobal : Nat := 0
  /-- Effective duty E taken at the last frame start, and that core cycle, per compute die (R569). Reset: 0. -/
  frameE : List (Nat × Nat × Nat) := []
  /-- DIE_TEMP 1 to 14, LPDDR_TEMP 1 to 16, in 0.1 °C as last evaluated (R496, R568). Reset: 0. -/
  dieTemp : List (Nat × Int) := []
  pkgTemp : List (Nat × Int) := []
  /-- KEEPER, KEEPER_CAUSE (R495). Reset: 0. -/
  keeper : Bool := false
  keeperCause : Nat := 0
  /-- Compute dies whose PLL has lost lock at run time, so that their routers have stopped (R526, R527, R561). Reset: none. -/
  pllLost : List Nat := []
  /-- MOD_OK asserted (R580). Reset: no. -/
  modOk : Bool := false
  deriving DecidableEq, Repr

/-- Security and firmware state (R490, R498, R533 to R548). -/
structure Security where
  /-- BOOTID, 64 bits (R490). Reset: drawn afresh; a free value (log 3). -/
  bootid : Nat := ((Config.drbg 0).toNat % 2 ^ 64)
  /-- MGMT_CTR (R498). Reset: 0. -/
  mgmtCtr : Nat := 0
  /-- TAMPER: mesh intact, breach seen (R498). Reset: intact, none. -/
  meshOk : Bool := true
  breach : Bool := false
  /-- SVN_FLOOR and STORE_EPOCH, fuse counters (R535, R537, R539). Reset: fused; DESIGN CHOICE 0. -/
  svnFloor : Nat := 0
  storeEpoch : Nat := 0
  /-- Store key, from device secret and epoch (R533). Reset: erased. -/
  storeKey : Bytes := []
  /-- FW_ADDR, FW_LEN, FW_STATUS (R539). Reset: 0. -/
  fwAddr : Nat := 0
  fwLen : Nat := 0
  fwStatus : Nat := 0
  /-- The two firmware banks; one that nothing has staged holds the images of manufacture and is not listed (R538). Reset: none. -/
  banks : List (Nat × Bytes) := []
  /-- Bank in use; the bank selected for the next reset (R538, R539). Reset: 0, none. -/
  bank : Nat := 0
  selected : Option Nat := none
  /-- Zeroization in progress, until the MC has restarted (R546, R547). Reset: no. -/
  zeroizing : Bool := false
  /-- SVN and versions of the booted images (R490, R538). Reset: 0. -/
  bootSvn : Nat := 0
  mcVersion : Nat := 0
  ioVersion : Nat := 0
  deriving DecidableEq, Repr

/-- The management port (R480 to R486, R492). -/
structure Mgmt where
  /-- PLCA_NODE in force, taken when the port restarts (R492). Reset: 0xFF. -/
  plca : Nat := 0xFF
  /-- MGMT_COUNTS 1 to 4 (R492). Reset: 0. -/
  performed : Nat := 0
  refused : Nat := 0
  dropped : Nat := 0
  malformed : Nat := 0
  /-- The last four accepted tagged requests: CTR, TID and response (R484). Reset: none. -/
  held : List (Nat × Nat × Bytes) := []
  deriving DecidableEq, Repr

/-- One MZN4 module with the commands that wait for it. -/
structure State where
  /-- Commands waiting, first in first out (the model's own; R474). Reset: empty. -/
  pending : List Instr := []
  /-- Core cycles of the module clock (the model's own; log 1). Reset: 0. -/
  now : Nat := 0
  /-- Draws of free values so far (the model's own; log 3). Reset: DESIGN CHOICE 1. -/
  free : Nat := 1
  /-- What left the module, newest first (the model's own). Reset: none. -/
  sent : List Sent := []
  fuse : Fuse := {}
  nv : Nv := {}
  /-- Logical cores (R72). Reset: `Core` at its reset values. -/
  cores : List (Nat × Core) := []
  fab : Fabric := {}
  net : StrayNet := {}
  /-- Fabric ports P00 to P31 (R310). Reset: `Port` at its reset values. -/
  ports : List (Nat × Port) := []
  tier : Tier := {}
  strm : Streamer := {}
  /-- Context slots 0 to 3 (R421). Reset: EMPTY. -/
  ctxs : List (Nat × Ctx) := []
  /-- SWITCH_TO, SWITCH_ATTEMPT, SWITCH_REFUSED (R428). Reset: 0xFF, 0, 0. -/
  switchTo : Nat := 0xFF
  switchAttempt : Nat := 0
  switchRefused : Nat := 0
  must : Muster := {}
  time : TimeUnit := {}
  /-- C0 and C1 (R435). Reset: `Cxl` at its reset values. -/
  cxls : List (Nat × Cxl) := []
  /-- Event controllers of IOD0 and IOD1 (R503). Reset: `Evc` at its reset values. -/
  evcs : List (Nat × Evc) := []
  diag : Diag := {}
  pw : Power := {}
  sec : Security := {}
  mgmt : Mgmt := {}
  deriving DecidableEq, Repr

/-- The module right after a module reset, before start-up has run (R472, R563): every entry at its default, memory
with nothing listed, start-up about to run step 2. -/
def State.reset : State := {}

end Sys2Proof.Machine
end

