-- ==== Sys2Proof/Machine/Ops.lean ====
section
/-! DEFINITION. Named operations over the state: access to one core, port, slot, CXL port or controller; free values;
events, faults and poison records; SRAM lines and their error correction. -/

namespace Sys2Proof.Machine

/-- The outcome type of every meaning. -/
abbrev Out := Host.Outcome State Fault Refusal

/-- A logical core. -/
def State.core (s : State) (n : Nat) : Core := Tab.get {} s.cores n
/-- Replace a logical core. -/
def State.setCore (s : State) (n : Nat) (c : Core) : State := { s with cores := Tab.put n c s.cores }
/-- Change a logical core. -/
def State.modCore (s : State) (n : Nat) (f : Core → Core) : State := s.setCore n (f (s.core n))
/-- A fabric port. -/
def State.port (s : State) (n : Nat) : Port := Tab.get {} s.ports n
/-- Replace a fabric port. -/
def State.setPort (s : State) (n : Nat) (p : Port) : State := { s with ports := Tab.put n p s.ports }
/-- Change a fabric port. -/
def State.modPort (s : State) (n : Nat) (f : Port → Port) : State := s.setPort n (f (s.port n))
/-- A context slot. -/
def State.ctx (s : State) (n : Nat) : Ctx := Tab.get {} s.ctxs n
/-- Replace a context slot. -/
def State.setCtx (s : State) (n : Nat) (c : Ctx) : State := { s with ctxs := Tab.put n c s.ctxs }
/-- Change a context slot. -/
def State.modCtx (s : State) (n : Nat) (f : Ctx → Ctx) : State := s.setCtx n (f (s.ctx n))
/-- A CXL port. -/
def State.cxl (s : State) (n : Nat) : Cxl := Tab.get {} s.cxls n
/-- Replace a CXL port. -/
def State.setCxl (s : State) (n : Nat) (c : Cxl) : State := { s with cxls := Tab.put n c s.cxls }
/-- Change a CXL port. -/
def State.modCxl (s : State) (n : Nat) (f : Cxl → Cxl) : State := s.setCxl n (f (s.cxl n))
/-- An event controller. -/
def State.evc (s : State) (n : Nat) : Evc := Tab.get {} s.evcs n
/-- Replace an event controller. -/
def State.setEvc (s : State) (n : Nat) (e : Evc) : State := { s with evcs := Tab.put n e s.evcs }

/-- Something leaves the module. -/
def State.emit (s : State) (x : Sent) : State := { s with sent := x :: s.sent }
/-- The next free value of the random generators (R534, log 3). -/
def State.draw (s : State) : BitVec 256 × State := (Config.drbg s.free, { s with free := s.free + 1 })
/-- Change the diagnostic records. -/
def State.modDiag (s : State) (f : Diag → Diag) : State := { s with diag := f s.diag }

/-- Enabled cores of the grade (R1, R490). -/
def State.nCores (s : State) : Nat := if s.fuse.grade = 0 then 2048 else 1792
/-- Columns of the logical mesh (R72). -/
def State.width (s : State) : Nat := if s.fuse.grade = 0 then 32 else 28
/-- Compute die of a logical core (R72). -/
def State.dieOf (s : State) (n : Nat) : Nat :=
  (if 32 ≤ n / s.width then 2 else 0) + (if s.width / 2 ≤ n % s.width then 1 else 0)
/-- Populated LPDDR5X channels (R107). -/
def State.channels (s : State) : List Nat :=
  if s.fuse.grade = 0 then List.range 64 else List.range 16 ++ (List.range 16).map (· + 32)
/-- Usable tier in GiB (R108). -/
def State.tierGiB (s : State) : Nat := if s.fuse.grade = 0 then 480 else 240
/-- The slot that runs, if any (R422). -/
def State.runSlot (s : State) : Option Nat := (List.range 4).find? fun i => (s.ctx i).st == .running
/-- The module tally of a context: the lowest among its cores (R20). -/
def State.moduleTally (s : State) : Nat :=
  match s.runSlot with
  | none => 0
  | some _ => ((lowestTally ((List.range s.nCores).map fun n => (s.core n).tally)).getD 0)
/-- Core cycles in a microsecond (3.6 GHz). -/
def cyclesPerUs : Nat := 3600

/-- The running context, and its slot. -/
def State.runCtx (s : State) : Option (Nat × Ctx) := s.runSlot.map fun i => (i, s.ctx i)

/-! Events (R503 to R516). -/

/-- Class of a source (R503); none for a reserved source. -/
def sourceClass (die src : Nat) : Option Nat :=
  if src = 0 ∨ src = 1 then some 0
  else if src = 2 ∨ src = 3 ∨ src = 4 then (if die = 0 then some 1 else none)
  else if src = 5 then (if die = 0 then some 5 else none)
  else if src = 6 ∨ src = 8 then (if die = 0 then some 4 else none)
  else if src = 7 then some 4
  else if src = 16 ∨ src = 17 ∨ src = 18 ∨ src = 19 then some 1
  else if src = 20 ∨ src = 21 then some 2
  else if 22 ≤ src ∧ src ≤ 27 then some 5
  else if 64 ≤ src ∧ src ≤ 95 then some 3
  else if 96 ≤ src ∧ src ≤ 127 then some 2
  else if src = 128 ∨ src = 129 then some 6
  else if src = 130 then some 2
  else none

/-- A level source (R503, R509). -/
def sourceLevel (src : Nat) : Bool := src == 1 || src == 6 || src == 7 || src == 8
/-- EXEMPT (R509). -/
def sourceExempt (src : Nat) : Bool := src == 0 || src == 1

/-- Bit of a banked register (R508). -/
def bankBit (t : List (Nat × BitVec 64)) (src : Nat) : Bool := (Tab.get 0 t (src / 64)).getLsbD (src % 64)
/-- Set a bit of a banked register. -/
def setBankBit (t : List (Nat × BitVec 64)) (src : Nat) (b : Bool) : List (Nat × BitVec 64) :=
  let w := Tab.get 0 t (src / 64)
  let m : BitVec 64 := 1 <<< (src % 64)
  Tab.put (src / 64) (if b then w ||| m else w &&& ~~~m) t

/-- Effective mask of a source (R508). -/
def Evc.masked (e : Evc) (src : Nat) : Bool := bankBit e.mask src || bankBit e.storm src || bankBit e.stuck src
/-- VECTOR of a source (R505, R509). -/
def Evc.vector (e : Evc) (die src : Nat) : Nat :=
  match e.cfg.find? (·.1 == src) with
  | some c => c.2.1
  | none => match sourceClass die src with | some c => 17 + c | none => 0
/-- MCEN of a source (R509). -/
def Evc.mcen (e : Evc) (die src : Nat) : Bool :=
  match e.cfg.find? (·.1 == src) with
  | some c => c.2.2
  | none => (sourceClass die src).isSome

/-- Send an MSI-X message of a CXL port, or set its PBA bit while the entry is masked (R460). -/
def State.msix (s : State) (port vec : Nat) : State :=
  let c := s.cxl port
  match c.msixTab.find? (·.1 == vec), c.msixMasked with
  | some (_, _, _, false), false => s.emit (.msix port vec)
  | _, _ => s.setCxl port { c with pba := if bit c.pba vec then c.pba else c.pba + 2 ^ vec }

/-- One delivery (R511). -/
def State.deliver (s : State) (die src : Nat) : State :=
  let e := s.evc die
  let s1 := if e.vector die src = 0 then s else s.msix die (e.vector die src)
  if e.mcen die src then s1.emit (.mcIrq die src) else s1

/-- Set PEND and decide a delivery when PEND AND NOT mask rises (R511). -/
def State.setPend (s : State) (die src : Nat) : State :=
  let e := s.evc die
  let s1 := s.setEvc die { e with pend := setBankBit e.pend src true }
  if !bankBit e.pend src && !e.masked src then s1.deliver die src else s1

/-- Source 1 follows the guard bits of its controller (R516). -/
def State.guardSummary (s : State) (die : Nat) : State :=
  let e := s.evc die
  let active := (e.storm ++ e.stuck).any fun b => b.2 != 0
  let was := bankBit e.level 1
  let s1 := s.setEvc die { e with level := setBankBit e.level 1 active }
  if active && !was then
    (s1.modDiag fun d => { d with events := satAdd 64 d.events 1 }).setPend die 1
  else s1

/-- The storm guard's count of one assertion: the controller after it and whether STORM rises (R514). -/
def stormCount (g : GuardNv) (now : Nat) (e : Evc) (src : Nat) : Evc × Bool :=
  let fresh := (src, now, 1, g.count, g.window)
  let (w, n) : (Nat × Nat × Nat × Nat × Nat) × Nat := match e.windows.find? (·.1 == src) with
    | some w => if now ≤ w.2.1 + w.2.2.2.2 * cyclesPerUs then ((src, w.2.1, w.2.2.1 + 1, w.2.2.2.1, w.2.2.2.2), w.2.2.1 + 1) else (fresh, 1)
    | none => (fresh, 1)
  let e1 := { e with windows := w :: e.windows.filter (·.1 != src) }
  if n > w.2.2.2.1 ∧ !bankBit e.storm src then ({ e1 with storm := setBankBit e1.storm src true }, true) else (e1, false)

/-- One assertion of a source (R504, R514, R516). -/
def State.assertEvent (s : State) (die src : Nat) : State :=
  if (sourceClass die src).isNone then s
  else
    let s0 := s.modDiag fun d => { d with events := satAdd 64 d.events 1 }
    if sourceExempt src then s0.setPend die src
    else
      let g := Tab.get {} s0.nv.guards (1024 * die + src)
      let r := stormCount g s0.now (s0.evc die) src
      let s1 := (s0.setEvc die r.1).setPend die src
      if r.2 then (s1.modDiag fun d => { d with events := satAdd 64 d.events 1 }).guardSummary die else s1

/-- The input of a level source takes a value; a rising edge asserts (R504). -/
def State.levelInput (s : State) (die src : Nat) (b : Bool) : State :=
  let e := s.evc die
  let was := bankBit e.level src
  let s1 := s.setEvc die { e with level := setBankBit e.level src b }
  if b && !was then s1.assertEvent die src else s1

/-- A source of a core's compute die: 16 + 2k + local die (R503). -/
def State.coreEvent (s : State) (core base : Nat) : State :=
  let d := s.dieOf core
  s.assertEvent (d / 2) (base + d % 2)

/-! Fold-failing conditions, faults and poison (R35, R518 to R524). -/

/-- A core takes a fold-failing condition (R35). -/
def Core.failed (c : Core) (reason site : Nat) : Core :=
  if c.failing.contains (reason, site) then c else { c with failing := (reason, site) :: c.failing }

/-- FAULT_REC (R518). -/
def faultRec (core addr slot cls code ctx tally : Nat) : Bytes :=
  leBytes 2 core ++ leBytes 4 addr ++ leBytes 1 slot ++ leBytes 1 cls ++ leBytes 1 code ++ leBytes 1 ctx ++ leBytes 6 tally ++ leBytes 8 0

/-- What every program fault does: the fold-failing condition, the record, the count and the event (R518, R523, R524). -/
def State.faultRecord (s : State) (core addr slot cls code : Nat) : State :=
  let c := s.core core
  ((s.setCore core (c.failed 6 core)).modDiag fun d => { d with
      faults := pushRecent 16 (faultRec core addr slot cls code (s.runSlot.getD 0) c.tally) d.faults
      faultCount := satAdd 64 d.faultCount 1 }).coreEvent core 16

/-- A core steps without issuing from here on; its positions fall due from now where the step's live cycle 0 has not issued (R274). -/
def Core.goSilent (c : Core) (now : Nat) : Core :=
  { c with run := .silent, stopping := false, holds := [], hurdles := [], stepStart := some (c.stepStart.getD now) }

/-- A program fault at issue: the core stops issuing and is silent until the fold (R178, R274, R524). -/
def State.fault (s : State) (core addr slot cls code : Nat) : State :=
  if (s.core core).run == .run then
    (s.faultRecord core addr slot cls code).modCore core fun c => c.goSilent s.now
  else s

/-- The address recorded when no bundle was at issue (R518). -/
def noBundle : Nat := 0x7FFFE0

/-- A program fault outside issue: issue stops from the next live cycle (R519, R524). -/
def State.faultOutside (s : State) (core code : Nat) : State :=
  if (s.core core).run == .run && !(s.core core).stopping then
    (s.faultRecord core noBundle 7 6 code).modCore core fun c => { c with stopping := true }
  else s

/-- Context slot of the region that holds a line; 0xFF for none (R520). -/
def Core.lineCtx (c : Core) (line : Nat) : Nat :=
  match c.regions.find? fun r => r.2.valid && r.2.base ≤ line && line ≤ r.2.limit with
  | some r => r.2.ctx
  | none => 0xFF

/-- Record poison at a core (R520, R521). -/
def State.poisonAt (s : State) (core addr kind reg : Nat) : State :=
  let c := s.core core
  let cx := c.lineCtx (addr / 64)
  let s1 := if kind < 4 then s.modDiag fun d => { d with sramPoison := satAdd 64 d.sramPoison 1 } else s
  let bad := s.runSlot == some cx || kind == 5
  let c1 := if bad then c.failed 1 core else c
  match c.poison with
  | some _ => s1.setCore core c1
  | none =>
    let rec_ := leBytes 2 core ++ leBytes 4 addr ++ leBytes 1 kind ++ leBytes 1 reg ++ leBytes 1 cx ++ leBytes 1 0
      ++ leBytes 6 c.tally ++ leBytes 8 0
    ((s1.setCore core { c1 with poison := some (addr, kind, reg) }).modDiag fun d =>
      { d with poisons := pushRecent 16 rec_ d.poisons }).coreEvent core 20

/-! SRAM lines (R81, R82, R102 to R104). -/

/-- Lines of a core's slice (R81). -/
def sramLines : Nat := 98304
/-- Bank of a line (R81). -/
def bankOf (line : Nat) : Nat := line % 8

/-- The stored data of a line, without its errors. -/
def Core.lineData (c : Core) (line : Nat) : Line := bytesBv 512 (Mem.readN c.sram (64 * line) 64)
/-- The error pattern of a stored line (R102). -/
def Core.lineErrs (c : Core) (line : Nat) : List (Nat × Byte) := Tab.get [] c.ecc line
/-- How a read of a line decodes (R103). -/
def Core.lineEcc (c : Core) (line : Nat) : EccOutcome := eccClassify (c.lineErrs line)
/-- The data that a read of a line delivers (R103, R104). -/
def Core.readLine (c : Core) (line : Nat) : Line :=
  match c.lineEcc line with
  | .clean => overlay (c.lineData line) (c.lineErrs line)
  | .correctable sy e => overlay (overlay (c.lineData line) (c.lineErrs line)) [(sy, BitVec.ofNat 8 e)]
  | .uncorrectable => overlay (c.lineData line) (c.lineErrs line)

/-- The line that the request in progress accesses next (R290). -/
def StrayWork.line (w : StrayWork) : Nat := w.req.addr / 64 + w.k

/-- A write of a line makes the read of a read-modify-write of it void (R91). -/
def StrayWork.written (w : StrayWork) (line : Nat) : StrayWork := if w.line = line then { w with old := none } else w

/-- Store a line with valid check bytes; a staging entry or a queued write-back for it goes, and a read-modify-write of it starts again
(R63, R91, R105). -/
def Core.writeLine (c : Core) (line : Nat) (d : Line) : Core :=
  { c with sram := Mem.writeN c.sram (64 * line) (bvBytes 64 d), ecc := Tab.del line c.ecc
           writeback := c.writeback.filter (· != line), staging := c.staging.filter (·.1 != line)
           work := c.work.map fun w => w.written line }

/-- Write the selected bytes of a line. -/
def maskedLine (old new : Line) (mask : Nat) : Line :=
  bytesBv 512 ((List.range 64).map fun k => if bit mask (k / 4) then new.extractLsb' (8 * k) 8 else old.extractLsb' (8 * k) 8)

/-- The count and write-back of a corrected read (R104). -/
def State.correctedRead (s : State) (core line : Nat) (queue : Bool) : State :=
  (s.modCore core fun c => { c with
    corrected := satAdd 64 c.corrected 1
    writeback := if queue && !c.writeback.contains line then c.writeback ++ [line] else c.writeback }).modDiag
    fun d => { d with sramCorrected := satAdd 64 d.sramCorrected 1 }

/-- An operation's read of a line: data, whether it was uncorrectable, and the state with its count or poison (R104). -/
def State.opRead (s : State) (core line kind : Nat) : Line × Bool × State :=
  let c := s.core core
  let s0 := s.setCore core { c with banks := bankOf line :: c.banks }
  match c.lineEcc line with
  | .clean => (c.readLine line, false, s0)
  | .correctable .. => (c.readLine line, false, s0.correctedRead core line true)
  | .uncorrectable => (c.readLine line, true, s0.poisonAt core (64 * line) kind 0)

/-- Operation reads of consecutive lines (R82). -/
def State.opReads (s : State) (core line : Nat) : Nat → List Line × Bool × State
  | 0 => ([], false, s)
  | n + 1 =>
    let r := s.opRead core line 0
    let t := State.opReads r.2.2 core (line + 1) n
    (r.1 :: t.1, r.2.1 || t.2.1, t.2.2)

/-- A move-unit read of a line: the run-ahead copy while it is valid, else a read of the bank (R63, R104). -/
def State.moveRead (s : State) (core line : Nat) : Line × Bool × State :=
  match (s.core core).staging.find? (·.1 == line) with
  | some e => (e.2, false, s)
  | none => s.opRead core line 0

/-- Move-unit reads of consecutive lines (R63, R82). -/
def State.moveReads (s : State) (core line : Nat) : Nat → List Line × Bool × State
  | 0 => ([], false, s)
  | n + 1 =>
    let r := s.moveRead core line
    let t := State.moveReads r.2.2 core (line + 1) n
    (r.1 :: t.1, r.2.1 || t.2.1, t.2.2)

/-- Operation reads of consecutive lines, each with whether it was uncorrectable (R82, R203). -/
def State.opReadsEach (s : State) (core line : Nat) : Nat → List (Line × Bool) × State
  | 0 => ([], s)
  | n + 1 =>
    let r := s.opRead core line 0
    let t := State.opReadsEach r.2.2 core (line + 1) n
    ((r.1, r.2.1) :: t.1, t.2)

/-- Release the fill bits of lines (R99, R170). -/
def Core.release (c : Core) (rel : Bool) (line n : Nat) : Core :=
  if rel then { c with fill := c.fill.filter fun l => !(line ≤ l && l < line + n) } else c

/-- The valid region entry of a context that covers a line (R96). -/
def Core.regionOf (c : Core) (slot line : Nat) : Option Region :=
  (c.regions.find? fun r => r.2.valid && r.2.ctx == slot && r.2.base ≤ line && line ≤ r.2.limit).map (·.2)

/-- A core operation may read the line (R96). -/
def Core.mayRead (c : Core) (slot line : Nat) : Bool :=
  match c.regionOf slot line with
  | some r => (r.kind == 1 && r.cr) || r.kind == 2 || r.kind == 3
  | none => false
/-- A core operation may write the line (R96). -/
def Core.mayWrite (c : Core) (slot line : Nat) : Bool :=
  match c.regionOf slot line with
  | some r => r.kind == 1 && r.cw
  | none => false
/-- A line of a region kind: 0 program, 2 receive, 3 landing (R94). -/
def Core.isKind (c : Core) (slot line kind : Nat) : Bool :=
  match c.regionOf slot line with | some r => r.kind == kind | none => false
/-- The line has a fill bit: it lies in a receive or landing region (R98). -/
def Core.hasFill (c : Core) (slot line : Nat) : Bool := c.isKind slot line 2 || c.isKind slot line 3

/-- The core's stray agent for a host port and the MC (R284). -/
def hostAgent (port : Nat) : Nat := port

/-- The network time counter (R365): time ticks since the lock, at 4 ticks in 9 core cycles. -/
def State.counter (s : State) : Nat :=
  match s.time.lock with | some l => ((s.now - l) * 4 / 9) % 2 ^ 64 | none => 0
/-- A stamp taken without a PHY event (R366). -/
def State.stamp (s : State) : Nat := (s.counter * 25 / 2) % 2 ^ 64

/-- The PHY's stamp of an event at a fraction of 2^-16 within its tick (R366). -/
def State.phyStamp (s : State) (f : BitVec 16) : Nat := ((s.counter * 65536 + f.toNat) * 25 / 131072) % 2 ^ 64

/-- Network time of a stamp, 96 bits in 2^-32 ns (R367). -/
def TimeUnit.nt (t : TimeUnit) (stamp : Nat) : Nat :=
  let d := (stamp + 2 ^ 64 - t.sa) % 2 ^ 64
  let b := d * 2 ^ 32 / 20
  (((t.off + b : Nat) : Int) + ((b : Int) * t.rate) / 2 ^ 40) % 2 ^ 96 |>.toNat

/-- The first fetched descriptor of a ring waits for a fold of a slot (R448, R450). -/
def Ring.waitsFor (r : Ring) (slot : Nat) : Bool :=
  match r.fetched with
  | (_, some b) :: _ => bit (field b 1 1) 1 && field b 2 1 == slot
  | _ => false

/-- A slot leaves RUNNING and MUSTERING: descriptors that wait for it end with STATE (R450). -/
def Cxl.slotLeft (c : Cxl) (slot : Nat) : Cxl :=
  { c with rings := Tab.map (fun _ r => if r.waitsFor slot then { r with waitLeft := true } else r) c.rings }

/-- Change of a slot's state, with source 3 (R422, R450, R503). -/
def State.ctxState (s : State) (slot : Nat) (st : CtxSt) : State :=
  let was := (s.ctx slot).st
  let s1 := if (was == .running || was == .mustering) && st != .running && st != .mustering
    then { s with cxls := Tab.map (fun _ c => c.slotLeft slot) s.cxls } else s
  (s1.modCtx slot fun c => { c with st := st }).assertEvent 0 3

end Sys2Proof.Machine
end

