-- ==== Sys2Proof/Machine/Events.lean ====
section
/-! DEFINITION. The commands of the event controllers: assertions and software writes of their registers (R503 to R516). A command on
a controller or source that does not exist leaves the state as it is (log 2). -/

namespace Sys2Proof.Machine

/-- The sources of a bank that exist (R503): reserved ones read as zero in every field (R509). -/
def bankValid (die bank : Nat) : BitVec 64 :=
  (List.range 64).foldl (fun (w : BitVec 64) j => if (sourceClass die (64 * bank + j)).isSome then w ||| (1 <<< j) else w) 0

/-- The bits of a bank with PEND = 1 and effective mask 0 (R507, R508). -/
def Evc.open (e : Evc) (bank : Nat) : BitVec 64 :=
  Tab.get 0 e.pend bank &&& ~~~(Tab.get 0 e.mask bank ||| Tab.get 0 e.storm bank ||| Tab.get 0 e.stuck bank)

/-- A change of a bank, with the delivery of every source for which PEND AND NOT effective mask rises (R511). -/
def State.changeBank (s : State) (die bank : Nat) (f : Evc → Evc) : State :=
  let e := s.evc die
  let e1 := f e
  let rise := e1.open bank &&& ~~~(e.open bank)
  (List.range 64).foldl (fun (s : State) j => if rise.getLsbD j then s.deliver die (64 * bank + j) else s) (s.setEvc die e1)

/-- A write of PEND: every bit takes the written value, but a level source whose input is active keeps its bit (R508, R509, R513). -/
def State.pendWrite (s : State) (die bank : Nat) (v : BitVec 64) : State :=
  s.changeBank die bank fun e => { e with pend := Tab.put bank ((v &&& bankValid die bank) ||| Tab.get 0 e.level bank) e.pend }
/-- Clear pending bits (R508, R509, R513). -/
def State.pendClear (s : State) (die bank : Nat) (v : BitVec 64) : State :=
  s.changeBank die bank fun e => { e with pend := Tab.put bank ((Tab.get 0 e.pend bank &&& ~~~v) ||| Tab.get 0 e.level bank) e.pend }
/-- A write of MASK (R508, R512). -/
def State.maskWrite (s : State) (die bank : Nat) (v : BitVec 64) : State :=
  s.changeBank die bank fun e => { e with mask := Tab.put bank (v &&& bankValid die bank) e.mask }
/-- Clear STORM bits: the count starts with a fresh window (R508, R514, R516). -/
def State.stormClear (s : State) (die bank : Nat) (v : BitVec 64) : State :=
  (s.changeBank die bank fun e => { e with
    storm := Tab.put bank (Tab.get 0 e.storm bank &&& ~~~v) e.storm
    windows := e.windows.filter fun w => !(w.1 / 64 == bank && v.getLsbD (w.1 % 64) && bankBit e.storm w.1) }).guardSummary die
/-- Clear STUCK bits (R508, R515, R516). -/
def State.stuckClear (s : State) (die bank : Nat) (v : BitVec 64) : State :=
  (s.changeBank die bank fun e => { e with stuck := Tab.put bank (Tab.get 0 e.stuck bank &&& ~~~v) e.stuck }).guardSummary die

/-- A write of SRC_CFG: VECTOR, where 1 to 16 leave the field, and MCEN (R509). -/
def State.cfgWrite (s : State) (die src : Nat) (v : BitVec 64) : State :=
  if (sourceClass die src).isNone then s
  else
    let e := s.evc die
    let n := bits v.toNat 15 10
    let vec := if 1 ≤ n ∧ n ≤ 16 then e.vector die src else n
    s.setEvc die { e with cfg := (src, vec, bit v.toNat 9) :: e.cfg.filter (·.1 != src) }

/-- EVENT_ASSERT: an edge source asserts; the input of a level source rises. Source 1 follows the guard bits alone (R504, R511, R514,
R516). -/
def execEventAssert (die source : Nat) (s : State) : Out :=
  .next (if 2 ≤ die ∨ (sourceClass die source).isNone = true ∨ source = 1 then s
  else if sourceLevel source then s.levelInput die source true else s.assertEvent die source)

/-- PEND_WRITE (R508, R509, R511, R513). -/
def execPendWrite (die bank : Nat) (value : BitVec 64) (s : State) : Out :=
  .next (if die < 2 ∧ bank < 16 then s.pendWrite die bank value else s)

/-- PEND_W1C_WRITE (R508, R509, R513). -/
def execPendW1cWrite (die bank : Nat) (value : BitVec 64) (s : State) : Out :=
  .next (if die < 2 ∧ bank < 16 then s.pendClear die bank value else s)

/-- MASK_WRITE (R508, R511, R512). -/
def execMaskWrite (die bank : Nat) (value : BitVec 64) (s : State) : Out :=
  .next (if die < 2 ∧ bank < 16 then s.maskWrite die bank value else s)

/-- STORM_CLEAR (R508, R511, R514, R516). -/
def execStormClear (die bank : Nat) (value : BitVec 64) (s : State) : Out :=
  .next (if die < 2 ∧ bank < 16 then s.stormClear die bank value else s)

/-- STUCK_CLEAR (R508, R511, R515, R516). -/
def execStuckClear (die bank : Nat) (value : BitVec 64) (s : State) : Out :=
  .next (if die < 2 ∧ bank < 16 then s.stuckClear die bank value else s)

/-- SRC_CFG_WRITE (R509, R512). -/
def execSrcCfgWrite (die source : Nat) (value : BitVec 64) (s : State) : Out :=
  .next (if die < 2 then s.cfgWrite die source value else s)

/-- STUCK_LIMIT_EXPIRE: a level source's input has stayed active for the limit: STUCK, and the guard's action is counted (R515, R516). -/
def execStuckLimitExpire (die source : Nat) (s : State) : Out :=
  let e := s.evc die
  .next (if die < 2 ∧ source < 1024 ∧ sourceLevel source = true ∧ sourceExempt source = false ∧ bankBit e.level source = true
      ∧ bankBit e.stuck source = false then
    ((s.setEvc die { e with stuck := setBankBit e.stuck source true }).modDiag fun d =>
      { d with events := satAdd 64 d.events 1 }).guardSummary die
  else s)

end Sys2Proof.Machine
end

