-- ==== Sys2Proof/Machine/Sites.lean ====
section
/-! DEFINITION. Logical cores and the sites that carry them: core sites, unused columns, spare sites, the spare maps (R72 to R76, R501). -/

namespace Sys2Proof.Machine

/-- Logical coordinates of a core (R72). -/
def State.coreX (s : State) (n : Nat) : Nat := n % s.width
def State.coreY (s : State) (n : Nat) : Nat := n / s.width

/-- Column and row of a core's own site on its compute die (R73). -/
def State.siteU (s : State) (n : Nat) : Nat :=
  let x := s.coreX n
  if s.fuse.grade = 0 then (if s.dieOf n % 2 = 0 then x else x - 16) else if s.dieOf n % 2 = 0 then x + 2 else x - 14
def State.siteW (s : State) (n : Nat) : Nat := s.coreY n % 32
/-- The spare group that a row belongs to (R73). -/
def groupOf (w : Nat) : Nat := w / 4
/-- A column of a die whose sites the grade does not use: the two outermost on MZN4-B (R73). -/
def State.unusedColumn (s : State) (die u : Nat) : Bool :=
  s.fuse.grade != 0 && (if die % 2 = 0 then decide (u < 2) else decide (14 ≤ u && u < 16))
/-- Index of a site in its group (R501). -/
def siteIndex (u w : Nat) : Nat := (w - 4 * groupOf w) * 16 + u
/-- A core's own site (R73). -/
def State.ownSite (s : State) (n : Nat) : Site := .core (s.dieOf n) (s.siteU n) (s.siteW n)

/-- Active spare map of a compute die: a field byte that is not zero replaces the manufacturing byte, and CLEAR cancels it (R74, R501). -/
def spareActive (mfg fld : Nat) : Nat :=
  leNat ((List.range 8).map fun g =>
    let f := (fld >>> (8 * g)) % 256
    BitVec.ofNat 8 (if f = 0 then (mfg >>> (8 * g)) % 256 else if bit f 6 then 0 else f))
/-- The map in use of a compute die: the one of manufacture, overlaid by the field map (R74). -/
def State.spareMap (s : State) (die : Nat) : Nat := spareActive (s.fuse.spareMfg.getD die 0) (s.nv.spareField.getD die 0)

/-- The site that carries a logical core: its group's spare where the map in use substitutes it, else its own (R74, R501). -/
def State.siteOf (s : State) (n : Nat) : Site :=
  let g := groupOf (s.siteW n)
  let b := (s.spareMap (s.dieOf n) >>> (8 * g)) % 256
  if bit b 7 && b % 64 == siteIndex (s.siteU n) (s.siteW n) then .spare (s.dieOf n) g else s.ownSite n

/-- The logical core runs on a spare, so that its flits cross the bypass (R74, R77). -/
def State.substituted (s : State) (n : Nat) : Bool := s.siteOf n != s.ownSite n

/-- Sites that the map in use names: those of the grade's logical cores (R76). -/
def State.namedSites (s : State) : List Site := (List.range s.nCores).map s.siteOf

end Sys2Proof.Machine
end

