-- ==== Sys2Proof/Decode.lean ====
section
/-! DEFINITION. The word decoder of the command table, which gives no row any bits, and the bundle encoding of the tile
core (R160 to R177): each slot's encoder and decoder. -/

namespace Sys2Proof

/-- The command that a word of the command table spells: the table gives no row any bits, so none. -/
def decodeTableWord (_nbits _w : Nat) : Option Instr := none

/-- Slot of a core operation: 0 C, 1 M, 2 X, 3 V, 4 L (R160, R518). -/
def slotOf : Instr → Option Nat
  | .nop _ s => some s.val
  | .add .. => some 0
  | .sub .. => some 0
  | .and .. => some 0
  | .or .. => some 0
  | .xor .. => some 0
  | .shl .. => some 0
  | .shr .. => some 0
  | .sar .. => some 0
  | .cmpeq .. => some 0
  | .cmplt .. => some 0
  | .cmpltu .. => some 0
  | .mul .. => some 0
  | .addi .. => some 0
  | .subi .. => some 0
  | .andi .. => some 0
  | .ori .. => some 0
  | .xori .. => some 0
  | .shli .. => some 0
  | .shri .. => some 0
  | .sari .. => some 0
  | .cmpeqi .. => some 0
  | .cmplti .. => some 0
  | .cmpltui .. => some 0
  | .muli .. => some 0
  | .mov .. => some 0
  | .li .. => some 0
  | .lih .. => some 0
  | .br .. => some 0
  | .beqz .. => some 0
  | .bnez .. => some 0
  | .bltz .. => some 0
  | .bgez .. => some 0
  | .bdec .. => some 0
  | .hurdle .. => some 0
  | .fold .. => some 0
  | .rdtally .. => some 0
  | .flgrd .. => some 0
  | .flgclr .. => some 0
  | .lds .. => some 1
  | .ldv .. => some 1
  | .stv .. => some 1
  | .mxload .. => some 1
  | .kvapp .. => some 1
  | .kvcommit .. => some 1
  | .kvdrop .. => some 1
  | .mxstream .. => some 2
  | .accout .. => some 2
  | .accclr .. => some 2
  | .vfma .. => some 3
  | .vadd .. => some 3
  | .vsub .. => some 3
  | .vmul .. => some 3
  | .vmax .. => some 3
  | .vmin .. => some 3
  | .vcmp .. => some 3
  | .vsel .. => some 3
  | .vand .. => some 3
  | .vor .. => some 3
  | .vxor .. => some 3
  | .viadd .. => some 3
  | .visub .. => some 3
  | .vimul .. => some 3
  | .vshl .. => some 3
  | .vshr .. => some 3
  | .vsar .. => some 3
  | .vcvt .. => some 3
  | .vred .. => some 3
  | .vtr .. => some 3
  | .gemv .. => some 3
  | .lswadd .. => some 3
  | .rngfill .. => some 3
  | .vbcast .. => some 3
  | .send .. => some 4
  | .recv .. => some 4
  | .lswsend .. => some 4
  | .strayw .. => some 4
  | .straya .. => some 4
  | _ => none

/-- C-slot form CR (R167). -/
def formCR (op : BitVec 6) (d a b : BitVec 5) : BitVec 48 := op ++ d ++ a ++ b ++ 0#27
/-- C-slot form CI (R167). -/
def formCI (op : BitVec 6) (d a : BitVec 5) (imm : BitVec 32) : BitVec 48 := op ++ d ++ a ++ imm
/-- C-slot form CB (R167). -/
def formCB (op : BitVec 6) (a : BitVec 5) (off : BitVec 19) : BitVec 48 := op ++ 0#5 ++ a ++ 0#13 ++ off

/-- The C-slot bits of an operation (R167). -/
def encodeC : Instr → Option (BitVec 48)
  | .nop _ 0 => some 0
  | .add _ d a b => some (formCR 0x01 d a b)
  | .sub _ d a b => some (formCR 0x02 d a b)
  | .and _ d a b => some (formCR 0x03 d a b)
  | .or _ d a b => some (formCR 0x04 d a b)
  | .xor _ d a b => some (formCR 0x05 d a b)
  | .shl _ d a b => some (formCR 0x06 d a b)
  | .shr _ d a b => some (formCR 0x07 d a b)
  | .sar _ d a b => some (formCR 0x08 d a b)
  | .cmpeq _ d a b => some (formCR 0x09 d a b)
  | .cmplt _ d a b => some (formCR 0x0A d a b)
  | .cmpltu _ d a b => some (formCR 0x0B d a b)
  | .mul _ d a b => some (formCR 0x0C d a b)
  | .mov _ d a => some (formCR 0x0D d a 0)
  | .addi _ d a imm => some (formCI 0x11 d a imm)
  | .subi _ d a imm => some (formCI 0x12 d a imm)
  | .andi _ d a imm => some (formCI 0x13 d a imm)
  | .ori _ d a imm => some (formCI 0x14 d a imm)
  | .xori _ d a imm => some (formCI 0x15 d a imm)
  | .shli _ d a imm => some (formCI 0x16 d a imm)
  | .shri _ d a imm => some (formCI 0x17 d a imm)
  | .sari _ d a imm => some (formCI 0x18 d a imm)
  | .cmpeqi _ d a imm => some (formCI 0x19 d a imm)
  | .cmplti _ d a imm => some (formCI 0x1A d a imm)
  | .cmpltui _ d a imm => some (formCI 0x1B d a imm)
  | .muli _ d a imm => some (formCI 0x1C d a imm)
  | .li _ d imm => some (formCI 0x1D d 0 imm)
  | .lih _ d a imm => some (formCI 0x1E d a imm)
  | .br _ off => some (formCB 0x20 0 off)
  | .beqz _ a off => some (formCB 0x21 a off)
  | .bnez _ a off => some (formCB 0x22 a off)
  | .bltz _ a off => some (formCB 0x23 a off)
  | .bgez _ a off => some (formCB 0x24 a off)
  | .bdec _ a off => some (formCB 0x25 a off)
  | .hurdle _ c => some (0x30#6 ++ 0#37 ++ c)
  | .fold _ i => some (0x31#6 ++ 0#32 ++ i)
  | .rdtally _ d => some (0x32#6 ++ d ++ 0#37)
  | .flgrd _ d => some (0x33#6 ++ d ++ 0#37)
  | .flgclr _ => some (0x34#6 ++ 0#42)
  | _ => none

/-- M-slot form MA (R169). -/
def formMA (op : BitVec 6) (rel : Bool) (fmt : BitVec 4) (wt : BitVec 1) (reg : BitVec 5) (ea : BitVec 22) : BitVec 56 :=
  op ++ BitVec.ofBool rel ++ fmt ++ wt ++ reg ++ 0#17 ++ ea
/-- M-slot form MK (R169). -/
def formMK (op : BitVec 6) (reg : BitVec 5) (kvs : BitVec 4) : BitVec 56 := op ++ 0#6 ++ reg ++ kvs ++ 0#35

/-- The M-slot bits of an operation (R169). -/
def encodeM : Instr → Option (BitVec 56)
  | .nop _ 1 => some 0
  | .lds _ rel d ea => some (formMA 0x01 rel 0 0 d ea)
  | .ldv _ rel d ea => some (formMA 0x02 rel 0 0 d ea)
  | .stv _ v ea => some (formMA 0x03 false 0 0 v ea)
  | .mxload _ rel fmt wt ea => some (formMA 0x04 rel fmt wt 0 ea)
  | .kvapp _ v kvs => some (formMK 0x08 v kvs)
  | .kvcommit _ a kvs => some (formMK 0x09 a kvs)
  | .kvdrop _ kvs => some (formMK 0x0A 0 kvs)
  | _ => none

/-- The X-slot bits of an operation (R171). -/
def encodeX : Instr → Option (BitVec 48)
  | .nop _ 2 => some 0
  | .mxstream _ wt afmt rel acc cnt line => some (0x01#6 ++ wt ++ afmt ++ BitVec.ofBool rel ++ acc ++ cnt ++ 0#4 ++ line)
  | .accout _ acc cnt ofmt d => some (0x02#6 ++ acc ++ cnt ++ ofmt ++ d ++ 0#23)
  | .accclr _ acc cnt ws wb sw => some (0x03#6 ++ acc ++ cnt ++ BitVec.ofBool ws ++ wb ++ sw ++ 0#11)
  | _ => none

/-- V-slot form VA (R172). -/
def formVA (op : BitVec 8) (d a b c : BitVec 5) (fmt sub : BitVec 4) : BitVec 56 :=
  op ++ d ++ a ++ b ++ c ++ fmt ++ sub ++ 0#20

/-- The V-slot bits of an operation (R172). -/
def encodeV : Instr → Option (BitVec 56)
  | .nop _ 3 => some 0
  | .vfma _ d a b c fmt => some (formVA 0x01 d a b c fmt 0)
  | .vadd _ d a b fmt => some (formVA 0x02 d a b 0 fmt 0)
  | .vsub _ d a b fmt => some (formVA 0x03 d a b 0 fmt 0)
  | .vmul _ d a b fmt => some (formVA 0x04 d a b 0 fmt 0)
  | .vmax _ d a b fmt => some (formVA 0x05 d a b 0 fmt 0)
  | .vmin _ d a b fmt => some (formVA 0x06 d a b 0 fmt 0)
  | .vcmp _ d a b fmt sub => some (formVA 0x08 d a b 0 fmt sub)
  | .vsel _ d a b c => some (formVA 0x09 d a b c 0 0)
  | .vand _ d a b => some (formVA 0x0A d a b 0 0 0)
  | .vor _ d a b => some (formVA 0x0B d a b 0 0 0)
  | .vxor _ d a b => some (formVA 0x0C d a b 0 0 0)
  | .viadd _ d a b sub => some (formVA 0x10 d a b 0 0 sub)
  | .visub _ d a b sub => some (formVA 0x11 d a b 0 0 sub)
  | .vimul _ d a b sub => some (formVA 0x12 d a b 0 0 sub)
  | .vshl _ d a b sub => some (formVA 0x13 d a b 0 0 sub)
  | .vshr _ d a b sub => some (formVA 0x14 d a b 0 0 sub)
  | .vsar _ d a b sub => some (formVA 0x15 d a b 0 0 sub)
  | .vcvt _ d a dr sfmt dfmt sr => some (0x18#8 ++ d ++ a ++ dr ++ sfmt ++ dfmt ++ BitVec.ofBool sr ++ 0#24)
  | .vred _ d a fmt sub => some (formVA 0x20 d a 0 0 fmt sub)
  | .vtr _ d a fmt sub => some (formVA 0x28 d a 0 0 fmt sub)
  | .gemv _ wfmt afmt a acc cg beats rel line =>
    some (0x30#8 ++ wfmt ++ afmt ++ a ++ acc ++ cg ++ beats ++ BitVec.ofBool rel ++ 0#2 ++ line)
  | .lswadd _ a acc g => some (0x31#8 ++ 0#5 ++ a ++ acc ++ g ++ 0#29)
  | .rngfill _ d seed idx => some (0x38#8 ++ d ++ seed ++ idx ++ 0#25)
  | .vbcast _ d a fmt => some (0x39#8 ++ d ++ a ++ 0#10 ++ fmt ++ 0#24)
  | _ => none

/-- The L-slot bits of an operation (R174). -/
def encodeL : Instr → Option (BitVec 44)
  | .nop _ 4 => some 0
  | .send _ v flow => some (0x01#5 ++ v ++ flow ++ 0#24)
  | .recv _ d rel line => some (0x02#5 ++ d ++ BitVec.ofBool rel ++ 0#15 ++ line)
  | .lswsend _ acc flow => some (0x03#5 ++ acc ++ flow ++ 0#22)
  | .strayw _ v t len msk m => some (0x04#5 ++ v ++ t ++ len ++ BitVec.ofBool msk ++ m ++ 0#21)
  | .straya _ v t aop w p => some (0x05#5 ++ v ++ t ++ aop ++ BitVec.ofBool w ++ p ++ 0#20)
  | _ => none

/-- A format code that MXLOAD, MXSTREAM accept (R169, R171, R190). -/
def mxFmt (f : BitVec 4) : Bool := f == 1 || (4 ≤ f && f ≤ 9)
/-- A format code that ACCOUT accepts (R171). -/
def outFmt (f : BitVec 4) : Bool := f ≤ 2 || (4 ≤ f && f ≤ 9)
/-- Rows per register of ACCOUT's output (R198). -/
def rowsPerReg (f : BitVec 4) : Nat := if f = 0 then 2 else if f = 2 ∨ f = 8 then 8 else 4
/-- Blocks per register of GEMV's activations (R189). -/
def gemvPerReg (f : BitVec 4) : Nat := if f = 8 then 8 else 4
/-- Registers that `n` items take at `per` a register. -/
def spanRegs (n per : Nat) : Nat := (n + per - 1) / per
/-- GEMV's format pairs (R173). -/
def gemvPair (w a : BitVec 4) : Bool :=
  (4 ≤ w && w ≤ 9) && (w == a || (w == 4 && a == 5) || (w == 5 && a == 4) || (w == 6 && a == 7) || (w == 7 && a == 6))

/-- The operand values that the encoding tables allow an operation; any other is a reserved encoding (R162, R168 to R177). -/
def opValid : Instr → Bool
  | .hurdle _ c => c != 0
  | .lds _ _ _ ea | .ldv _ _ _ ea | .stv _ _ ea => ea.extractLsb' 20 2 != 3
  | .mxload _ _ fmt _ ea => mxFmt fmt && ea.extractLsb' 20 2 != 3
  | .mxstream _ _ afmt _ acc cnt _ => mxFmt afmt && acc.toNat + cnt.toNat ≤ 127
  | .accout _ acc cnt ofmt d =>
    outFmt ofmt && acc.toNat + cnt.toNat ≤ 127 && d.toNat + spanRegs (cnt.toNat + 1) (rowsPerReg ofmt) ≤ 32
  | .accclr _ acc cnt ws wb sw => acc.toNat + cnt.toNat ≤ 127 && (if ws then wb == 0 else sw == 0)
  | .vfma _ _ _ _ _ fmt | .vadd _ _ _ _ fmt | .vsub _ _ _ _ fmt | .vmul _ _ _ _ fmt | .vmax _ _ _ _ fmt
  | .vmin _ _ _ _ fmt => fmt ≤ 1
  | .vcmp _ _ _ _ fmt sub => fmt ≤ 1 && sub ≤ 4
  | .viadd _ _ _ _ sub | .visub _ _ _ _ sub | .vimul _ _ _ _ sub | .vshl _ _ _ _ sub | .vshr _ _ _ _ sub
  | .vsar _ _ _ _ sub => sub ≤ 1
  | .vcvt _ _ _ dr sfmt dfmt sr => outFmt sfmt && outFmt dfmt && (sr || dr == 0)
  | .vred _ _ _ fmt sub => fmt ≤ 1 && sub ≤ 2
  | .vtr _ _ _ fmt sub => fmt == 0 && sub ≤ 7
  | .gemv _ wfmt afmt a _ _ beats _ _ => gemvPair wfmt afmt && a.toNat + spanRegs (beats.toNat + 1) (gemvPerReg wfmt) ≤ 32
  | .vbcast _ _ _ fmt => fmt ≤ 2
  | .strayw _ v _ len msk m => v.toNat + len.toNat ≤ 31 && (msk || m == 0)
  | .straya _ _ _ aop w _ => aop ≤ 4 && !(aop == 1 && w)
  | _ => true

/-- The C-slot operation that an opcode and fields name, before the checks of R177. -/
def readC (n : Nat) (w : BitVec 48) : Option Instr :=
  let d := w.extractLsb' 37 5
  let a := w.extractLsb' 32 5
  let b := w.extractLsb' 27 5
  let imm := w.extractLsb' 0 32
  let off := w.extractLsb' 0 19
  match (w.extractLsb' 42 6).toNat with
  | 0x00 => some (.nop n 0)
  | 0x01 => some (.add n d a b)
  | 0x02 => some (.sub n d a b)
  | 0x03 => some (.and n d a b)
  | 0x04 => some (.or n d a b)
  | 0x05 => some (.xor n d a b)
  | 0x06 => some (.shl n d a b)
  | 0x07 => some (.shr n d a b)
  | 0x08 => some (.sar n d a b)
  | 0x09 => some (.cmpeq n d a b)
  | 0x0A => some (.cmplt n d a b)
  | 0x0B => some (.cmpltu n d a b)
  | 0x0C => some (.mul n d a b)
  | 0x0D => some (.mov n d a)
  | 0x11 => some (.addi n d a imm)
  | 0x12 => some (.subi n d a imm)
  | 0x13 => some (.andi n d a imm)
  | 0x14 => some (.ori n d a imm)
  | 0x15 => some (.xori n d a imm)
  | 0x16 => some (.shli n d a imm)
  | 0x17 => some (.shri n d a imm)
  | 0x18 => some (.sari n d a imm)
  | 0x19 => some (.cmpeqi n d a imm)
  | 0x1A => some (.cmplti n d a imm)
  | 0x1B => some (.cmpltui n d a imm)
  | 0x1C => some (.muli n d a imm)
  | 0x1D => some (.li n d imm)
  | 0x1E => some (.lih n d a imm)
  | 0x20 => some (.br n off)
  | 0x21 => some (.beqz n a off)
  | 0x22 => some (.bnez n a off)
  | 0x23 => some (.bltz n a off)
  | 0x24 => some (.bgez n a off)
  | 0x25 => some (.bdec n a off)
  | 0x30 => some (.hurdle n (w.extractLsb' 0 5))
  | 0x31 => some (.fold n (w.extractLsb' 0 10))
  | 0x32 => some (.rdtally n d)
  | 0x33 => some (.flgrd n d)
  | 0x34 => some (.flgclr n)
  | _ => none

/-- The M-slot operation that an opcode and fields name. -/
def readM (n : Nat) (w : BitVec 56) : Option Instr :=
  let rel := w.getLsbD 49
  let reg := w.extractLsb' 39 5
  let ea := w.extractLsb' 0 22
  let kvs := w.extractLsb' 35 4
  match (w.extractLsb' 50 6).toNat with
  | 0x00 => some (.nop n 1)
  | 0x01 => some (.lds n rel reg ea)
  | 0x02 => some (.ldv n rel reg ea)
  | 0x03 => some (.stv n reg ea)
  | 0x04 => some (.mxload n rel (w.extractLsb' 45 4) (w.extractLsb' 44 1) ea)
  | 0x08 => some (.kvapp n reg kvs)
  | 0x09 => some (.kvcommit n reg kvs)
  | 0x0A => some (.kvdrop n kvs)
  | _ => none

/-- The X-slot operation that an opcode and fields name. -/
def readX (n : Nat) (w : BitVec 48) : Option Instr :=
  match (w.extractLsb' 42 6).toNat with
  | 0x00 => some (.nop n 2)
  | 0x01 => some (.mxstream n (w.extractLsb' 41 1) (w.extractLsb' 37 4) (w.getLsbD 36) (w.extractLsb' 29 7)
      (w.extractLsb' 22 7) (w.extractLsb' 0 18))
  | 0x02 => some (.accout n (w.extractLsb' 35 7) (w.extractLsb' 32 3) (w.extractLsb' 28 4) (w.extractLsb' 23 5))
  | 0x03 => some (.accclr n (w.extractLsb' 35 7) (w.extractLsb' 28 7) (w.getLsbD 27) (w.extractLsb' 16 11)
      (w.extractLsb' 11 5))
  | _ => none

/-- The V-slot operation that an opcode and fields name. -/
def readV (n : Nat) (w : BitVec 56) : Option Instr :=
  let d := w.extractLsb' 43 5
  let a := w.extractLsb' 38 5
  let b := w.extractLsb' 33 5
  let c := w.extractLsb' 28 5
  let fmt := w.extractLsb' 24 4
  let sub := w.extractLsb' 20 4
  match (w.extractLsb' 48 8).toNat with
  | 0x00 => some (.nop n 3)
  | 0x01 => some (.vfma n d a b c fmt)
  | 0x02 => some (.vadd n d a b fmt)
  | 0x03 => some (.vsub n d a b fmt)
  | 0x04 => some (.vmul n d a b fmt)
  | 0x05 => some (.vmax n d a b fmt)
  | 0x06 => some (.vmin n d a b fmt)
  | 0x08 => some (.vcmp n d a b fmt sub)
  | 0x09 => some (.vsel n d a b c)
  | 0x0A => some (.vand n d a b)
  | 0x0B => some (.vor n d a b)
  | 0x0C => some (.vxor n d a b)
  | 0x10 => some (.viadd n d a b sub)
  | 0x11 => some (.visub n d a b sub)
  | 0x12 => some (.vimul n d a b sub)
  | 0x13 => some (.vshl n d a b sub)
  | 0x14 => some (.vshr n d a b sub)
  | 0x15 => some (.vsar n d a b sub)
  | 0x18 => some (.vcvt n d a b (w.extractLsb' 29 4) (w.extractLsb' 25 4) (w.getLsbD 24))
  | 0x20 => some (.vred n d a fmt sub)
  | 0x28 => some (.vtr n d a fmt sub)
  | 0x30 => some (.gemv n (w.extractLsb' 44 4) (w.extractLsb' 40 4) (w.extractLsb' 35 5) (w.extractLsb' 28 7)
      (w.extractLsb' 27 1) (w.extractLsb' 21 6) (w.getLsbD 20) (w.extractLsb' 0 18))
  | 0x31 => some (.lswadd n a (w.extractLsb' 31 7) (w.extractLsb' 29 2))
  | 0x38 => some (.rngfill n d (w.extractLsb' 41 2) (w.extractLsb' 25 16))
  | 0x39 => some (.vbcast n d a fmt)
  | _ => none

/-- The L-slot operation that an opcode and fields name. -/
def readL (n : Nat) (w : BitVec 44) : Option Instr :=
  let v := w.extractLsb' 34 5
  match (w.extractLsb' 39 5).toNat with
  | 0x00 => some (.nop n 4)
  | 0x01 => some (.send n v (w.extractLsb' 24 10))
  | 0x02 => some (.recv n v (w.getLsbD 33) (w.extractLsb' 0 18))
  | 0x03 => some (.lswsend n (w.extractLsb' 32 7) (w.extractLsb' 22 10))
  | 0x04 => some (.strayw n v (w.extractLsb' 29 5) (w.extractLsb' 27 2) (w.getLsbD 26) (w.extractLsb' 21 5))
  | 0x05 => some (.straya n v (w.extractLsb' 29 5) (w.extractLsb' 26 3) (w.getLsbD 25) (w.extractLsb' 20 5))
  | _ => none

/-- Keep the operation read from a slot only when its encoding is the slot's bits, so that reserved and unused fields are
zero, and its operand values are allowed (R177). -/
def accepted {w : Nat} (enc : Instr → Option (BitVec w)) (x : BitVec w) : Option Instr → Option Instr
  | some i => if enc i = some x ∧ opValid i then some i else none
  | none => none

/-- The C-slot operation of core `n`; none is a reserved encoding (R177). -/
def decodeC (n : Nat) (w : BitVec 48) : Option Instr := accepted encodeC w (readC n w)
/-- The M-slot operation. -/
def decodeM (n : Nat) (w : BitVec 56) : Option Instr := accepted encodeM w (readM n w)
/-- The X-slot operation. -/
def decodeX (n : Nat) (w : BitVec 48) : Option Instr := accepted encodeX w (readX n w)
/-- The V-slot operation. -/
def decodeV (n : Nat) (w : BitVec 56) : Option Instr := accepted encodeV w (readV n w)
/-- The L-slot operation. -/
def decodeL (n : Nat) (w : BitVec 44) : Option Instr := accepted encodeL w (readL n w)

/-- A bundle: END, and the five slots' operations, none where the encoding is reserved (R160). -/
structure Bundle where
  last : Bool
  reserved : Bool
  slots : List (Option Instr)
  deriving DecidableEq, Repr

/-- Decode a bundle for core `n` (R160, R161). -/
def decodeBundle (n : Nat) (w : BitVec 256) : Bundle :=
  { last := w.getLsbD 255
    reserved := w.extractLsb' 252 3 != 0
    slots := [decodeC n (w.extractLsb' 0 48), decodeM n (w.extractLsb' 48 56), decodeX n (w.extractLsb' 104 48),
              decodeV n (w.extractLsb' 152 56), decodeL n (w.extractLsb' 208 44)] }

/-- Encode a bundle (R160). -/
def encodeBundle (last : Bool) (c : BitVec 48) (m : BitVec 56) (x : BitVec 48) (v : BitVec 56) (l : BitVec 44) : BitVec 256 :=
  BitVec.ofBool last ++ 0#3 ++ l ++ v ++ x ++ m ++ c

end Sys2Proof
end

