-- ==== Sys2Proof/Machine/Flags.lean ====
section
/-! DEFINITION. The sticky flags NX, SF, NV, AT and AS of a core (R137, R157, R216, R217). -/

namespace Sys2Proof.Machine

/-- Bit AT (R216). -/
def stAT : Nat := 8
/-- Bit AS (R216). -/
def stAS : Nat := 16

/-- The five flags as FLGRD reads them (R216). -/
def Core.flagWord (c : Core) : BitVec 64 := BitVec.ofNat 64 (c.sticky % 32)
/-- OR flags into the sticky flags (R217). -/
def Core.setFlags (c : Core) (f : Nat) : Core := { c with sticky := (c.sticky ||| f) % 32 }
/-- Clear all five flags (R216). -/
def Core.clearFlags (c : Core) : Core := { c with sticky := 0 }

/-- AT and AS of a column that ACCOUT reads (R157). -/
def colSticky (k : Col) : Nat :=
  (if k.flags.getLsbD 0 then stAT else 0) ||| (if k.flags.getLsbD 1 then stAS else 0)

end Sys2Proof.Machine
end

