-- ==== Sys2Proof/Machine/Image.lean ====
section
/-! DEFINITION. Reading a program image: header, module, core, descriptor, slot, fold, streamer and wiring tables
(R179 to R185, R256 to R259, R277, R353, R354), and the links of the drove fabric (R250, R257). -/

namespace Sys2Proof.Machine

/-- Header fields (R179). -/
def Img.grade (b : Bytes) : Nat := field b 6 1
def Img.mode (b : Bytes) : Nat := field b 7 1
def Img.pen (b : Bytes) : Nat := field b 8 2
def Img.nmod (b : Bytes) : Nat := field b 10 2
def Img.ndesc (b : Bytes) : Nat := field b 12 4
def Img.descOff (b : Bytes) : Nat := field b 16 8
def Img.wireOff (b : Bytes) : Nat := field b 24 8
def Img.modOff (b : Bytes) : Nat := field b 32 8
def Img.len (b : Bytes) : Nat := field b 40 8

/-- Offset of a module table entry (R180). -/
def Img.modAt (b : Bytes) (m : Nat) : Nat := Img.modOff b + 64 * m
def Img.modid (b : Bytes) (m : Nat) : Nat := field b (Img.modAt b m) 8
def Img.coord (b : Bytes) (m : Nat) : Nat := field b (Img.modAt b m + 8) 2
def Img.cores (b : Bytes) (m : Nat) : Nat := field b (Img.modAt b m + 10) 2
def Img.nfold (b : Bytes) (m : Nat) : Nat := field b (Img.modAt b m + 12) 4
def Img.tierEntry (b : Bytes) (m : Nat) : Nat := field b (Img.modAt b m + 16) 8
def Img.coreOff (b : Bytes) (m : Nat) : Nat := field b (Img.modAt b m + 24) 8
def Img.slotOff (b : Bytes) (m : Nat) : Nat := field b (Img.modAt b m + 32) 8
def Img.strmOff (b : Bytes) (m : Nat) : Nat := field b (Img.modAt b m + 40) 8
def Img.foldOff (b : Bytes) (m : Nat) : Nat := field b (Img.modAt b m + 48) 8
def Img.nstrm (b : Bytes) (m : Nat) : Nat := field b (Img.modAt b m + 56) 4
/-- The module number that carries a MODID. -/
def Img.find (b : Bytes) (modid : Nat) : Option Nat := (List.range (Img.nmod b)).find? fun m => Img.modid b m == modid

/-- Step descriptor fields (R182). -/
def Img.descAt (b : Bytes) (d : Nat) : Nat := Img.descOff b + 32 * d
def Img.length (b : Bytes) (d : Nat) : Nat := field b (Img.descAt b d) 4
def Img.next (b : Bytes) (d : Nat) : Nat := field b (Img.descAt b d + 8) 4
def Img.slotSet (b : Bytes) (d : Nat) : Nat := field b (Img.descAt b d + 12) 2
def Img.foldOf (b : Bytes) (d : Nat) : Nat := field b (Img.descAt b d + 14) 2
def Img.stri (b : Bytes) (d : Nat) : Nat := field b (Img.descAt b d + 16) 4
def Img.strn (b : Bytes) (d : Nat) : Nat := field b (Img.descAt b d + 20) 4
/-- The NEXT that ends the program (R182). -/
def lastDesc : Nat := 0xFFFFFFFF
/-- The descriptor `n` steps on, if the chain goes that far (R183). -/
def Img.ahead (b : Bytes) (d : Nat) : Nat → Option Nat
  | 0 => some d
  | n + 1 => if Img.next b d = lastDesc then none else Img.ahead b (Img.next b d) n

/-- Core table fields (R181). -/
def Img.coreAt (b : Bytes) (m c : Nat) : Nat := Img.coreOff b m + 256 * c
def Img.region (b : Bytes) (m c e : Nat) : Nat := field b (Img.coreAt b m c + 8 * e) 8
def Img.entry (b : Bytes) (m c : Nat) : Nat := field b (Img.coreAt b m c + 128) 8
def Img.segOff (b : Bytes) (m c : Nat) : Nat := field b (Img.coreAt b m c + 136) 8
def Img.segCnt (b : Bytes) (m c : Nat) : Nat := field b (Img.coreAt b m c + 144) 4

/-- Fold table entry: SWITCH, PARENT, CHILDREN (R185, R277). -/
def Img.foldAt (b : Bytes) (m f : Nat) : Nat := Img.foldOff b m + 16 * f
def Img.isSwitch (b : Bytes) (m f : Nat) : Bool := bit (field b (Img.foldAt b m f) 1) 0
def Img.parent (b : Bytes) (m f : Nat) : Nat := bits (field b (Img.foldAt b m f + 8) 4) 31 26
def Img.children (b : Bytes) (m f : Nat) : List Nat :=
  (List.range 32).filter fun p => bit (field b (Img.foldAt b m f + 12) 4) p

/-- A streamer request entry: offset, line, core, count (R184). -/
structure StrEntry where
  toff : Nat
  line : Nat
  core : Nat
  count : Nat
  deriving DecidableEq, Repr

/-- Streamer request entry `i` of a module (R184). -/
def Img.strEntry (b : Bytes) (m i : Nat) : StrEntry :=
  let o := Img.strmOff b m + 16 * i
  { toff := field b o 8, line := field b (o + 8) 4, core := field b (o + 12) 2, count := field b (o + 14) 2 }

/-- A position entry (R258). -/
structure Ent where
  inp : Nat
  flow : Nat
  ipos : Nat
  aux : Nat
  deriving DecidableEq, Repr

/-- A position entry from its 64 bits (R258). -/
def Ent.ofNat (v : Nat) : Ent := { inp := bits v 63 57, flow := bits v 56 47, ipos := bits v 46 31, aux := bits v 30 0 }

/-- One output's table in a set: OUT and entries (R256). -/
structure OutTab where
  out : Nat
  ents : List Ent
  deriving DecidableEq, Repr

/-- Number of sets of a module (R256). -/
def Img.nset (b : Bytes) (m : Nat) : Nat := field b (Img.slotOff b m) 4
/-- Offset of a set directory entry. -/
def Img.setAt (b : Bytes) (m st : Nat) : Nat := field b (Img.slotOff b m + 8) 8 + 16 * st
/-- Offset of an output table header. -/
def Img.outAt (b : Bytes) (m st o : Nat) : Nat := field b (Img.setAt b m st + 8) 8 + 16 * o
/-- Output table `o` of a set. -/
def Img.outTab (b : Bytes) (m st o : Nat) : OutTab :=
  let h := Img.outAt b m st o
  { out := field b h 2, ents := (List.range (field b (h + 4) 4)).map fun i => Ent.ofNat (field b (field b (h + 8) 8 + 8 * i) 8) }
/-- All output tables of a set; none for 0xFFFF (R182, R256). -/
def Img.tabs (b : Bytes) (m st : Nat) : List OutTab :=
  if st < Img.nset b m then (List.range (field b (Img.setAt b m st) 4)).map (Img.outTab b m st) else []
/-- The entries of one output in the step of a descriptor. -/
def Img.ents (b : Bytes) (m d out : Nat) : List Ent :=
  match (Img.tabs b m (Img.slotSet b d)).find? (·.out == out) with | some t => t.ents | none => []

/-! Wiring (R353, R354). -/

/-- A port entry of the wiring table. -/
def Img.wire (b : Bytes) (m p : Nat) : Nat := field b (Img.wireOff b + 32 + 8 * (32 * m + p)) 8
def Img.use (b : Bytes) (m p : Nat) : Nat := bits (Img.wire b m p) 63 62
def Img.tol (b : Bytes) (m p : Nat) : Bool := bit (Img.wire b m p) 61
def Img.sw (b : Bytes) (m p : Nat) : Bool := bit (Img.wire b m p) 60
def Img.lat (b : Bytes) (m p : Nat) : Nat := bits (Img.wire b m p) 55 48
def Img.pmod (b : Bytes) (m p : Nat) : Nat := bits (Img.wire b m p) 41 32
def Img.pport (b : Bytes) (m p : Nat) : Nat := bits (Img.wire b m p) 28 24
def Img.topo (b : Bytes) : Nat := field b (Img.wireOff b) 1
def Img.dims (b : Bytes) : Nat := field b (Img.wireOff b + 1) 1
def Img.twist (b : Bytes) : Nat := field b (Img.wireOff b + 2) 2
def Img.nboard (b : Bytes) : Nat := field b (Img.wireOff b + 4) 2
def Img.diam (b : Bytes) : Nat := field b (Img.wireOff b + 6) 2
/-- The wiring table's bytes. -/
def Img.wiring (b : Bytes) : Bytes := slice b (Img.wireOff b) (32 + 256 * Img.nmod b)
/-- The port is a link of the pen graph: USE = 1 and TOL = 0. -/
def Img.penLink (b : Bytes) (m p : Nat) : Bool := Img.use b m p == 1 && !Img.tol b m p

/-- The modules one hop from those in `l`, over links of the pen graph. -/
def Img.spread (b : Bytes) (l : List Nat) : List Nat :=
  l.foldl (fun acc m => (List.range 32).foldl (fun acc p =>
    if Img.penLink b m p && !acc.contains (Img.pmod b m p) then acc ++ [Img.pmod b m p] else acc) acc) l
/-- Hop distances from a module: the list of module lists within 0, 1, 2 ... hops (R356). -/
def Img.balls (b : Bytes) (m : Nat) : Nat → List (List Nat)
  | 0 => [[m]]
  | n + 1 => match Img.balls b m n with
    | [] => []
    | l :: t => if l.length = (Img.spread b l).length then l :: t else Img.spread b l :: l :: t
/-- Hops from one module to another, none when not connected (R356). -/
def Img.hops (b : Bytes) (m d : Nat) : Option Nat :=
  let bs := (Img.balls b m (Img.nmod b)).reverse
  (List.range bs.length).find? fun k => (bs.getD k []).contains d
/-- A port of a module is productive toward a module (R356). -/
def Img.productive (b : Bytes) (m p d : Nat) : Bool :=
  Img.penLink b m p && (match Img.hops b m d, Img.hops b (Img.pmod b m p) d with
    | some h, some k => h == k + 1
    | _, _ => false)
/-- The productive ports toward a module. -/
def Img.productives (b : Bytes) (m d : Nat) : List Nat := (List.range 32).filter fun p => Img.productive b m p d
/-- Escape port toward a module (R299): lowest productive port of the lowest dimension that differs, or lowest productive. -/
def Img.escape (b : Bytes) (m d : Nat) : Option Nat :=
  let ps := Img.productives b m d
  if Img.topo b = 1 then
    let x := (Img.coord b m % 1024) ^^^ (Img.coord b d % 1024)
    match (List.range 10).find? fun j => bit x j with
    | some j => ps.find? fun p => p % Img.dims b == j && p < Img.dims b * (32 / Img.dims b)
    | none => none
  else ps.head?

/-! Links of the drove fabric. -/

/-- The link of a port's receive side. -/
def rxLink (p : Nat) : Nat := 0x10000 + p
/-- The fold unit as a supplier. -/
def foldLink : Nat := 0x20000
/-- OUT of a router output: directions 0 +X, 1 −X, 2 +Y, 3 −Y, 4 eject (R257). -/
def routerOut (core dir : Nat) : Nat := 8 * core + dir
/-- OUT of a port output (R257). -/
def portOut (p : Nat) : Nat := 0x4000 + p
/-- OUT of the fold unit intake (R257). -/
def intakeOut : Nat := 0x8000
/-- OUT of an I/O-die edge output (R257). -/
def edgeOut (iod x : Nat) : Nat := 0xC000 + 32 * iod + x

/-- KIND of an OUT (R257). -/
def outKind (o : Nat) : Nat := o / 0x4000

/-- The link that supplies an entry of an output, with the mesh width (R259); none for the local core or no such input. -/
def supplier (w o inp : Nat) : Option Nat :=
  if outKind o = 0 then
    let c := o / 8
    let x := c % w
    let y := c / w
    if inp = 0 then (if x + 1 < w then some (routerOut (c + 1) 1) else none)
    else if inp = 1 then (if 0 < x then some (routerOut (c - 1) 0) else none)
    else if inp = 2 then (if y < 63 then some (routerOut (c + w) 3) else some (edgeOut 1 x))
    else if inp = 3 then (if 0 < y then some (routerOut (c - w) 2) else some (edgeOut 0 x))
    else none
  else if outKind o = 1 then
    let p := o % 32
    if 0x20 ≤ inp ∧ inp < 0x20 + w then
      (if p / 16 = 0 then some (routerOut (inp - 0x20) 3) else some (routerOut (63 * w + (inp - 0x20)) 2))
    else if 0x40 ≤ inp ∧ inp < 0x60 then (if (inp - 0x40) / 16 = p / 16 then some (rxLink (inp - 0x40)) else none)
    else if inp = 0x60 then some foldLink
    else none
  else if outKind o = 3 then
    if 0x40 ≤ inp ∧ inp < 0x60 ∧ (inp - 0x40) / 16 = (o % 64) / 32 then some (rxLink (inp - 0x40)) else none
  else if 0x40 ≤ inp ∧ inp < 0x60 then some (rxLink (inp - 0x40)) else none

/-- The outputs and positions that take a position of a link in a set (R258, R270). -/
def takers (w : Nat) (ts : List OutTab) (link pos : Nat) : List (Nat × Nat) :=
  ts.flatMap fun t => (List.range t.ents.length).filterMap fun i =>
    match t.ents[i]? with
    | some e => if e.ipos = pos ∧ supplier w t.out e.inp = some link then some (t.out, i) else none
    | none => none

/-- Drove buffer size of the input behind an output or link (R250). -/
def bufSize (w o : Nat) : Nat :=
  if o ≥ 0x10000 then 160
  else if outKind o = 0 then
    let c := o / 8
    let x := c % w
    let y := c / w
    let d := o % 8
    if (d = 2 ∧ y = 63) ∨ (d = 3 ∧ y = 0) then 8
    else if (d = 0 ∧ x + 1 = w / 2) ∨ (d = 1 ∧ x = w / 2) ∨ (d = 2 ∧ y = 31) ∨ (d = 3 ∧ y = 32) then 32
    else 4
  else if outKind o = 3 then 8 else 160

/-- Receivers of a position from an output on: cores, or 0x8000 + port where it crosses a port (R268, R321). -/
def receiversOf (w : Nat) (ts : List OutTab) : Nat → Nat → Nat → List Nat
  | 0, _, _ => []
  | n + 1, out, pos =>
    if outKind out = 0 ∧ out % 8 = 4 then [out / 8]
    else if outKind out = 1 then [0x8000 + out % 32]
    else (takers w ts out pos).flatMap fun t => receiversOf w ts n t.1 t.2

/-- Local-core entries of a core's flow: output, position, entry (R258). -/
def flowEntries (ts : List OutTab) (core flow : Nat) : List (Nat × Nat × Ent) :=
  ts.flatMap fun t =>
    if outKind t.out = 0 ∧ t.out / 8 = core ∧ t.out % 8 < 4 then
      (List.range t.ents.length).filterMap fun i => match t.ents[i]? with
        | some e => if e.inp = 4 ∧ e.flow = flow then some (t.out, i, e) else none
        | none => none
    else []
/-- Flits of a core's flow in a step (R237, R258). -/
def flowFlits (ts : List OutTab) (core flow : Nat) : Nat :=
  ((flowEntries ts core flow).map fun e => e.2.2.ipos + 1).foldl max 0
/-- The outbound flows of a core in a set. -/
def flowsOf (ts : List OutTab) (core : Nat) : List Nat :=
  (ts.flatMap fun t => if outKind t.out = 0 ∧ t.out / 8 = core ∧ t.out % 8 < 4
    then (t.ents.filter (·.inp == 4)).map (·.flow) else []).eraseDups
/-- Every receiver of a core's flow in a set (R21, R269). -/
def flowReceivers (w : Nat) (ts : List OutTab) (core flow : Nat) : List Nat :=
  ((flowEntries ts core flow).flatMap fun e => receiversOf w ts 200 e.1 e.2.1).eraseDups
/-- Eject entries of a core (R258). -/
def ejectEnts (ts : List OutTab) (core : Nat) : List Ent :=
  match ts.find? (·.out == routerOut core 4) with | some t => t.ents | none => []
/-- Flits of an inbound flow of a core in a set. -/
def inFlits (ts : List OutTab) (core flow : Nat) : Nat := ((ejectEnts ts core).filter (·.flow == flow)).length

end Sys2Proof.Machine
end

