-- ==== Sys2Proof/Machine/Operands.lean ====
section
/-! DEFINITION. Operand forms: registers (R162), the address and line operands (R163, R164), the stray target descriptor
(R166), and the checks of an access at issue (R82, R96, R101). -/

namespace Sys2Proof.Machine

/-- A scalar register (R162). -/
def Core.s (c : Core) (r : BitVec 5) : BitVec 64 := Tab.get 0 c.sreg r.toNat
/-- A vector register (R162). -/
def Core.v (c : Core) (r : BitVec 5) : Block := Tab.get 0 c.vreg r.toNat
/-- A vector register of a sequence (R162). -/
def Core.vAt (c : Core) (r : Nat) : Block := Tab.get 0 c.vreg r
/-- A weight buffer (R162). -/
def Core.buf (c : Core) (w : BitVec 1) : WtBuf := Tab.get {} c.wt w.toNat
/-- An accumulator row. -/
def Core.row (c : Core) (r : Nat) : AccRow := Tab.get {} c.acc r
/-- A column of a row. -/
def AccRow.col (r : AccRow) (n : Nat) : Col := Tab.get {} r.cols n

/-- A signed word offset added to a base in 64-bit arithmetic (R163). -/
def baseOff (b : BitVec 64) (off : Int) (unit : Nat) : Nat := (b + BitVec.ofInt 64 (off * unit)).toNat

/-- The effective address of an M-slot operand (R163). -/
def eaM (c : Core) (ea : BitVec 22) : Nat :=
  if ea.extractLsb' 20 2 = 0 then (ea.extractLsb' 0 20).toNat * 8
  else baseOff (c.s (ea.extractLsb' 15 5)) (ea.extractLsb' 0 15).toInt 8
/-- The base register update of AM = 0b10 (R163). -/
def eaUpdate (c : Core) (ea : BitVec 22) : Option (Nat × BitVec 64) :=
  if ea.extractLsb' 20 2 = 2 then some ((ea.extractLsb' 15 5).toNat, BitVec.ofNat 64 (eaM c ea)) else none
/-- The effective address of a line operand (R164). -/
def eaL (c : Core) (l : BitVec 18) : Nat :=
  if l.getLsbD 17 = false then (l.extractLsb' 0 17).toNat * 64
  else baseOff (c.s (l.extractLsb' 12 5)) (l.extractLsb' 0 12).toInt 64

/-- A stray target descriptor's fields (R166). -/
structure Target where
  mod : Nat
  core : Nat
  addr : Nat
  reserved : Bool
  deriving DecidableEq, Repr
/-- Read a stray target descriptor (R166). -/
def Target.of (x : BitVec 64) : Target :=
  { mod := (x.extractLsb' 48 10).toNat, core := (x.extractLsb' 37 11).toNat
    addr := (x.extractLsb' 0 23).toNat, reserved := x.extractLsb' 58 6 != 0 || x.extractLsb' 23 14 != 0 }

/-- The running context's image, this module's number in it, and a core's step descriptor. -/
def State.prog (s : State) : Option (Bytes × Nat × Nat) :=
  match s.runCtx with
  | some (slot, x) => (Img.find x.image s.fuse.modid).map fun m => (x.image, m, slot)
  | none => none
/-- Output tables of the step of a descriptor. -/
def State.tabs (s : State) (d : Nat) : List OutTab :=
  match s.prog with | some (b, m, _) => Img.tabs b m (Img.slotSet b d) | none => []
/-- This module's number within the pen of the running context; 0 when none runs. -/
def State.modNum (s : State) : Nat := match s.prog with | some (_, m, _) => m | none => 0
/-- Pen of the running context (R17). -/
def State.pen (s : State) : Option Nat := s.prog.map fun p => Img.pen p.1

/-- The cause of a pending mark on the flow whose receive lines hold a line (R101, R266). -/
def State.markCause (s : State) (core line : Nat) : Option Nat :=
  match s.prog with
  | none => none
  | some (b, m, _) =>
    let flows := (List.range (Img.nset b m)).flatMap fun st =>
      ((ejectEnts (Img.tabs b m st) core).filter fun e => e.aux ≤ line && line < e.aux + 4).map (·.flow)
    ((s.core core).marks.find? fun k => flows.contains (k.1 % 1024)).map fun k => k.2.1

/-- A streamer request for a landing line is outstanding: asked for, or on its way into the line (R67). -/
def State.requested (s : State) (core line : Nat) : Bool :=
  (s.strm.reqs.any fun r => r.core == core && r.line == line) || (s.core core).inbound.any fun x => x.landing && x.line == line

/-- Faults and holds that an operation finds at issue, with R178's class and R519's code. A hold is its cause plus 16 times its
origin, 0 for the issue check itself (R55). -/
structure Checks where
  faults : List (Nat × Nat) := []
  holds : List Nat := []
  deriving DecidableEq, Repr

/-- Join the findings of two checks. -/
def Checks.and (a b : Checks) : Checks := { faults := a.faults ++ b.faults, holds := a.holds ++ b.holds }

/-- The fill-bit check of one line (R27, R67, R101). -/
def State.fillCheck (s : State) (slot core line : Nat) : Checks :=
  let c := s.core core
  if !c.hasFill slot line || c.fill.contains line then {}
  else if c.isKind slot line 3 then
    if s.requested core line then { holds := [3] } else { faults := [(6, 18)] }
  else match s.markCause core line with
    | some k => { holds := [k] }
    | none => match c.inbound.find? (fun x => x.line == line) with
      | some { mark := some k, .. } => { holds := [k] }
      | _ => { faults := [(5, 18)] }

/-- The checks of a read of consecutive lines at an address (R82, R96, R101). -/
def State.readCheck (s : State) (slot core ea align n : Nat) : Checks :=
  if ea % align ≠ 0 then { faults := [(3, 4)] }
  else if ea > 0x7FFFFF then { faults := [(4, 5)] }
  else
    let ls := (List.range n).map (ea / 64 + ·)
    if ls.all fun l => (s.core core).mayRead slot l then (ls.map (s.fillCheck slot core)).foldl Checks.and {}
    else { faults := [(4, 5)] }

/-- The checks of a store of four lines at an address (R82, R96). -/
def State.writeCheck (s : State) (slot core ea : Nat) : Checks :=
  if ea % 64 ≠ 0 then { faults := [(3, 4)] }
  else if ea > 0x7FFFFF then { faults := [(4, 5)] }
  else if (List.range 4).all fun k => (s.core core).mayWrite slot (ea / 64 + k) then {}
  else { faults := [(4, 5)] }

/-- Lines of a weight tile (R47, R128). -/
def tileLines (fmt : Nat) : Nat := if fmt = 1 then 32 else if fmt = 6 ∨ fmt = 7 then 13 else 17
/-- Lines of a GEMV weight operand of `b` beats (R202). -/
def gemvLines (wf b : Nat) : Nat :=
  if wf = 6 ∨ wf = 7 then 7 * b else if wf = 8 then 5 * b else 8 * ceilDiv b 32 + 8 * b

end Sys2Proof.Machine
end

