-- ==== Sys2Proof/Machine/Land.lean ====
section
/-! DEFINITION. What operations in flight do at their live cycles: bank uses and landings (R42, R43, R83, R86, R104), holds and
the step to the next bundle (R40, R45, R55 to R60). -/

namespace Sys2Proof.Machine

/-- Lines that a move-unit read in flight reads: those that a run-ahead copy can stand for (R61, R63). -/
def Act.moveLines : Act → List Nat
  | .readWord _ ea _ => [ea / 64]
  | .readVec _ l _ => (List.range 4).map (l + ·)
  | .tileRead _ l n _ => (List.range n).map (l + ·)
  | _ => []

/-- Banks that an event in flight uses (R83). -/
def Act.banks : Act → List Nat
  | .readWord _ ea _ => [bankOf (ea / 64)]
  | .readVec _ l _ => (List.range 4).map fun k => bankOf (l + k)
  | .write l _ => (List.range 4).map fun k => bankOf (l + k)
  | .tileRead _ l n _ => (List.range n).map fun k => bankOf (l + k)
  | .rowRead _ _ _ l _ _ => [bankOf l]
  | .gemvScale l _ => (List.range 8).map fun k => bankOf (l + k)
  | .gemvBeat _ _ _ _ _ l n _ _ => (List.range n).map fun k => bankOf (l + k)
  | .targetFetch l => [bankOf l]
  | _ => []

/-- Banks that an event in flight will use at a core now: those of R83, but not where a run-ahead copy stands for the read (R63). -/
def Core.banksFor (c : Core) (a : Act) : List Nat :=
  match a.moveLines with
  | [] => a.banks
  | ls => (ls.filter fun l => !(c.staging.any (·.1 == l))).map bankOf

/-- A line's two bundles with their addresses (R160). -/
def bundlesOf (line : Nat) (d : Line) : List (Nat × BitVec 256) :=
  [(64 * line, d.extractLsb' 0 256), (64 * line + 32, d.extractLsb' 256 256)]

/-- The saturation event of R148 when a column's SAT flag rises: the first in a step is raised and recorded, the others are counted. -/
def State.satEvent (s : State) (core row col : Nat) : State :=
  let c := s.core core
  if c.satSeen then s.modDiag fun d => { d with satSuppressed := satAdd 64 d.satSuppressed 1 }
  else (s.setCore core { c with satStep := some (row, col, c.tally), satSeen := true }).coreEvent core 22

/-- Change columns of an accumulator row, raising the saturation event where SAT rises (R146, R148). -/
def State.updateRow (s : State) (core row : Nat) (f : Int → Nat → Col → Col) (cols : List Nat) : State :=
  let r := (s.core core).row row
  let r' := { r with cols := cols.foldl (fun t n => Tab.put n (f r.wb n (r.col n)) t) r.cols }
  let s1 := s.modCore core fun c => { c with acc := Tab.put row r' c.acc }
  (cols.filter fun n => !(r.col n).flags.getLsbD 1 && (r'.col n).flags.getLsbD 1).foldl (fun s n => s.satEvent core row n) s1

/-- The weight block of a column of a tile, with its h-th block for MXFP4 (R128). -/
def tileBlock (fmt : Nat) (tile : List Line) (n h : Nat) : MxBlock :=
  let v := tile.foldr (fun (x : Line) acc => x.toNat + 2 ^ 512 * acc) 0
  let w := elemBits fmt
  let bytes := if fmt = 8 then 32 else 4 * w
  let sc := if fmt = 6 ∨ fmt = 7 then 64 * 12 + n else if fmt = 8 then 64 * 16 + 2 * n + h else 64 * 16 + n
  { scale := bits v (8 * sc + 7) (8 * sc), elems := unpack v (8 * bytes * n + (if fmt = 8 then 128 * h else 0)) w 32 }

/-- The contributions of an activation row to column `n` (R139, R191). -/
def rowContribs (fmt wfmt : Nat) (l : Line) (tile : List Line) (n : Nat) : List Contrib :=
  if fmt = 1 then
    let v := tile.foldr (fun (x : Line) acc => x.toNat + 2 ^ 512 * acc) 0
    List.zipWith bf16Product (unpack l.toNat 0 16 32) (unpack v (512 * n) 16 32)
  else (List.range (rowBlocks fmt)).map fun h => blockPartial fmt wfmt (rowBlock fmt l h) (tileBlock wfmt tile n h)

/-- The weight block of column `c` of a GEMV beat and its scale (R202). -/
def beatBlock (wf : Nat) (lines scales : List Line) (c idx : Nat) : MxBlock :=
  let v := lines.foldr (fun (x : Line) acc => x.toNat + 2 ^ 512 * acc) 0
  let sv := scales.foldr (fun (x : Line) acc => x.toNat + 2 ^ 512 * acc) 0
  let w := elemBits wf
  if wf = 6 ∨ wf = 7 then { scale := bits v (8 * (384 + c) + 7) (8 * (384 + c)), elems := unpack v (192 * c) w 32 }
  else if wf = 8 then { scale := bits v (8 * (256 + c) + 7) (8 * (256 + c)), elems := unpack v (128 * c) w 32 }
  else { scale := bits sv (8 * (16 * idx + c) + 7) (8 * (16 * idx + c)), elems := unpack v (256 * c) w 32 }

/-- A node's injection buffer, which holds one packet, is free (R295). -/
def State.injectFree (s : State) (node : Nat) : Bool := !(s.net.packets.any fun e => e.2.node == node && e.2.injected)
/-- Put a packet into a node's injection buffer (R295). -/
def State.putInjected (s : State) (node : Nat) (p : Packet) : State :=
  { s with net := { s.net with
    packets := s.net.packets ++ [(s.net.next, { node, packet := p, injected := true })], next := s.net.next + 1 } }
/-- Put a packet into the network at a node: into its injection buffer, or behind what waits for it (R295). -/
def State.injectAt (s : State) (node : Nat) (p : Packet) : State :=
  if s.injectFree node && !(s.net.injQ.any (·.1 == node)) then s.putInjected node p
  else { s with net := { s.net with injQ := s.net.injQ ++ [(node, p)] } }

/-- Put an event in flight. -/
def Core.fly (c : Core) (due issue : Nat) (a : Act) : Core := { c with flights := c.flights ++ [{ due, issue, act := a }] }

/-- A KV descriptor of a core in a slot (R226). -/
def Ctx.kvDesc (x : Ctx) (core kvs : Nat) : KvDesc := Tab.get {} x.kv (16 * core + kvs)

/-- Change a KV descriptor of the running context. -/
def State.modKv (s : State) (core kvs : Nat) (f : KvDesc → KvDesc) : State :=
  match s.runSlot with
  | some slot => s.modCtx slot fun x => { x with kv := Tab.put (16 * core + kvs) (f (x.kvDesc core kvs)) x.kv }
  | none => s

/-- Fetched bundles enter the queue in stream order (R84). -/
def Core.enqueue (c : Core) (line : Nat) (d : Line) : Core :=
  { c with queue := c.queue ++ (bundlesOf line d).filter fun b => c.pc ≤ b.1 || c.queue != [] }

/-- The fetch read of a line, with its ECC outcome (R104). -/
def State.fetchRead (s : State) (core line : Nat) : Line × State :=
  let c := s.core core
  let s0 := s.setCore core { c with banks := bankOf line :: c.banks }
  match c.lineEcc line with
  | .clean => (c.readLine line, s0)
  | .correctable .. => (c.readLine line, s0.correctedRead core line true)
  | .uncorrectable =>
    (c.readLine line, (s0.modCore core fun c => { c with fetchPoison := line :: c.fetchPoison }).poisonAt core (64 * line) 1 0)

/-- Run-ahead hits and misses of a scheduled load's lines; a used staging entry goes (R63, R65). The spec does not say what counts: each
line of a scheduled move-unit read is a hit where a valid entry stands for it, else a miss, the lines of receive and landing regions, which
run-ahead never reads, and those of RECV included (DESIGN CHOICE, log 35). -/
def Core.countAhead (c : Core) (line n : Nat) : Core :=
  let ls := (List.range n).map (line + ·)
  let hit := (ls.filter fun l => c.staging.any (·.1 == l)).length
  { c with runahead := (satAdd 64 c.runahead.1 hit, satAdd 64 c.runahead.2 (n - hit))
           staging := c.staging.filter fun e => !ls.contains e.1 }

/-- What one event in flight does at its live cycle. -/
def State.happen (s : State) (core : Nat) (fl : Flight) : State :=
  match fl.act with
  | .sreg r v => s.modCore core fun c => { c with sreg := Tab.put r v c.sreg }
  | .vreg r v f => s.modCore core fun c => { c with vreg := Tab.put r v c.vreg, lastWrite := Tab.put r f c.lastWrite }
  | .flags f => s.modCore core fun c => c.setFlags f
  | .flagClear => s.modCore core Core.clearFlags
  | .readWord d ea rel =>
    let r := s.moveRead core (ea / 64)
    r.2.2.modCore core fun c => ((c.countAhead (ea / 64) 1).release rel (ea / 64) 1).fly (fl.issue + 5) fl.issue
      (.sreg d (r.1.extractLsb' (8 * (ea % 64)) 64))
  | .readVec d l rel =>
    let r := s.moveReads core l 4
    r.2.2.modCore core fun c => ((c.countAhead l 4).release rel l 4).fly (fl.issue + 6) fl.issue (.vreg d (ofLines r.1) (64 * l))
  | .write l v => s.modCore core fun c =>
      (List.range 4).foldl (fun c k => { c.writeLine (l + k) (lineOf v k) with banks := bankOf (l + k) :: c.banks }) c
  | .tileRead wt l n rel =>
    let r := s.moveReads core l n
    r.2.2.modCore core fun c =>
      let b := Tab.get {} c.wt wt
      { (c.countAhead l n).release rel l n with wt := Tab.put wt { b with filling := b.filling ++ r.1, fillPoison := b.fillPoison || r.2.1 } c.wt }
  | .tileReady wt fmt => s.modCore core fun c =>
      let b := Tab.get {} c.wt wt
      { c with wt := Tab.put wt { ready := true, fmt := some fmt, tile := b.filling, poison := b.fillPoison } c.wt }
  | .rowRead wt fmt row l rel lat =>
    let r := s.opRead core l 0
    r.2.2.modCore core fun c =>
      let b := Tab.get {} c.wt wt
      (c.release rel l 1).fly (fl.due + lat) fl.issue (.accAdd row
        ((List.range 32).map fun n => (n, rowContribs fmt (b.fmt.getD fmt) r.1 b.tile n)) (r.2.1 || b.poison))
  | .accAdd row cs psn => s.updateRow core row
      (fun wb n k => poisonCol psn (((cs.find? (·.1 == n)).map (·.2)).getD [] |>.foldl (addContrib wb) k)) (cs.map (·.1))
  | .gemvScale l rel =>
    let r := s.opReadsEach core l 8
    r.2.modCore core fun c => { c.release rel l 8 with gemvScales := r.1.map (·.1), gemvPoison := r.1.map (·.2) }
  | .gemvBeat wf af a row col l n idx rel =>
    let r := s.opReads core l n
    r.2.2.modCore core fun c =>
      let eight := wf == 4 || wf == 5 || wf == 9
      (c.release rel l n).fly (fl.due + 11) fl.issue (.accAdd row
        ((List.range 16).map fun k => (col + k, [blockPartial af wf a (beatBlock wf r.1 c.gemvScales k idx)]))
        (r.2.1 || (eight && c.gemvPoison.getD (idx / 4) false)))
  | .lswAdd row ws psn =>
    let s1 := s.updateRow core row
      (fun _ n k => match ws.find? (·.1 == n) with | some w => joinCol k w.2.col | none => k) (ws.map (·.1))
    match psn with
    | some p => s1.poisonAt core p.1 5 p.2
    | none => s1
  | .accClear row cnt wb => s.modCore core fun c =>
      { c with acc := (List.range cnt).foldl (fun t k => Tab.put (row + k) { wb := wb } t) c.acc }
  | .kvAppend kvs => s.modKv core kvs fun d => { d with append := d.append + 1 }
  | .kvCommit kvs n => s.modKv core kvs fun d => { d with commit := d.commit + n }
  | .kvDrop kvs => s.modKv core kvs fun d => { d with append := d.commit }
  | .stage flow ipos step p => s.modCore core fun c =>
      { c with staged := c.staged.map fun x => if x.flow = flow ∧ x.ipos = ipos ∧ x.step = step then { x with payload := some p } else x }
  | .inject rtag =>
    match (s.core core).outs.find? (·.1 == rtag) with
    | some o => s.injectAt core o.2.packet
    | none => s
  | .targetFetch l =>
    let r := s.fetchRead core l
    r.2.modCore core fun c => { c with target := c.target ++ bundlesOf l r.1 }
  | .fetchIn l => s.modCore core fun c => c.enqueue l (c.readLine l)

/-- Events due at the present live cycle. -/
def Core.dueNow (c : Core) : List Flight := c.flights.filter fun f => f.due ≤ c.live

/-- The event shares a bank with another event of the same cycle (R86). -/
def collides (all : List Flight) (f : Flight) : Bool :=
  f.act.banks.any fun b => decide (1 < ((all.map fun g => (g.act.banks.filter (· == b)).length).foldl (· + ·) 0))

/-- Everything due at a core's present live cycle happens; colliding bank uses are not performed and raise the bank
collision fault (R86). -/
def State.settle (s : State) (core : Nat) : State :=
  let c := s.core core
  let due := c.dueNow
  if due.isEmpty then s
  else
    let bad := due.filter (collides due)
    let good := due.filter fun f => !collides due f
    let s0 := s.setCore core { c with flights := c.flights.filter (fun f => !decide (f.due ≤ c.live))
                                      resv := c.resv.filter fun r => decide (c.live < r.due) }
    let s1 := (good.filter (·.act == .flagClear) ++ good.filter (·.act != .flagClear)).foldl (fun s f => s.happen core f) s0
    if bad.isEmpty then s1 else s1.faultOutside core 17

/-- The earliest of hold conditions, each a cause and the core cycle in which it began; the lowest code among equals (R59). -/
def earliestCause (l : List (Nat × Nat)) : Option Nat :=
  (l.foldl (fun (best : Option (Nat × Nat)) h => match best with
    | none => some h
    | some b => if h.2 < b.2 ∨ (h.2 = b.2 ∧ h.1 < b.1) then some h else some b) none).map (·.1)

/-- A hold stops the due bundle: at once where the issue check or the fetch queue began it, in the core cycle after its assertion where a
request did (R55). -/
def holdActive (now : Nat) (h : Nat × Nat × Nat) : Bool :=
  decide (h.2.1 < now) || h.2.2 == 1 || h.2.2 == 2 || decide (8 ≤ h.2.2)

/-- The core's hold conditions keep the due bundle from issuing; a bundle that has passed its checks issues whole (R41, R55). -/
def Core.held (c : Core) (now : Nat) : Bool := !c.cleared && c.holds.any (holdActive now)

/-- Run-ahead of a held core is given up: staging entries go, unaccepted streamer requests are withdrawn (R58, R68). -/
def State.dropAhead (s : State) (core : Nat) : State :=
  let mine := fun (r : StrReq) => r.core == core && !r.accepted
  let s1 := s.modCore core fun c => { c with staging := [] }
  { s1 with strm := { s1.strm with
      reqs := s1.strm.reqs.filter (fun r => !mine r)
      withdrawals := satAdd 64 s1.strm.withdrawals (s1.strm.reqs.filter mine).length } }

/-- A hold condition begins (R55, R58, R68). -/
def State.beginHold (s : State) (core cause origin : Nat) : State :=
  let c := s.core core
  if c.run != .run || c.holds.any (fun h => h.1 == cause && h.2.2 == origin) then s
  else
    let s1 := s.setCore core { c with holds := c.holds ++ [(cause, s.now, origin)] }
    if c.holds.isEmpty then s1.dropAhead core else s1

/-- A hold condition ends (R55). -/
def State.endHold (s : State) (core cause origin : Nat) : State :=
  s.modCore core fun c => { c with holds := c.holds.filter fun h => !(h.1 == cause && h.2.2 == origin) }

/-- Every hold condition of one origin ends. -/
def State.endOrigin (s : State) (core origin : Nat) : State :=
  s.modCore core fun c => { c with holds := c.holds.filter fun h => h.2.2 != origin }

/-- One hold cycle is counted (R30); the cause-6 cycles of the step are counted for R90. -/
def State.countHold (s : State) (core cause : Nat) : State :=
  let c := s.core core
  let six := if cause = 6 then c.overrun + 1 else c.overrun
  let c1 := { c with holdCycles := Tab.put cause (satAdd 64 (Tab.get 0 c.holdCycles cause) 1) c.holdCycles, overrun := six
                     heldSteps := ((c.tally, cause) :: c.heldSteps.filter (·.1 != c.tally)).take 4 }
  (s.setCore core c1).modDiag fun d =>
    { d with holdCycles := Tab.put cause (satAdd 64 (Tab.get 0 d.holdCycles cause) 1) d.holdCycles }

/-- One closure wait cycle is counted (R60). -/
def State.countWait (s : State) (core : Nat) : State :=
  (s.modCore core fun c => { c with closureWait := satAdd 64 c.closureWait 1 }).modDiag fun d =>
    { d with closureWait := satAdd 64 d.closureWait 1 }

/-- The slots of the due bundle that hold an operation. -/
def Core.dueSlots (c : Core) (n : Nat) : List Nat :=
  match c.queue with
  | (_, w) :: _ => (List.range 5).filter fun k => match (decodeBundle n w).slots.getD k none with
      | some (.nop ..) => false
      | _ => true
  | [] => []

/-- The due bundle is cleared and every operation of it has issued. -/
def Core.bundleDone (c : Core) (n : Nat) : Bool :=
  match c.queue with
  | [] => false
  | _ => c.cleared && (c.dueSlots n).all c.issued.contains

/-- The next bundle becomes due: the shadow of a branch runs down and, when it ends taken, the target follows (R45, R84). -/
def Core.advance (c : Core) (n : Nat) : Core :=
  match c.queue with
  | [] => c
  | (a, w) :: rest =>
    let last := (decodeBundle n w).last
    let c1 := { c with queue := rest, pc := a + 32, live := c.live + 1, stepLive := c.stepLive + 1, issued := []
                       cleared := false, ended := last }
    match c.shadow with
    | none => c1
    | some h =>
      if h.left = 1 then
        if h.taken then
          { c1 with shadow := none, target := [], pc := h.target, fetchAt := (h.target / 64 + 2) * 64
                    queue := c.target.filter (fun b => h.target ≤ b.1)
                    flights := c.flights.filter fun f => match f.act with | .fetchIn _ => false | _ => true }
        else { c1 with shadow := none, target := [] }
      else { c1 with shadow := some { h with left := h.left - 1 } }

/-- The throttle's hold of a core cycle (R569): the die's frame effective duty covers it. -/
def State.throttled (s : State) (core : Nat) : Bool :=
  match s.pw.frameE.find? (·.1 == s.dieOf core) with
  | some f => decide (s.now < f.2.2 + f.2.1)
  | none => false

/-- The core takes no bundle in this core cycle for a hold: its own conditions or the throttle (R55, R569). -/
def State.heldNow (s : State) (core : Nat) : Bool :=
  (s.core core).held s.now || (!(s.core core).cleared && s.throttled core)

/-- The conditions that hold a core, the throttle among them since its frame began (R59, R569). -/
def State.holdsNow (s : State) (core : Nat) : List (Nat × Nat) :=
  ((s.core core).holds.filter (holdActive s.now)).map (fun h => (h.1, h.2.1))
    ++ (match s.pw.frameE.find? (·.1 == s.dieOf core) with | some f => if s.throttled core then [(4, f.2.2)] else [] | none => [])

/-- The cause recorded for a held core cycle (R59). -/
def State.holdCause (s : State) (core : Nat) : Option Nat := earliestCause (s.holdsNow core)

/-- Operations of the core advance in this core cycle: it is not held and does not wait for closure (R56, R60). -/
def State.advances (s : State) (core : Nat) : Bool :=
  let c := s.core core
  match c.run with
  | .idle => false
  | .silent => true
  | .run => !s.heldNow core && !c.ended

/-- What is due at the present live cycle happens, unless the core is held or waits (R42, R56). -/
def State.land (s : State) (core : Nat) : State := if s.advances core then s.settle core else s

/-- A core cycle in which the due bundle is not in the fetch queue: fetch reads already made supply it two core cycles after
their read (R88). -/
def Core.starve (c : Core) : Core :=
  let isFetch := fun (f : Flight) => match f.act with | .fetchIn _ => true | _ => false
  let rest := (c.flights.filter fun f => !(isFetch f && f.due ≤ c.live)).map fun f => { f with due := f.due - (if isFetch f then 1 else 0) }
  let ready := c.flights.filter fun f => isFetch f && f.due ≤ c.live
  if c.queue.isEmpty then
    ready.foldl (fun c f => match f.act with | .fetchIn l => c.enqueue l (c.readLine l) | _ => c) { c with flights := rest }
  else c

/-- The cores listed in the state that are enabled. -/
def State.activeCores (s : State) : List Nat := (s.cores.map (·.1)).filter (· < s.nCores)

/-! What a HURDLE waits for (R231, R233, R234). -/

/-- Nothing is left of a wait. -/
def HurdleWait.done (h : HurdleWait) : Bool :=
  h.inbound == 0 && h.strays.isEmpty && h.host.isEmpty && h.tier.isEmpty && h.own.isEmpty
/-- The causes of a wait whose classes include the core's own accesses (R233). -/
def HurdleWait.causes (h : HurdleWait) : List Nat :=
  if bit h.classes 0 then
    (if h.inbound = 0 then [] else [6]) ++ (if h.strays.isEmpty && h.own.isEmpty then [] else [5])
      ++ (if h.host.isEmpty then [] else [7]) ++ (if h.tier.isEmpty then [] else [3])
  else []
/-- The causes for which the core's HURDLEs keep the next bundle (R233). -/
def Core.hurdleCauses (c : Core) : List Nat := (c.hurdles.flatMap HurdleWait.causes).eraseDups
/-- A wait stays: something is left of it, its bundle may still issue a stray, or it is a fold's, which waits for its arrival (R233,
R235). -/
def HurdleWait.stays (h : HurdleWait) (live : Nat) : Bool := !h.done || h.fold || h.issue == live
/-- Change every wait; one with nothing left is over. -/
def Core.modHurdle (c : Core) (f : HurdleWait → HurdleWait) : Core :=
  { c with hurdles := (c.hurdles.map f).filter fun h => h.stays c.live }
/-- What a wait needs performed before an after-set access of a class: the before sets of the other classes (R231, R234). Classes 1
inbound, 2 strays, 3 host, 4 tier. -/
def HurdleWait.opens (h : HurdleWait) (cls : Nat) : Bool :=
  (cls == 1 || h.inbound == 0) && (cls == 2 || h.strays.isEmpty) && (cls == 3 || h.host.isEmpty) && (cls == 4 || h.tier.isEmpty)
/-- An access of a class may be performed, where `before` says whose before set it is in (R231, R234). -/
def Core.mayServe (c : Core) (cls : Nat) (before : HurdleWait → Bool) : Bool :=
  c.hurdles.all fun h => !bit h.classes cls || before h || h.opens cls
/-- A stray or host access has been handled: it is in no before set any more (R231). -/
def Core.strayHandled (c : Core) (key : Nat × Nat) : Core :=
  c.modHurdle fun h => { h with strays := h.strays.erase key, host := h.host.erase key }
/-- A landing has been written or dropped: it is in no before set any more (R231). -/
def Core.tierHandled (c : Core) (line : Nat) : Core := c.modHurdle fun h => { h with tier := h.tier.erase line }
/-- An inbound line at a place of the queue has been written (R231). -/
def Core.inboundHandled (c : Core) (i : Nat) : Core :=
  c.modHurdle fun h => { h with inbound := if i < h.inbound then h.inbound - 1 else h.inbound }

end Sys2Proof.Machine
end

