-- ==== Sys2Proof/Machine/Issue.lean ====
section
/-! DEFINITION. The issue of a bundle and of its operations: what each operation occupies and writes (R44, R47), the checks
at issue (R175 to R178), the holds they start (R55), and the passage of a core cycle (R40, R41). -/

namespace Sys2Proof.Machine

/-- What an operation brings to the issue of its bundle: its faults and holds, the units it occupies, and the results it
will land: kind, number, latency (R43, R44, R47). -/
structure OpSpec where
  checks : Checks := {}
  units : List (Nat × Nat) := []
  resv : List (Nat × Nat × Nat) := []
  deriving DecidableEq, Repr

/-- Units of R44: 0 scalar, 1 move, 2 MAC array, 3 accumulator read port, 4 vector lanes, 5 GEMV path, 6 transcendental,
7 array fill path, 8 outbound staging; 20 + b while an MXSTREAM uses weight buffer b (R51). -/
def unitScalar : Nat := 0
def unitMove : Nat := 1
def unitArray : Nat := 2
def unitRead : Nat := 3
def unitLanes : Nat := 4
def unitGemv : Nat := 5
def unitTrans : Nat := 6
def unitFill : Nat := 7
def unitStage : Nat := 8
def unitBuf (wt : BitVec 1) : Nat := 20 + wt.toNat

/-- One fault of an operation. -/
def Checks.fault (cls code : Nat) : Checks := { faults := [(cls, code)] }
/-- A fault under a condition. -/
def Checks.when (b : Bool) (cls code : Nat) : Checks := if b then { faults := [(cls, code)] } else {}

/-- A unit is busy in the present live cycle (R44). -/
def Core.unitBusy (c : Core) (u : Nat) : Bool := decide (c.live < Tab.get 0 c.busy u)

/-- A scalar operation of latency `l` into sD. -/
def scalarSpec (d : BitVec 5) (l : Nat) : OpSpec := { units := [(unitScalar, 1)], resv := [(0, d.toNat, l)] }
/-- A branch (R222, R223). -/
def branchSpec (c : Core) : OpSpec := { checks := Checks.when c.shadow.isSome 5 21, units := [(unitScalar, 1)] }
/-- A vector-lane operation into vD: latency and occupancy. -/
def lanesSpec (d : BitVec 5) (l k : Nat) : OpSpec := { units := [(unitLanes, k)], resv := [(1, d.toNat, l)] }
/-- FP32 and BF16 arithmetic (R47, R187). -/
def arithSpec (d : BitVec 5) (fmt : BitVec 4) : OpSpec := if fmt = 0 then lanesSpec d 4 1 else lanesSpec d 5 2
/-- The base register update of AM = 0b10 (R163). -/
def baseResv (c : Core) (ea : BitVec 22) : List (Nat × Nat × Nat) :=
  match eaUpdate c ea with | some u => [(0, u.1, 1)] | none => []

/-- The hurdle order check (R232). -/
def hurdleCheck (c : Core) (classes : Nat) : Checks := Checks.when (bit classes 0 && decide (c.live ≤ c.lastBank)) 5 24

/-- The send checks: flits left in the flow and room in the staging store (R237, R238). -/
def State.sendCheck (s : State) (n : Nat) (flow : BitVec 10) (flits : Nat) : Checks :=
  let c := s.core n
  let total := flowFlits (s.tabs c.desc) n flow.toNat
  (Checks.when (decide (total < Tab.get 0 c.taken flow.toNat + flits)) 5 25).and
    (Checks.when (decide (8 < c.staged.length + flits)) 5 26)

/-- The checks of a stray target (R166) with its alignment. -/
def State.targetCheck (s : State) (x : BitVec 64) (align : Nat) : Checks :=
  let t := Target.of x
  let nmod := match s.prog with | some (b, _, _) => Img.nmod b | none => 0
  (Checks.when (t.reserved || decide (nmod ≤ t.mod) || decide (s.nCores ≤ t.core)) 5 7).and
    (Checks.when (t.addr % align != 0) 3 4)

/-- The stray pair check: no route to the target's module (R294, R300). -/
def State.pairCheck (s : State) (n : Nat) (x : BitVec 64) : Checks :=
  let t := Target.of x
  let c := s.core n
  Checks.when (!(c.sendSeq.any (·.1 == 2048 * t.mod + t.core)) && decide (256 ≤ c.sendSeq.length)) 5 28

/-- The hold of R245. -/
def strayHold (c : Core) : Checks := if 64 ≤ c.outs.length then { holds := [5] } else {}

/-- Rows that operations in flight will update (R196). -/
def Core.rowInFlight (c : Core) (lo cnt : Nat) : Bool :=
  c.resv.any fun r => r.kind == 2 && decide (c.live < r.due) && decide (lo ≤ r.num ∧ r.num < lo + cnt)

/-- The long-sum words of a register (R151). -/
def lswsOf (v : Block) : List Lsw := (lanes 256 8 v).map Lsw.ofBits

/-- The window checks of LSWADD (R199). -/
def lswCheck (ws : List Lsw) (wb : Int) : Checks :=
  if ws.any fun w => decide (w.wexp < -1024 ∨ 1023 < w.wexp) then Checks.fault 5 8
  else if ws.any fun w => w.wexp != wb then Checks.fault 5 9 else {}

/-- The tile checks of MXSTREAM: pairing first, then ready; the hold for a fill is the buffer's own (R50, R192). -/
def State.tileCheck (s : State) (n : Nat) (wt : BitVec 1) (afmt : BitVec 4) : Checks :=
  let c := s.core n
  let b := c.buf wt
  let a := afmt.toNat
  let pairs := match b.fmt with
    | none => false
    | some f => f == a || ((f == 4 || f == 5) && (a == 4 || a == 5)) || ((f == 6 || f == 7) && (a == 6 || a == 7))
  if !pairs then Checks.fault 5 15
  else if b.ready then {}
  else if b.source.any (s.requested n) then { holds := [3 + 16 * (8 + wt.toNat)] } else Checks.fault 5 13

/-- Beats' landing cycles of a GEMV (R203). -/
def gemvLand (wf m : Nat) : Nat := if wf = 4 ∨ wf = 5 ∨ wf = 9 then 13 + 33 * (m / 32) + m % 32 else 12 + m
/-- Live cycles in which row k of an MXSTREAM uses its bank, after the issue (R83). -/
def rowBank (afmt k : Nat) : Nat := if afmt = 1 then 1 + 4 * k else 1 + k
/-- Latency of row k of an MXSTREAM (R47). -/
def rowLand (afmt k : Nat) : Nat := if afmt = 1 then 4 * k + 12 else k + 9

/-- What an operation brings to issue, for core `n` with its context slot. -/
def State.spec (s : State) (n slot : Nat) (i : Instr) : OpSpec :=
  let c := s.core n
  match i with
  | .add _ d _ _ | .sub _ d _ _ | .and _ d _ _ | .or _ d _ _ | .xor _ d _ _ | .shl _ d _ _ | .shr _ d _ _ | .sar _ d _ _
  | .cmpeq _ d _ _ | .cmplt _ d _ _ | .cmpltu _ d _ _ | .mov _ d _ | .addi _ d _ _ | .subi _ d _ _ | .andi _ d _ _
  | .ori _ d _ _ | .xori _ d _ _ | .shli _ d _ _ | .shri _ d _ _ | .sari _ d _ _ | .cmpeqi _ d _ _ | .cmplti _ d _ _
  | .cmpltui _ d _ _ | .li _ d _ | .lih _ d _ _ | .rdtally _ d | .flgrd _ d => scalarSpec d 1
  | .mul _ d _ _ | .muli _ d _ _ => scalarSpec d 3
  | .flgclr _ => { units := [(unitScalar, 1)] }
  | .br .. | .beqz .. | .bnez .. | .bltz .. | .bgez .. => branchSpec c
  | .bdec _ a _ => { branchSpec c with resv := [(0, a.toNat, 1)] }
  | .hurdle _ cl => { checks := hurdleCheck c cl.toNat, units := [(unitScalar, 1)] }
  | .fold _ ix =>
    let own := match s.prog with
      | some (b, m, _) =>
        if Img.nfold b m ≤ ix.toNat then Checks.fault 1 1
        else Checks.when (Img.foldOf b c.desc != ix.toNat || c.foldIssued) 2 3
      | none => {}
    { checks := own.and (hurdleCheck c 15), units := [(unitScalar, 1)] }
  | .lds _ _ d ea =>
    { checks := s.readCheck slot n (eaM c ea) 8 1, units := [(unitMove, 1)], resv := (0, d.toNat, 5) :: baseResv c ea }
  | .ldv _ _ d ea =>
    { checks := s.readCheck slot n (eaM c ea) 64 4, units := [(unitMove, 1)], resv := (1, d.toNat, 6) :: baseResv c ea }
  | .stv _ _ ea => { checks := s.writeCheck slot n (eaM c ea), units := [(unitMove, 1)], resv := baseResv c ea }
  | .mxload _ _ fmt wt ea =>
    let k := tileLines fmt.toNat
    { checks := (s.readCheck slot n (eaM c ea) 64 k).and (Checks.when (c.unitBusy (unitBuf wt)) 5 14)
      units := [(unitMove, ceilDiv k 8), (unitFill, 32)], resv := baseResv c ea }
  | .kvapp _ _ kvs =>
    let d := (s.ctx slot).kvDesc n kvs.toNat
    { checks := if d.cap = 0 ∨ d.append = d.cap then Checks.fault 5 22 else s.writeCheck slot n (64 * (d.base + 4 * d.append))
      units := [(unitMove, 1)] }
  | .kvcommit _ a kvs =>
    let d := (s.ctx slot).kvDesc n kvs.toNat
    { checks := Checks.when (d.cap == 0 || decide (d.append - d.commit < (c.s a).toNat)) 5 23, units := [(unitMove, 1)] }
  | .kvdrop _ kvs => { checks := Checks.when (((s.ctx slot).kvDesc n kvs.toNat).cap == 0) 5 22, units := [(unitMove, 1)] }
  | .mxstream _ wt afmt _ acc cnt line =>
    let k := cnt.toNat + 1
    let occ := if afmt = 1 then 4 * k else k
    { checks := (s.readCheck slot n (eaL c line) 64 k).and (s.tileCheck n wt afmt)
      units := [(unitArray, occ), (unitBuf wt, occ)]
      resv := (List.range k).map fun j => (2, acc.toNat + j, rowLand afmt.toNat j) }
  | .accout _ _ cnt ofmt d =>
    let k := cnt.toNat + 1
    { units := [(unitRead, ceilDiv k 2)]
      resv := (List.range (spanRegs k (rowsPerReg ofmt))).map fun j => (1, d.toNat + j, ceilDiv k 2 + 6) }
  | .accclr _ acc cnt ws _ sw =>
    let w := (c.s sw).toInt
    { checks := (Checks.when (ws && decide (w < -1024 ∨ 1023 < w)) 5 8).and
        (Checks.when (c.rowInFlight acc.toNat (cnt.toNat + 1)) 5 16) }
  | .vfma _ d _ _ _ fmt | .vadd _ d _ _ fmt | .vsub _ d _ _ fmt | .vmul _ d _ _ fmt | .vmax _ d _ _ fmt
  | .vmin _ d _ _ fmt => arithSpec d fmt
  | .vcmp _ d _ _ _ _ | .vsel _ d _ _ _ | .vand _ d _ _ | .vor _ d _ _ | .vxor _ d _ _ | .viadd _ d _ _ _
  | .visub _ d _ _ _ | .vimul _ d _ _ _ | .vshl _ d _ _ _ | .vshr _ d _ _ _ | .vsar _ d _ _ _ | .vbcast _ d _ _ =>
    lanesSpec d 2 1
  | .vcvt _ d _ _ _ _ _ => lanesSpec d 6 1
  | .vred _ d _ _ _ => lanesSpec d 8 1
  | .rngfill _ d _ _ => lanesSpec d 6 1
  | .vtr _ d _ _ _ => { units := [(unitTrans, 4)], resv := [(1, d.toNat, 14)] }
  | .gemv _ wf _ _ acc _ beats _ line =>
    let b := beats.toNat + 1
    let occ := if wf = 4 ∨ wf = 5 ∨ wf = 9 then b + ceilDiv b 32 else b
    { checks := s.readCheck slot n (eaL c line) 64 (gemvLines wf.toNat b), units := [(unitGemv, occ)]
      resv := (List.range b).map fun m => (2, acc.toNat, gemvLand wf.toNat m) }
  | .lswadd _ a acc _ =>
    { checks := lswCheck (lswsOf (c.v a)) (c.row acc.toNat).wb, units := [(unitGemv, 1)], resv := [(2, acc.toNat, 12)] }
  | .send _ _ flow => { checks := s.sendCheck n flow 1, units := [(unitStage, 1)] }
  | .recv _ d _ line =>
    { checks := s.readCheck slot n (eaL c line) 64 4, units := [(unitStage, 1)], resv := [(1, d.toNat, 6)] }
  | .lswsend _ _ flow => { checks := s.sendCheck n flow 4, units := [(unitStage, 4), (unitRead, 1)] }
  | .strayw _ _ t _ _ _ =>
    { checks := ((s.targetCheck (c.s t) 64).and (s.pairCheck n (c.s t))).and (strayHold c), units := [(unitStage, 1)] }
  | .straya _ _ t aop w p =>
    let sp := (c.s p).toNat
    let win := match c.regionOf slot (sp / 64) with | some r => r.kind == 1 && r.sw | none => false
    let mode := match s.prog with | some (b, _, _) => Img.mode b == 1 && aop != 1 | none => false
    { checks := (((s.targetCheck (c.s t) (if aop = 1 then 32 else if w then 8 else 4)).and (s.pairCheck n (c.s t))).and
        (Checks.when (decide (0x7FFFFF < sp) || sp % 64 != 0 || !win) 4 5)).and ((Checks.when mode 5 27).and (strayHold c))
      units := [(unitStage, 1)] }
  | _ => {}

/-- A fault found at issue: class, slot, code (R178). -/
abbrev Found := Nat × Nat × Nat

/-- Faults of a bundle as a whole (R84, R96, R104, R175 to R177). -/
def State.bundleFaults (s : State) (n slot a : Nat) (w : BitVec 256) : List Found :=
  let c := s.core n
  let b := decodeBundle n w
  let named := match s.prog with | some (im, _, _) => Img.foldOf im c.desc | none => 0xFFFF
  let folds := match b.slots.getD 0 none with | some (.fold ..) => true | _ => false
  let branch := match b.slots.getD 0 none with
    | some (.br ..) | some (.beqz ..) | some (.bnez ..) | some (.bltz ..) | some (.bgez ..) | some (.bdec ..) => true
    | _ => false
  let len := match s.prog with | some (im, _, _) => Img.length im c.desc | none => 0
  if !c.isKind slot (a / 64) 0 then [(4, 7, 6)]
  else if c.fetchPoison.contains (a / 64) then [(5, 7, 20)]
  else
    (if b.reserved then [(1, 7, 1)] else [])
    ++ ((List.range 5).filter fun k => (b.slots.getD k none).isNone).map (fun k => (1, k, 1))
    ++ (if b.last && (branch || c.shadow.isSome) then [(1, 7, 1)] else [])
    ++ (if len ≠ 0 ∧ b.last ≠ decide (len ≤ c.stepLive + 1) then [(2, 7, 2)] else [])
    ++ (if b.last && named != 0xFFFF && !c.foldIssued && !folds then [(2, 7, 3)] else [])

/-- Faults and holds of the operations of a bundle, slot by slot, with the collisions of R43 and R44 between them and with
what is in flight. -/
def State.slotFaults (s : State) (n slot : Nat) (ops : List (Nat × Instr)) : List Found × List Nat :=
  let c := s.core n
  let r := ops.foldl (fun (acc : List Found × List Nat × List Nat × List (Nat × Nat × Nat)) (o : Nat × Instr) =>
    let sp := s.spec n slot o.2
    let busy := sp.units.any fun u => u.1 < 20 && (c.unitBusy u.1 || acc.2.2.1.contains u.1)
    let hit := sp.resv.any fun x => (c.resv.any fun r => r.kind == x.1 && r.num == x.2.1 && r.due == c.live + x.2.2)
      || acc.2.2.2.contains x
    (acc.1 ++ sp.checks.faults.map (fun f => (f.1, o.1, f.2)) ++ (if busy then [(5, o.1, 11)] else [])
        ++ (if hit then [(5, o.1, 10)] else []),
      acc.2.1 ++ sp.checks.holds, acc.2.2.1 ++ sp.units.map (·.1), acc.2.2.2 ++ sp.resv)) ([], [], [], [])
  (r.1, r.2.1)

/-- Faults between the slots of one bundle: an MXLOAD into a buffer that an MXSTREAM uses (R51), and an update of a row
that an ACCCLR clears (R196). -/
def crossFaults (ops : List (Nat × Instr)) : List Found :=
  let streams := ops.filterMap fun o => match o.2 with | .mxstream _ wt .. => some wt | _ => none
  let loads := ops.filterMap fun o => match o.2 with | .mxload _ _ _ wt _ => some wt | _ => none
  let rows := ops.filterMap fun o => match o.2 with
    | .gemv _ _ _ _ acc .. => some acc.toNat | .lswadd _ _ acc _ => some acc.toNat | _ => none
  let clr := ops.filterMap fun o => match o.2 with | .accclr _ acc cnt .. => some (acc.toNat, cnt.toNat) | _ => none
  (if loads.any streams.contains then [(5, 1, 14)] else [])
    ++ (if clr.any fun r => rows.any fun x => decide (r.1 ≤ x ∧ x ≤ r.1 + r.2) then [(5, 2, 16)] else [])

/-- The fault recorded among those found: by class, then by slot (R178). Of two of one class and one slot, the first found: code 2 before
3 for the whole bundle, 25 before 26 in the L slot (DESIGN CHOICE, log 36: the spec does not say which). -/
def pickFault (l : List Found) : Option Found :=
  l.foldl (fun best f => match best with
    | none => some f
    | some b => if f.1 < b.1 ∨ (f.1 = b.1 ∧ f.2.1 < b.2.1) then some f else some b) none

/-- The operations of the due bundle by slot. -/
def opsOf (n : Nat) (w : BitVec 256) : List (Nat × Instr) :=
  (List.range 5).filterMap fun k => ((decodeBundle n w).slots.getD k none).map fun i => (k, i)

/-- A hold finding as a cause and an origin (R55). -/
def holdOf (k : Nat) : Nat × Nat := (k % 16, if k < 16 then 1 else k / 16)

/-- What the issue check of the due bundle finds: the fault that it takes, and the hold conditions, each a cause and an origin (R26, R55,
R177, R178, R233). A bundle whose line lies out of its region or is poisoned is not decoded: only the fetch fault, 6 or 20, is found
(DESIGN CHOICE, log 36: the spec does not say whether its other faults count). -/
def State.issueCheck (s : State) (n : Nat) : Option Found × List (Nat × Nat) :=
  let c := s.core n
  match c.queue with
  | [] => (none, [])
  | (a, w) :: _ =>
    match c.hurdleCauses with
    | k :: ks => (none, (k :: ks).map holdOf)
    | [] =>
      let slot := s.runSlot.getD 0
      let bf := s.bundleFaults n slot a w
      if bf.any fun f => f.2.2 == 6 || f.2.2 == 20 then (pickFault bf, [])
      else
        let sf := s.slotFaults n slot (opsOf n w)
        (pickFault (bf ++ sf.1 ++ crossFaults (opsOf n w)), sf.2.map holdOf)

/-- The bundle due passes its checks; live cycle 0 of the step issues in the core cycle in which the first one does (R178, R261). -/
def Core.pass (c : Core) (now : Nat) : Core :=
  { c with cleared := true, stepStart := if c.stepLive = 0 then some now else c.stepStart }

/-- The due bundle reaches issue: it faults, holds, or is cleared (R26, R55, R177, R178, R233). -/
def State.clear (s : State) (n : Nat) : State :=
  let c := s.core n
  match c.queue with
  | [] => s.beginHold n 6 2
  | (a, _) :: _ =>
    if c.cleared then s
    else match s.issueCheck n with
      | (some f, _) => s.fault n a f.2.1 f.1 f.2.2
      | (none, []) => s.setCore n (c.pass s.now)
      | (none, hs) => hs.foldl (fun s h => s.beginHold n h.1 h.2) s

/-- The hold began in the issue check of the due bundle. -/
def ofIssue (h : Nat × Nat × Nat) : Bool := h.2.2 == 1 || decide (8 ≤ h.2.2)

/-- The wait for the fill of a weight buffer lasts until its ready bit is set (R50). -/
def Core.awaitsFill (c : Core) (h : Nat × Nat × Nat) : Bool := decide (8 ≤ h.2.2) && !(Tab.get {} c.wt (h.2.2 - 8)).ready

/-- The conditions that the issue check began are looked at again: one that persists keeps the core cycle in which it began (R50, R55,
R59). -/
def State.recheck (s : State) (n : Nat) : State :=
  let c := s.core n
  if c.holds.any ofIssue then
    let found := (s.issueCheck n).2
    let s1 := s.setCore n { c with holds := c.holds.filter fun h => !ofIssue h || found.contains (h.1, h.2.2) || c.awaitsFill h }
    if (s1.core n).holds.any ofIssue then found.foldl (fun s h => s.beginHold n h.1 h.2) s1 else s1
  else s

/-- The holds that the model itself watches are released or begun at the end of a core cycle (R55, R87, R88, R233, R291). -/
def State.refresh (s : State) (n : Nat) : State :=
  let s1 := s.recheck n
  let c := s1.core n
  let s2 := if c.queue.isEmpty then s1 else s1.endHold n 6 2
  let k := c.inbound.length
  let s3 := if 24 ≤ k then s2.beginHold n 6 3 else if k ≤ 8 then s2.endHold n 6 3 else s2
  let e := c.ejectQ.length
  if 6 ≤ e then s3.beginHold n 5 5 else if e ≤ 2 then s3.endHold n 5 5 else s3

/-- A core that a fault outside issue stopped goes silent (R524). -/
def Core.stopIfDue (c : Core) (now : Nat) : Core := if c.stopping then c.goSilent now else c

/-- A core cycle in which the core takes no bundle for a hold: counted by its cause, run-ahead given up under the throttle as under any
hold, while an empty fetch queue is still supplied (R30, R56, R58, R59, R68, R88). -/
def State.heldCycle (s : State) (n : Nat) : State :=
  let k := (s.holdCause n).getD 6
  let s1 := if s.throttled n then s.dropAhead n else s
  let s2 := if (s.core n).queue.isEmpty then s1.beginHold n 6 2 else s1
  (s2.countHold n k).modCore n Core.starve

/-- The next bundle becomes due, and waits of HURDLEs with nothing left are over (R40, R233). -/
def State.nextBundle (s : State) (n : Nat) : State := s.modCore n fun c => (c.advance n).modHurdle id

/-- A held or free core cycle of a core that runs (R40, R55 to R60, R88). -/
def State.runCycle (s : State) (n : Nat) : State :=
  let c := s.core n
  if c.ended then
    (if c.holds.any (·.2.2 == 6) then s.countHold n ((s.holdCause n).getD 8) else s.countWait n).refresh n
  else
    let s1 := if s.heldNow n then s else s.clear n
    if (s1.core n).run != .run then s1
    else if s1.heldNow n then (s1.heldCycle n).refresh n
    else if (s1.core n).bundleDone n then (s1.nextBundle n).refresh n
    else s1.refresh n

/-- The core's step has lasted its LENGTH (R393). -/
def State.lengthPassed (s : State) (n : Nat) : Bool :=
  match s.prog with | some (b, _, _) => decide (Img.length b (s.core n).desc ≤ (s.core n).stepLive) | none => true

/-- One core cycle of a core that steps without issuing: beyond LENGTH it is a closure wait cycle (R60, R274, R393). -/
def State.silentCycle (s : State) (n : Nat) : State :=
  let s1 := s.settle n
  (if s1.lengthPassed n then s1.countWait n else s1).modCore n fun c => { c with live := c.live + 1, stepLive := c.stepLive + 1, banks := [] }

/-- One core cycle at one core. -/
def State.coreCycle (s : State) (n : Nat) : State :=
  match (s.core n).run with
  | .idle => s.modCore n fun c => { c with banks := [] }
  | .silent => s.silentCycle n
  | .run =>
    let s1 := s.land n
    let s2 := if (s1.core n).run == .run then s1.runCycle n else s1
    s2.modCore n fun c => { c.stopIfDue s.now with banks := [] }

/-- Lanes of a set. -/
def laneCount (m : BitVec 4) : Nat := ((List.range 4).filter fun i => m.getLsbD i).length

/-- Cause with which a port's receive side holds its inbound positions: lane change or retrain 2, replay 1, fewer than four lanes
9 (R265, R339). -/
def Port.holdCause (p : Port) : Option Nat :=
  let switching := match p.laneOp with | .switchOut _ cw => decide (0 ≤ wrapDiff 16 p.cwRecv cw) | _ => false
  if p.st == .retrain || (p.st == .active && switching) then some 2
  else if p.st == .active && p.retry then some 1
  else if p.st == .active && decide (laneCount p.rxLanes < 4) then some 9 else none

/-- Cause with which a port holds at all: its receive side's, or 1 while it sends nothing new for a full replay buffer (R265, R333). -/
def Port.holdNow (p : Port) : Option Nat :=
  match p.holdCause with
  | some k => some k
  | none => if p.st == .active && decide (8212 ≤ p.replay.length) then some 1 else none

/-- One core cycle of a port's hold is counted by its cause (R30, R500). -/
def Port.countCycle (p : Port) : Port :=
  match p.holdNow with
  | some h => { p with holdCycles := Tab.put h (satAdd 64 (Tab.get 0 p.holdCycles h) 1) p.holdCycles }
  | none => p

/-- The ports of the running context's wiring count their hold cycles (R30, R500). -/
def State.countPorts (s : State) : State :=
  match s.prog with
  | none => s
  | some (b, m, _) => { s with ports := Tab.map (fun k p => if Img.penLink b m k then p.countCycle else p) s.ports }

/-- One core cycle of the module (log 1). -/
def State.tick (s : State) : State :=
  let s1 := (s.activeCores.foldl State.coreCycle s).countPorts
  { s1 with now := s.now + 1 }

/-- The due bundle of core `n` holds the operation, not issued yet. -/
def State.dueHas (s : State) (n : Nat) (i : Instr) : Bool :=
  let c := s.core n
  match c.queue, slotOf i with
  | (_, w) :: _, some k => (decodeBundle n w).slots.getD k none == some i && !c.issued.contains k
  | _, _ => false

/-- The core takes no operation in this core cycle: it is held, or its bundle has issued whole. -/
def State.mustWait (s : State) (n : Nat) (i : Instr) : Bool :=
  s.heldNow n || ((s.core n).bundleDone n && !s.dueHas n i)

/-- The state in which an operation of core `n` reaches issue: a core cycle passes first where the core must wait, results
due land, and the due bundle is checked (R41, R42, R178). -/
def State.atIssue (s : State) (n : Nat) (i : Instr) : State :=
  let s1 := if s.mustWait n i then s.tick else s
  let s2 := s1.land n
  if (s2.core n).run == .run && !(s2.core n).ended && !s2.heldNow n then s2.clear n else s2

/-- The operation is of the due bundle, which has passed its checks and so issues whole, and has not issued yet (R41, R55). -/
def State.canIssue (s : State) (n : Nat) (i : Instr) : Bool :=
  let c := s.core n
  decide (n < s.nCores) && c.run == .run && !c.ended && c.cleared && s.dueHas n i

/-- The bookkeeping of an issue: the slot has issued, units are busy, results are due, banks will be used (R43, R44, R83). -/
def State.take (s : State) (n : Nat) (i : Instr) : State :=
  let sp := s.spec n (s.runSlot.getD 0) i
  s.modCore n fun c => { c with
    issued := (slotOf i).getD 7 :: c.issued
    busy := sp.units.foldl (fun t u => Tab.put u.1 (c.live + u.2) t) c.busy
    resv := c.resv ++ sp.resv.map fun x => { kind := x.1, num := x.2.1, due := c.live + x.2.2 } }

/-- Issue an operation: its effect follows where it can issue; otherwise the core has waited, held or faulted (R41, R178). -/
def State.issueOp (s : State) (n : Nat) (i : Instr) (eff : State → State) : State :=
  let t := s.atIssue n i
  if t.canIssue n i then eff (t.take n i)
  else if s.mustWait n i || s.dueHas n i then t else s

/-- Put an operation's event in flight, `l` live cycles after issue, and note the bank use (R42, R83). -/
def State.launch (s : State) (n l : Nat) (a : Act) : State :=
  s.modCore n fun c => { c.fly (c.live + l) c.live a with
    lastBank := if a.banks.isEmpty then c.lastBank else max c.lastBank (c.live + l) }

end Sys2Proof.Machine
end

