-- ==== Sys2Proof/Machine/Runahead.lean ====
section
/-! DEFINITION. The manifest's fields (R402 to R404), landing lines of the tier, and the cancelling of run-ahead (R68). -/

namespace Sys2Proof.Machine

/-! Manifest (R402 to R404). -/
def Man.nshard (b : Bytes) : Nat := field b 12 4
def Man.nplace (b : Bytes) : Nat := field b 16 4
def Man.mlen (b : Bytes) : Nat := field b 24 8
/-- Offset of shard entry `i`. -/
def Man.at (i : Nat) : Nat := 128 + 96 * i
/-- Field of shard entry `i`. -/
def Man.f (b : Bytes) (i o n : Nat) : Nat := field b (Man.at i + o) n
def Man.mod (b : Bytes) (i : Nat) : Nat := Man.f b i 0 2
def Man.shid (b : Bytes) (i : Nat) : Nat := Man.f b i 2 2
def Man.sfmt (b : Bytes) (i : Nat) : Nat := Man.f b i 4 1
def Man.dfmt (b : Bytes) (i : Nat) : Nat := Man.f b i 5 1
def Man.qctl (b : Bytes) (i : Nat) : Nat := Man.f b i 6 1
def Man.layout (b : Bytes) (i : Nat) : Nat := Man.f b i 7 1
def Man.dkind (b : Bytes) (i : Nat) : Nat := Man.f b i 8 1
def Man.srckind (b : Bytes) (i : Nat) : Nat := Man.f b i 9 1
def Man.n (b : Bytes) (i : Nat) : Nat := Man.f b i 12 4
def Man.k (b : Bytes) (i : Nat) : Nat := Man.f b i 16 4
def Man.pidx (b : Bytes) (i : Nat) : Nat := Man.f b i 20 4
def Man.pcnt (b : Bytes) (i : Nat) : Nat := Man.f b i 24 4
def Man.toff (b : Bytes) (i : Nat) : Nat := Man.f b i 28 8
def Man.src (b : Bytes) (i : Nat) : Nat := Man.f b i 36 8
def Man.slen (b : Bytes) (i : Nat) : Nat := Man.f b i 44 4
def Man.sdig (b : Bytes) (i : Nat) : Bytes := slice b (Man.at i + 48) 32
def Man.rlen (b : Bytes) (i : Nat) : Nat := Man.f b i 80 8
/-- Placement entry `j`: core, first line, count, reserved bits (R404). -/
def Man.place (b : Bytes) (j : Nat) : Nat × Nat × Nat × Nat :=
  let v := field b (128 + 96 * Man.nshard b + 8 * j) 8
  (bits v 63 53, bits v 52 36, bits v 35 19, bits v 18 0)
/-- The shard entries of a module, in manifest order. -/
def Man.mine (b : Bytes) (m : Nat) : List Nat := (List.range (Man.nshard b)).filter fun i => Man.mod b i == m

/-- A tier offset of the context lies in a weight region: a shard of this module was delivered there (log 12). -/
def Ctx.isWeight (x : Ctx) (m toff : Nat) : Bool :=
  (Man.mine x.manifest m).any fun i => Man.dkind x.manifest i == 1 && decide (Man.toff x.manifest i ≤ toff)
    && decide (toff < Man.toff x.manifest i + Man.rlen x.manifest i)

/-- A landing line that a streamer entry takes from a writable tier region (R68). -/
def Ctx.writableLanding (x : Ctx) (m core line : Nat) : Bool :=
  (List.range (Img.nstrm x.image m)).any fun i =>
    let e := Img.strEntry x.image m i
    e.core == core && decide (e.line ≤ line) && decide (line < e.line + e.count) && !x.isWeight m (e.toff + 64 * (line - e.line))

/-- Cancel streamer run-ahead of a slot: withdraw unaccepted requests, advance the epoch, clear fill bits of landing lines,
all of them or only those from writable regions (R68). -/
def State.cancelStreamer (s : State) (slot : Nat) (all : Bool) : State :=
  let x := s.ctx slot
  let m := (Img.find x.image s.fuse.modid).getD 0
  let gone := s.strm.reqs.filter fun r => r.slot == slot && !r.accepted
  let s1 := { s with strm := { s.strm with
    reqs := s.strm.reqs.filter (fun r => !(r.slot == slot && !r.accepted))
    withdrawals := satAdd 64 s.strm.withdrawals gone.length } }
  let s2 := s1.modCtx slot fun x => { x with epoch := (x.epoch + 1) % 16 }
  { s2 with cores := Tab.map (fun n c => { c with
      fill := c.fill.filter fun l => !(c.isKind slot l 3 && (all || x.writableLanding m n l)) }) s2.cores }

/-- Key of a stray source: 4,096 × module + SRC (R288). -/
def Packet.srcKey (p : Packet) : Nat := 4096 * p.smod + p.src

/-- Writes and atomics that a core's ejection queue has accepted and that are not performed yet: queued, in progress, or stored for their
turn in the present epoch. The host agents' WRITEs are among them (DESIGN CHOICE, log 37: the spec names stray writes and does not say
whether a host's WRITE, an access of class 3, is of class 2 too). -/
def Core.acceptedStrays (c : Core) : List (Nat × Nat) :=
  ((c.ejectQ ++ c.reorder.filter (fun p => decide (2048 ≤ p.src) || p.fep == c.epoch) ++ (c.work.map (·.req)).toList).filter
    fun p => p.type == 1 || p.type == 2).map fun p => (p.srcKey, p.pseq)

/-- Landing lines whose tier read a controller has accepted, on their way or in the inbound queue (R231). -/
def State.acceptedTier (s : State) (n : Nat) : List Nat :=
  (s.strm.reqs.filter fun r => r.core == n && r.accepted).map (·.line) ++ ((s.core n).inbound.filter (·.landing)).map (·.line)

/-- The wait of a HURDLE of a core that issues now (R231, R233, R235). -/
def State.hurdleWait (s : State) (n classes : Nat) (fold : Bool) : HurdleWait :=
  let c := s.core n
  { classes, issue := c.live, inbound := if bit classes 1 then c.inbound.length else 0
    strays := if bit classes 2 then c.acceptedStrays else []
    host := if bit classes 3 then c.hostWaiting.filter fun k => k.1 % 4096 != 2050 else []
    tier := if bit classes 4 then s.acceptedTier n else []
    own := if bit classes 0 && bit classes 2 then c.outs.map (·.1) else [], fold }

/-- A HURDLE or FOLD issues at a core: before sets, staging, streamer (R68, R231, R235). Each waits for its own before sets, whatever
earlier ones still wait for (DESIGN CHOICE, log 37: the spec does not say how waits that overlap combine). -/
def State.hurdleAt (s : State) (n classes : Nat) (fold : Bool) : State :=
  let s1 := s.modCore n fun c => { c with staging := [], hurdles := c.hurdles ++ [s.hurdleWait n classes fold] }
  if bit classes 4 then (match s.runSlot with | some k => s1.cancelStreamer k false | none => s1) else s1

end Sys2Proof.Machine
end

