-- ==== Sys2Proof/Machine/TierOps.lean ====
section
/-! DEFINITION. Operations over the LPDDR5X tier: address map (R108), reads and writes under inline ECC and encryption (R110 to
R113), host-held granules (R457). -/

namespace Sys2Proof.Machine

/-- Channel of a tier address (R108). -/
def State.tierChannel (s : State) (ta : Nat) : Nat :=
  let ci := (ta / 128) % s.channels.length
  (ci % 2) * 32 + ci / 2
/-- Where a tier block lies in its channel (R107, R108). -/
structure TierPlace where
  bankGroup : Nat
  bank : Nat
  rank : Nat
  row : Nat
  /-- Data block 0 to 29 of the row. -/
  col : Nat
  deriving DecidableEq, Repr

/-- Row slot of a tier address within its channel (R108). -/
def State.tierSlotRow (s : State) (ta : Nat) : Nat := ta / 128 / s.channels.length / 15
/-- Data block of a tier address within its row (R108). -/
def State.tierCol (s : State) (ta : Nat) : Nat := 2 * (ta / 128 / s.channels.length % 15) + ta / 64 % 2
/-- Bank group, bank, rank, row and data block of a tier address (R108). -/
def State.tierPlace (s : State) (ta : Nat) : TierPlace :=
  let rs := s.tierSlotRow ta
  { bankGroup := rs % 4, bank := rs / 4 % 4, rank := rs / 16 % 2, row := rs / 32, col := s.tierCol ta }
/-- The tier address of a data block of a row slot of a channel: the address map read backwards (R108). -/
def State.tierAt (s : State) (ch rs col : Nat) : Nat :=
  ((rs * 15 + col / 2) * s.channels.length + (2 * (ch % 32) + ch / 32)) * 128 + 64 * (col % 2)
/-- Block of its row, 30 or 31, that holds a data block's check word, and the word's byte offset there (R110). -/
def eccCol (col : Nat) : Nat := 30 + col / 16
def eccOffset (col : Nat) : Nat := 4 * (col % 16)
/-- Number of the ECC block, within its channel, that holds a data block's check word (R108, R110). -/
def State.eccBlock (s : State) (ta : Nat) : Nat := 2 * s.tierSlotRow ta + (eccCol (s.tierCol ta) - 30)
/-- I/O die of a channel (R107). -/
def channelDie (ch : Nat) : Nat := ch / 32
/-- Bytes of the usable tier (R108). -/
def State.tierBytes (s : State) : Nat := s.tierGiB * 2 ^ 30

/-- The ECC block store takes a block, newest first, 64 at most; `dirty` on a write (R111). -/
def State.storeTouch (s : State) (ta : Nat) (dirty : Bool) : State :=
  let ch := s.tierChannel ta
  let b := s.eccBlock ta
  let l := Tab.get [] s.tier.store ch
  let d := dirty || l.any fun e => e.1 == b && e.2
  { s with tier := { s.tier with store := Tab.put ch (((b, d) :: l.filter (·.1 != b)).take 64) s.tier.store } }

/-- The plaintext of a tier block, without its errors. -/
def State.tierPlain (s : State) (ta : Nat) : Line := bytesBv 512 (Mem.readN s.tier.mem (64 * (ta / 64)) 64)
/-- The stored ciphertext of a block, without its errors (R112). -/
def State.tierCipher (s : State) (ta : Nat) : Line :=
  match (s.tier.keys.find? (·.1 == channelDie (s.tierChannel ta))) with
  | some (_, k1, k2) => xts aesEnc k1 k2 (ta / 64) (s.tierPlain ta)
  | none => s.tierPlain ta
/-- Decrypted data of a block whose ciphertext carries the error pattern (R111, R112). -/
def State.tierGarbled (s : State) (ta : Nat) (errs : List (Nat × Byte)) : Line :=
  if overlay 0 errs = 0 then s.tierPlain ta
  else match (s.tier.keys.find? (·.1 == channelDie (s.tierChannel ta))) with
  | some (_, k1, k2) => xts aesDec k1 k2 (ta / 64) (overlay (s.tierCipher ta) errs)
  | none => overlay (s.tierPlain ta) errs

/-- A block's check word as written: the check bytes of its ciphertext, inverted for poisoned data, and the CRC-8 of its number (R110,
R456). -/
def State.checkWord (s : State) (ta : Nat) : Bytes :=
  let c := checkBytes (bvBytes 64 (s.tierCipher ta))
  let f := fun (x : Nat) => BitVec.ofNat 8 (if s.tier.inverted.contains (ta / 64) then x ^^^ 0xFF else x)
  [f c.1, f c.2.1, f c.2.2, BitVec.ofNat 8 (crc8 (leBytes 5 (ta / 64)))]
/-- The check word as it stands, with the errors of its symbols 0 to 2 and of the address check, 67 (R110). -/
def State.storedWord (s : State) (ta : Nat) : Bytes :=
  (Tab.get [] s.tier.errs (ta / 64)).foldl (fun (w : Bytes) e =>
    if e.1 < 3 then updAt (fun x => x ^^^ e.2) w e.1 else if e.1 = 67 then updAt (fun x => x ^^^ e.2) w 3 else w) (s.checkWord ta)
/-- The bytes of an ECC block, 0 for block 30 and 1 for block 31 of a row slot: the words in order, zero where no data block is (R110). -/
def State.eccBytes (s : State) (ch rs half : Nat) : Bytes :=
  (List.range 16).flatMap fun i => if 16 * half + i < 30 then s.storedWord (s.tierAt ch rs (16 * half + i)) else leBytes 4 0

/-- How a read of a block decodes: symbols 0 to 66 of its code, 67 the address check (R103, R110, R111). -/
def State.tierEcc (s : State) (ta : Nat) : EccOutcome :=
  let errs := Tab.get [] s.tier.errs (ta / 64)
  if s.tier.inverted.contains (ta / 64) || s.tier.lost.contains (s.tierChannel ta) || errs.any (fun e => e.1 == 67 && e.2 != 0) then .uncorrectable else eccClassify errs

/-- The port whose HDM decoder is committed (R455). -/
def State.hdmPort (s : State) : Option Nat := [0, 1].find? fun p => (s.cxl p).hdm

/-- The host-held bit of a tier address: its granule, and the I/O die of its channel (R457). -/
def State.heldKey (s : State) (ta : Nat) : Nat := 2 * (ta / 65536) + channelDie (s.tierChannel ta)

/-- A BISnpInv for a tier line on the committed port; it waits its turn when 64 are outstanding (R457). -/
def State.backInvalidate (s : State) (b : Nat) : State :=
  match s.hdmPort with
  | none => s
  | some p =>
    if s.tier.backInv.any (fun e => e.2 == b) || s.tier.backQ.contains b then s
    else if 64 ≤ (s.tier.backInv.filter (·.1 == p)).length then { s with tier := { s.tier with backQ := s.tier.backQ ++ [b] } }
    else ({ s with tier := { s.tier with backInv := s.tier.backInv ++ [(p, b)] } }).emit (.backInv p b)

/-- The decoded data of a block whose errors the code corrects as `(symbol, error)` (R103, R111). -/
def State.tierDecoded (s : State) (ta sy e : Nat) : Line := s.tierGarbled ta (Tab.get [] s.tier.errs (ta / 64) ++ [(sy, BitVec.ofNat 8 e)])

/-- The controller rewrites a corrected block (R111). -/
def State.rewriteBlock (s : State) (ta : Nat) (d : Line) : State :=
  { s with tier := { s.tier with
    mem := Mem.writeN s.tier.mem (64 * (ta / 64)) (bvBytes 64 d), errs := Tab.del (ta / 64) s.tier.errs } }

/-- A corrected block is rewritten, at once where no host holds its granule or the access that read it has been granted the line; else the
host is back-invalidated first, and the rewrite waits for its response (R111, R457). -/
def State.correctBlock (s : State) (ta finder : Nat) (d : Line) : State :=
  let b := ta / 64
  if finder = 0 ∨ finder = 3 ∨ !s.tier.hostHeld.contains (s.heldKey ta) ∨ s.hdmPort.isNone then s.rewriteBlock ta d
  else if s.tier.backInv.any (fun e => e.2 == b) || s.tier.backQ.contains b then s
  else ({ s with tier := { s.tier with rewrites := b :: s.tier.rewrites.filter (· != b) } } : State).backInvalidate b

/-- The rewrites that waited for a block's back-invalidation happen (R111, R457). -/
def State.endRewrite (s : State) (b : Nat) : State :=
  let s1 : State := { s with tier := { s.tier with rewrites := s.tier.rewrites.filter (· != b) } }
  if !s.tier.rewrites.contains b then s
  else match s.tierEcc (64 * b) with
  | .correctable sy e => s1.rewriteBlock (64 * b) (s.tierDecoded (64 * b) sy e)
  | _ => s1

/-- A read of a tier block by a finder (0 streamer, 1 scrub, 2 host, 3 intake): the decoded data, whether it was uncorrectable, and the
state with its count, rewrite, record and event (R103, R111, R493, R499, R503). -/
def State.tierRead (s : State) (ta finder : Nat) : Line × Bool × State :=
  let ch := s.tierChannel ta
  let s0 := s.storeTouch ta false
  match s.tierEcc ta with
  | .clean => (s.tierGarbled ta (Tab.get [] s.tier.errs (ta / 64)), false, s0)
  | .correctable sy e =>
    let d := s.tierDecoded ta sy e
    (d, false, ({ s0 with tier := { s0.tier with
      corrected := Tab.put ch (satAdd 64 (Tab.get 0 s0.tier.corrected ch) 1) s0.tier.corrected } } : State).correctBlock ta finder d)
  | .uncorrectable =>
    let s1 := { s0 with tier := { s0.tier with
      uncorrectable := satAdd 64 s0.tier.uncorrectable 1, lastBad := (64 * (ta / 64), finder) } }
    (s.tierGarbled ta (Tab.get [] s.tier.errs (ta / 64)), true, s1.assertEvent (channelDie ch) (96 + ch % 32))

/-- A write of a tier block with valid check bytes, or inverted ones for poisoned data (R112, R113, R456). -/
def State.tierWrite (s : State) (ta : Nat) (d : Line) (poison : Bool) : State :=
  let b := ta / 64
  let s0 := s.storeTouch ta true
  { s0 with tier := { s0.tier with
      mem := Mem.writeN s0.tier.mem (64 * b) (bvBytes 64 d), errs := Tab.del b s0.tier.errs
      inverted := if poison then b :: s0.tier.inverted.filter (· != b) else s0.tier.inverted.filter (· != b) } }

/-- A device-side access asks for a tier line: granted, or the line of a host-held granule is back-invalidated first and the
access waits (R457). -/
def State.tierClaim (s : State) (ta : Nat) : Bool × State :=
  let b := ta / 64
  if !s.tier.usable then (false, s)
  else if !s.tier.hostHeld.contains (s.heldKey ta) || s.hdmPort.isNone then (true, s)
  else if s.tier.answered.contains b then (true, { s with tier := { s.tier with answered := s.tier.answered.filter (· != b) } })
  else (false, s.backInvalidate b)

/-- A device-side write of a whole tier line: a host-held line is back-invalidated, and what its response brings counts no more
(R457). -/
def State.tierStore (s : State) (ta : Nat) (d : Line) : State :=
  let b := ta / 64
  let s1 := if s.tier.hostHeld.contains (s.heldKey ta) && s.hdmPort.isSome then
      ({ s with tier := { s.tier with superseded := b :: s.tier.superseded.filter (· != b) } } : State).backInvalidate b
    else s
  s1.tierWrite ta d false

/-- Claim every line of a range; the first that must wait decides. -/
def State.tierClaims (s : State) : List Nat → Bool × State
  | [] => (true, s)
  | ta :: t =>
    let r := s.tierClaim ta
    let u := State.tierClaims r.2 t
    (r.1 && u.1, u.2)

/-- Tier region of a slot in bytes: base and size (R109). -/
def Ctx.tierRange (x : Ctx) : Option (Nat × Nat) := x.tierRegion.map fun r => (r.2 * 2 ^ 30, r.1 * 2 ^ 30)

/-- The slot whose tier region holds a tier address (R456). -/
def State.tierSlot (s : State) (ta : Nat) : Option Nat :=
  (List.range 4).find? fun k => match (s.ctx k).tierRange with
    | some r => decide (r.1 ≤ ta) && decide (ta < r.1 + r.2)
    | none => false

end Sys2Proof.Machine
end

