-- ==== Sys2Proof/Machine/StepOps.lean ====
section
/-! DEFINITION. Step closure and step reports (R21, R268, R269, R321), fold intervals (R596), the stop of a context (R183,
R300, R422, R433). -/

namespace Sys2Proof.Machine

/-- The link, a port's receive side or a core router output, from which an entry's flit first comes, followed back through the
tables of a set. -/
def sourceLink (w : Nat) (ts : List OutTab) : Nat → Nat → Ent → Nat
  | 0, out, _ => out
  | n + 1, out, e => match supplier w out e.inp with
    | none => out
    | some l =>
      if l ≥ 0x10000 then l
      else match (ts.find? (·.out == l)).bind fun t => t.ents[e.ipos]? with
        | some e' => sourceLink w ts n l e'
        | none => l

/-- The cores with an eject entry, in any set, supplied through a port (R321). -/
def State.portCores (s : State) (p : Nat) : List Nat :=
  match s.prog with
  | none => []
  | some (b, m, _) =>
    ((List.range (Img.nset b m)).flatMap fun st =>
      let ts := Img.tabs b m st
      ts.filterMap fun t =>
        if outKind t.out = 0 ∧ t.out % 8 = 4 ∧ t.ents.any (fun e => sourceLink s.width ts 200 t.out e == rxLink p)
        then some (t.out / 8) else none).eraseDups

/-- The lowest step of the cores fed through a port, as its STEP message reports it (R321). -/
def State.portStep (s : State) (p : Nat) : Option Nat := lowestTally ((s.portCores p).map fun n => (s.core n).tally)

/-- A core has begun a step: its reports leave (R268, R321). -/
def State.sendReports (s : State) (n : Nat) : State :=
  let t := (s.core n).tally
  let s1 := { s with fab := { s.fab with reports := Tab.put n (t + 1) s.fab.reports } }
  (List.range 32).foldl (fun s p =>
    if (s.portCores p).contains n then
      match s.portStep p with
      | some v => if v = t then s.modPort p fun q => { q with stepMsg := some (v % 65536) } else s
      | none => s
    else s) s1

/-- Every inbound flow's flits of the step have arrived (R21, R267). -/
def State.arrivedAll (s : State) (n : Nat) : Bool :=
  let c := s.core n
  let ts := s.tabs c.desc
  ((ejectEnts ts n).map (·.flow)).eraseDups.all fun f =>
    decide (inFlits ts n f ≤ Tab.get 0 c.arrived (1024 * (c.tally % 8) + f))

/-- Descriptor of the step after the core's present one. -/
def State.nextDesc (s : State) (n : Nat) : Nat :=
  match s.prog with | some (b, _, _) => Img.next b (s.core n).desc | none => lastDesc

/-- A report, one more than a step begun, is of the step before a tally or of a later one; of tally 0 none is needed (R15, R21). -/
def reportOk (r tally : Nat) : Bool := tally == 0 || (r != 0 && atOrAfter 48 r tally)

/-- Every receiver of the next step's outbound flows has begun the step before the present one (R21, R269). -/
def State.credits (s : State) (n : Nat) : Bool :=
  let c := s.core n
  let d := s.nextDesc n
  if d = lastDesc then true
  else
    let ts := s.tabs d
    (flowsOf ts n).all fun f => (flowReceivers s.width ts n f).all fun r =>
      reportOk (Tab.get 0 c.reports (65536 * f + r)) c.tally || (0x8000 ≤ r && (s.port (r % 32)).drain)

/-- The DUE of the core's last owned position of the step has passed (R274). -/
def State.duePassed (s : State) (n : Nat) : Bool :=
  let c := s.core n
  let ts := s.tabs c.desc
  let dues := ts.flatMap fun t => if outKind t.out = 0 ∧ t.out / 8 = n ∧ t.out % 8 < 4
    then (t.ents.filter (·.inp == 4)).map (·.aux) else []
  match c.stepStart with
  | some t => dues.all fun d => decide (t + d < s.now)
  | none => false

/-- The present step of a core meets R21, or R274 for a core that steps without issuing, whose step lasts LENGTH too (R393). -/
def State.closed (s : State) (n : Nat) : Bool :=
  match (s.core n).run with
  | .run => (s.core n).ended && s.arrivedAll n && s.credits n
  | .silent => s.credits n && s.duePassed n && s.lengthPassed n
  | .idle => false

/-- The present step names a fold. -/
def State.foldNamed (s : State) (n : Nat) : Option Nat :=
  match s.prog with
  | some (b, _, _) => let f := Img.foldOf b (s.core n).desc; if f = 0xFFFF then none else some f
  | none => none

/-- The SYNC gate keeps a core that issues from its next step (R385, R386). -/
def State.gated (s : State) (n : Nat) : Bool :=
  s.time.gate == 1 && s.time.st == .ref && (s.core n).run == .run
    && (match (s.core n).gate with | some k => decide (s.time.gateEdge ≤ k) | none => true)

/-- Open the next step at a core (R20, R21, R183, R268). -/
def State.openStep (s : State) (n : Nat) : State :=
  let d := s.nextDesc n
  let s1 := s.modCore n fun c =>
    let t := (c.tally + 1) % 2 ^ 48
    { c with tally := t, desc := d, stepLive := 0, stepStart := if c.run == .silent then some s.now else none, prevStart := c.stepStart
             ended := false, overrun := 0, overrunStep := false, satSeen := false, taken := [], foldIssued := false, foldSent := false, foldDone := false
             gate := none, holds := c.holds.filter (fun h => h.2.2 != 6)
             arrived := c.arrived.filter (fun a => a.1 / 1024 != (t + 3) % 8)
             marks := c.marks.filter fun k => decide (wrapDiff 8 (t % 256) (k.1 / 1024) < 3) }
  s1.sendReports n

/-- Descriptor of the module's lowest step. -/
def State.lowDesc (s : State) : Nat :=
  match s.activeCores.find? fun n => (s.core n).tally == s.moduleTally with
  | some n => (s.core n).desc
  | none => 0

/-- The first fold at or after tally `lo` of the chain from a descriptor on, with its tally (R183). -/
def Img.foldAhead (b : Bytes) (lo : Nat) : Nat → Nat → Nat → Option (Nat × Nat)
  | 0, _, _ => none
  | k + 1, d, t =>
    if Img.foldOf b d ≠ 0xFFFF ∧ atOrAfter 48 t lo = true then some (Img.foldOf b d, t)
    else if Img.next b d = lastDesc then none else Img.foldAhead b lo k (Img.next b d) (laterTally t 1)

/-- The fold that the fold unit works on, with its tally: the first from the module's lowest step on whose outcome has not
reached every core (R277, R279). -/
def State.foldNow (s : State) : Option (Nat × Nat) :=
  let lo := match s.fab.fold.last with | some m => laterTally m.tally 1 | none => s.moduleTally
  match s.prog with
  | some (b, _, _) => Img.foldAhead b lo (Img.ndesc b + 1) s.lowDesc s.moduleTally
  | none => none

/-! Fold intervals (R596). -/

/-- The records and counts that the module keeps per fold interval start afresh (R282, R317, R394, R499, R596). -/
def State.freshModule (s : State) : State :=
  { s with
    ports := Tab.map (fun _ p => { p with foreignFirst := 0, badKind := 0 }) s.ports
    diag := { s.diag with hostWrites := 0, memWrites := 0, strayStatus := pushRecent 16 (List.replicate 24 0) s.diag.strayStatus } }

/-- What a core keeps per fold interval starts afresh (R244, R394, R521, R596). -/
def Core.fresh (c : Core) : Core := { c with poison := none, statusSeen := false, strayCount := (0, 0) }

/-- A fold interval opens at a context start or stop: no fold-failing condition is kept (R35, R596). -/
def State.freshInterval (s : State) : State :=
  ({ s with cores := Tab.map (fun _ c => { c.fresh with failing := [] }) s.cores } : State).freshModule

/-- The module's counts of R394 are kept at a fold of the running context. -/
def State.keepCounts (s : State) (fold tally : Nat) : State :=
  let r := leBytes 2 fold ++ leBytes 6 tally ++ leBytes 4 s.diag.hostWrites ++ leBytes 4 s.diag.memWrites
  { s with diag := { s.diag with foldRecs := pushRecent 16 r s.diag.foldRecs } }

/-- A core's counts of R394 are kept at a fold. -/
def Core.keepCount (c : Core) : Core := { c with strayHist := pushRecent 16 c.strayCount c.strayHist }

/-! The stop of a context. -/

/-- A core leaves its context: nothing more issues, its stray tables and reorder store are empty, what is in flight
lands no more (R178 lands it before), and its position is kept (R71, R300). -/
def Core.leave (c : Core) : Core :=
  { c with run := .idle, holds := [], hostHold := none, hurdles := [], heldSteps := [], flights := [], resv := [], busy := [], queue := []
           target := [], fetchPoison := [], issued := [], cleared := false, shadow := none, staging := [], staged := [], taken := []
           marks := [], arrived := [], reports := [], sendSeq := [], recvSeq := [], stopping := false, stepStart := none, prevStart := none
           reorder := [], work := c.work.filter fun w => decide (2048 ≤ w.req.src)
           ended := false, gate := none, foldIssued := false, foldSent := false, foldDone := false }

/-- What the write of an inbound line does; nothing in keeper mode (R96, R99, R100, R111, R273, R527). -/
def State.writeInbound (s : State) (core : Nat) (x : Inbound) : State :=
  let c := s.core core
  let slot := s.runSlot.getD 0
  if s.pw.keeper then s
  else if c.isKind slot x.line (if x.landing then 3 else 2) then
    let set := c.fill.contains x.line
    let c1 := { c.writeLine x.line x.data with
      banks := bankOf x.line :: c.banks, fill := if set then c.fill else x.line :: c.fill }
    let s1 := s.setCore core (if x.null then c1.failed 5 core else c1)
    let s2 := if x.poison then s1.poisonAt core (64 * x.line) 4 0 else s1
    if set then s2.faultOutside core 19 else s2
  else s.faultOutside core 5

/-- Everything in flight at a core lands, as its latency would have it, before the core leaves (R178, R524). -/
def State.landAll (s : State) (n : Nat) : Nat → State
  | 0 => s
  | k + 1 => if (s.core n).flights.isEmpty then s
    else State.landAll ((s.settle n).modCore n fun c => { c with live := c.live + 1 }) n k

/-- What is in flight at a core lands and its inbound lines are written (R87, R178, R267, R524). -/
def State.drainCore (s : State) (n : Nat) : State :=
  let s1 := s.landAll n 200
  (s1.core n).inbound.foldl (fun s x => s.writeInbound n x) (s1.modCore n fun c => { c with inbound := [] })

/-- The fabric as a context start and a context stop leave it: every output at the given step and descriptor, buffers empty. -/
def Fabric.fresh (f : Fabric) (step desc : Nat) : Fabric :=
  { outs := f.outs.map fun o => (o.1, { step, desc }), ins := f.ins.map fun i => (i.1, { step, desc })
    fold := {}, reports := [] }

/-- Fields of a queued KV request (R432): 1 RESET, 2 SPILL. -/
abbrev KvReq := Nat × Nat × Nat × Nat

/-- The tier writes of a SPILL of one stream: committed rows from TOFF (R432, R457). -/
def State.spill (s : State) (slot core kvs toff : Nat) : State :=
  let x := s.ctx slot
  let d := x.kvDesc core kvs
  match x.tierRange with
  | none => s
  | some r => (List.range (4 * d.commit)).foldl
      (fun s k => s.tierStore (r.1 + toff + 64 * k) ((s.core core).readLine (d.base + k))) s

/-- COMMIT and APPEND of a stream become zero (R432). -/
def Ctx.kvZero (x : Ctx) (core kvs : Nat) : Ctx :=
  { x with kv := Tab.put (16 * core + kvs) { x.kvDesc core kvs with commit := 0, append := 0 } x.kv }

/-- Apply one KV request (R432). -/
def State.applyKv (s : State) (slot : Nat) (q : KvReq) : State :=
  let cores := if q.2.2.1 = 0xFFFF then ((s.ctx slot).kv.filter fun e => e.1 % 16 == q.2.1 && e.2.cap != 0).map (·.1 / 16) else [q.2.2.1]
  cores.foldl (fun s c => (if q.1 = 2 then s.spill slot c q.2.1 q.2.2.2 else s).modCtx slot fun x => x.kvZero c q.2.1) s

/-- Apply a slot's queued KV requests in write order (R433). -/
def State.applyKvQueue (s : State) (slot : Nat) : State :=
  ((s.ctx slot).kvQueue.foldl (fun s q => s.applyKv slot q) s).modCtx slot fun x => { x with kvQueue := [] }

/-- The running context leaves the cores with a new state for its slot and the tally and descriptor at which it left: stream
positions kept, streamer cancelled, queued KV requests applied, a fold interval opened (R19, R68, R71, R387, R422, R433, R596). -/
def State.stopCtx (s : State) (slot : Nat) (st : CtxSt) (tally desc : Nat) : State :=
  let s1 := s.activeCores.foldl State.drainCore s
  let keep := (s1.activeCores.map fun n => (n, (s1.core n).pc))
  let s2 := (s1.cancelStreamer slot true).modCtx slot fun x => { x with tally, desc, pcs := keep }
  let s3 := { s2 with cores := Tab.map (fun _ c => c.leave) s2.cores, fab := s2.fab.fresh 0 0
                      ports := Tab.map (fun _ p => { p with drain := false }) s2.ports
                      diag := { s2.diag with lastSlot := some slot } }
  ((s3.ctxState slot st).freshInterval).applyKvQueue slot

end Sys2Proof.Machine
end

