-- ==== Sys2Proof/Machine/DroveOps.lean ====
section
/-! DEFINITION. Operations of the drove fabric and of the fold unit (R250 to R281, R597, R602). -/

namespace Sys2Proof.Machine

/-! Outputs and inputs of a step. -/

/-- The tally that an output may reach: three steps ahead of the core, or of the module for an I/O die (R253); without limit
in keeper mode (R276). -/
def State.outLimit (s : State) (out : Nat) (step : Nat) : Nat :=
  laterTally (if s.pw.keeper then step else if outKind out = 0 then (s.core (out / 8)).tally else s.moduleTally) 3

/-- An output whose step has no further position goes on to the next step; the HOLDs sent or forwarded for later steps stay known (R253,
R263). -/
def advanceOut (b : Bytes) (m out limit : Nat) : Nat → OutSt → OutSt
  | 0, o => o
  | k + 1, o =>
    if (Img.ents b m o.desc out).length ≤ o.pos ∧ isAfter 48 limit o.step = true ∧ Img.next b o.desc ≠ lastDesc then
      advanceOut b m out limit k { step := laterTally o.step 1, desc := Img.next b o.desc, pos := 0, holdQ := o.holdQ
                                   held := o.held.filter fun h => isAfter 48 h.step o.step }
    else o

/-- An output as last departed. -/
def State.rawOut (s : State) (out : Nat) : OutSt := Tab.get {} s.fab.outs out
/-- An input as last received. -/
def State.rawIn (s : State) (link : Nat) : InSt := Tab.get {} s.fab.ins link

/-- An output at its next position. -/
def State.outSt (s : State) (out : Nat) : OutSt :=
  let o := s.rawOut out
  match s.prog with
  | some (b, m, _) => let l := s.outLimit out o.step; advanceOut b m out l ((stepsAhead l o.step).getD 0) o
  | none => o

/-- Positions on a link in the step of a descriptor: those of the output that feeds it; for a port, the peer's output (R258,
R259). -/
def linkCount (b : Bytes) (m link desc : Nat) : Nat :=
  if 0x10000 ≤ link then (Img.ents b (Img.pmod b m (link % 32)) desc (portOut (Img.pport b m (link % 32)))).length
  else (Img.ents b m desc link).length

/-- An input whose step has no further position goes on to the next step. -/
def advanceIn (b : Bytes) (m link limit : Nat) : Nat → InSt → InSt
  | 0, i => i
  | k + 1, i =>
    if linkCount b m link i.desc ≤ i.pos ∧ isAfter 48 limit i.step = true ∧ Img.next b i.desc ≠ lastDesc then
      advanceIn b m link limit k { i with step := laterTally i.step 1, desc := Img.next b i.desc, pos := 0, gen := 0 }
    else i

/-- The highest tally among the cores. -/
def State.topTally (s : State) : Nat := (highestTally (s.activeCores.map fun n => (s.core n).tally)).getD 0

/-- An input at the position it expects next (R255). -/
def State.inSt (s : State) (link : Nat) : InSt :=
  let i := s.rawIn link
  match s.prog with
  | some (b, m, _) => let l := laterTally s.topTally 4; advanceIn b m link l ((stepsAhead l i.step).getD 0) i
  | none => i

/-- Replace an output. -/
def State.setOut (s : State) (out : Nat) (o : OutSt) : State := { s with fab := { s.fab with outs := Tab.put out o s.fab.outs } }
/-- Replace an input. -/
def State.setIn (s : State) (link : Nat) (i : InSt) : State := { s with fab := { s.fab with ins := Tab.put link i s.fab.ins } }

/-- The entry of an output's next position. -/
def State.nextEnt (s : State) (out : Nat) : Option Ent :=
  match s.prog with
  | some (b, m, _) => let o := s.outSt out; (Img.ents b m o.desc out)[o.pos]?
  | none => none

/-- The position belongs to the local core of its router (R258, R261). -/
def isLocal (out : Nat) (e : Ent) : Bool := outKind out == 0 && out % 8 != 4 && e.inp == 4

/-! Sending from a core (R237, R238, R261, R274). -/

/-- The staged flit of an entry, still to leave on this output. -/
def Core.stagedFor (c : Core) (out step : Nat) (e : Ent) : Option Staged :=
  c.staged.find? fun x => x.flow == e.flow && x.ipos == e.ipos && x.step == step && !x.gone.contains out

/-- The position has fallen due (R261). -/
def Core.isDue (c : Core) (now step : Nat) (e : Ent) : Bool :=
  if c.tally = step then c.stepStart.any fun t => decide (t + e.aux ≤ now)
  else if c.tally = laterTally step 1 then c.prevStart.all fun t => decide (t + e.aux ≤ now)
  else isAfter 48 c.tally step

/-! Routers that are stopped or unpowered (R527). -/

/-- The node behind an output: a core, or 4,096 and the I/O die (R250, R257). -/
def State.nodeBehind (s : State) (out : Nat) : Nat :=
  if outKind out = 0 then
    let n := out / 8
    let d := out % 8
    if d = 0 then n + 1 else if d = 1 then n - 1
    else if d = 2 then (if n / s.width = 63 then 4097 else n + s.width)
    else (if n / s.width = 0 then 4096 else n - s.width)
  else let die := (out % 64) / 32; (if die = 0 then 0 else 63 * s.width) + out % 32

/-- In keeper mode the router of a node is stopped or unpowered: its die's rail is off, or its die's PLL has lost lock (R527; DEDUCED, log
29). -/
def State.nodeDark (s : State) (node : Nat) : Bool :=
  s.pw.keeper && (if node < 4096 then s.pw.railsOff.contains (14 + s.dieOf node) || s.pw.pllLost.contains (s.dieOf node)
    else s.pw.railsOff.contains (4 + (node - 4096)))

/-- The output stands on a stopped or unpowered router: it departs nothing (R527). A port's output is stopped by its port. -/
def State.outDark (s : State) (out : Nat) : Bool :=
  if outKind out = 0 then s.nodeDark (out / 8) else if outKind out = 3 then s.nodeDark (4096 + (out % 64) / 32) else false

/-- The link comes from a stopped or unpowered router, or from the fold unit of an unpowered IOD0 (R250, R527). A port's receive side drains
instead (R347). -/
def State.linkDark (s : State) (link : Nat) : Bool :=
  if link = foldLink then s.nodeDark 4096 else decide (link < 0x10000) && s.outDark link

/-- The output leads to a stopped or unpowered router, where flits are lost (R527). -/
def State.leadsDark (s : State) (out : Nat) : Bool :=
  if (outKind out = 0 ∧ out % 8 < 4) ∨ outKind out = 3 then s.nodeDark (s.nodeBehind out) else false

/-- The flit that an output's entry finds present: kind and payload; a NULL where the position's path crosses a stopped or unpowered
router (R251, R261, R274, R276, R280, R527). -/
def State.flitAt (s : State) (out : Nat) (o : OutSt) (e : Ent) : Option (Nat × Block) :=
  if s.outDark out then none
  else if isLocal out e then
    let c := s.core (out / 8)
    match c.stagedFor out o.step e with
    | some { payload := some p, .. } => if c.isDue s.now o.step e then some (0, p) else none
    | _ => if s.pw.keeper || (c.run == .silent && c.isDue s.now o.step e) then some (4, 0) else none
  else match supplier s.width out e.inp with
    | none => none
    | some l =>
      if l = foldLink then
        if s.linkDark l then some (4, 0)
        else (s.fab.fold.tx.find? fun t => t.1 == out % 32).map fun t =>
          (t.2.1, bytesBv 2048 (leBytes 2 t.2.2.fold ++ leBytes 6 t.2.2.tally ++ leBytes 1 t.2.2.status ++ leBytes 1 t.2.2.reason
            ++ leBytes 2 t.2.2.fmod ++ leBytes 2 t.2.2.fsite ++ leBytes 2 t.2.2.nfail))
      else
        let i := s.rawIn l
        match i.buf.find? fun f => f.step == o.step && f.pos == e.ipos && !f.gone.contains out with
        | some f => some (f.kind, f.payload)
        | none => if s.linkDark l && !(i.wire.any fun f => f.step == o.step && f.pos == e.ipos) then some (4, 0) else none

/-- The receiving side of an output has room for its next flit; that of a stopped or unpowered router loses what it gets (R250, R251, R333,
R337, R347, R527). -/
def State.roomAfter (s : State) (out : Nat) (e : Ent) : Bool :=
  if outKind out = 0 ∧ out % 8 = 4 then
    let c := s.core (out / 8)
    e.inp != 4 && (c.run == .silent || s.pw.keeper || decide (c.inbound.length + 4 ≤ 32))
  else if outKind out = 1 then
    let p := s.port (out % 32)
    p.drain || (p.st == .active && p.replayAt.isNone && p.droveQ.isEmpty && decide (p.replay.length < 8212)
      && decide ((p.dSent + 1024 - p.dFreed % 1024) % 1024 < 160))
  else if outKind out = 2 then s.fab.fold.outcome.isNone
  else let i := s.rawIn out; s.leadsDark out || decide (i.wire.length + i.buf.length < bufSize s.width out)

/-! What leaves a buffer. -/

/-- A flit leaves a link's buffer when every output that takes it has departed it; a port's receive side then frees the credit
(R270, R337). -/
def State.takeBuffered (s : State) (link out step pos : Nat) : State :=
  let i := s.rawIn link
  let ts := match s.prog with
    | some (b, m, _) => takers s.width (Img.tabs b m (Img.slotSet b (s.rawOut out).desc)) link pos
    | none => []
  let buf := i.buf.map fun f => if f.step == step && f.pos == pos then { f with gone := out :: f.gone } else f
  let done := fun (f : DFlit) => f.step == step && f.pos == pos && ts.all fun t => f.gone.contains t.1
  let s1 := s.setIn link { i with buf := buf.filter fun f => !done f }
  if 0x10000 ≤ link ∧ buf.any done = true ∧ (s.port (link % 32)).drain = false then
    s1.modPort (link % 32) fun p => { p with rFreed := (p.rFreed + 1) % 1024, dHeld := p.dHeld - 1 }
  else s1

/-- A staged flit leaves the store when it has departed in every position that takes it (R237, R238, R271). -/
def State.takeStaged (s : State) (core out step : Nat) (e : Ent) : State :=
  let c := s.core core
  let all := match s.prog with
    | some (b, m, _) =>
      (flowEntries (Img.tabs b m (Img.slotSet b (s.rawOut out).desc)) core e.flow).filterMap fun (t : Nat × Nat × Ent) =>
        if t.2.2.ipos == e.ipos then some t.1 else none
    | none => []
  let st := c.staged.map fun x => if x.flow == e.flow && x.ipos == e.ipos && x.step == step then { x with gone := out :: x.gone } else x
  s.setCore core { c with staged := st.filter fun x =>
    !(x.flow == e.flow && x.ipos == e.ipos && x.step == step && all.all fun k => x.gone.contains k) }

/-- A flit leaves its source for an output. -/
def State.takeFlit (s : State) (out : Nat) (o : OutSt) (e : Ent) : State :=
  if isLocal out e then s.takeStaged (out / 8) out o.step e
  else match supplier s.width out e.inp with
    | none => s
    | some l =>
      if l = foldLink then
        { s with fab := { s.fab with fold := { s.fab.fold with tx := s.fab.fold.tx.eraseP fun t => t.1 == out % 32 } } }
      else s.takeBuffered l out o.step e.ipos

/-! HOLD flits (R262 to R266). -/

/-- A HOLD flit is discarded and counted (R263, R338). -/
def State.dropHold (s : State) : State := s.modDiag fun d => { d with holdDiscard := satAdd 64 d.holdDiscard 1 }

/-- A HOLD for an inbound flow at its core: marked unless the flow's last flit of the step was delivered (R263, R266). -/
def State.markHold (s : State) (core : Nat) (e : Ent) (h : HFlit) : State :=
  let c := s.core core
  let ts := s.tabs h.desc
  let key := 1024 * (h.step % 256) + e.flow
  if isAfter 48 c.tally h.step || decide (inFlits ts core e.flow ≤ Tab.get 0 c.arrived (1024 * (h.step % 8) + e.flow)) then s.dropHold
  else if c.marks.any (fun k => k.1 == key) then s
  else s.setCore core { c with marks := (key, h.cause, h.omod, h.osite) :: c.marks }

/-- The HOLD is for a position of a step. -/
def HFlit.isFor (h : HFlit) (step pos : Nat) : Bool := h.step == step && h.pos == pos

/-- A HOLD arrives at an output for one of its positions (R263, R266). -/
def State.holdAt (s : State) (out : Nat) (h : HFlit) : State :=
  match s.prog with
  | none => s
  | some (b, m, _) =>
    match (Img.ents b m h.desc out)[h.pos]? with
    | none => s.dropHold
    | some e =>
      if outKind out = 0 ∧ out % 8 = 4 then s.markHold (out / 8) e h
      else if outKind out = 2 then s
      else
        let o := s.outSt out
        if 16 ≤ o.holdQ.length then match supplier s.width out e.inp with
          | some l => if 0x10000 ≤ l ∧ l < foldLink then
              s.modPort (l % 32) fun p => { p with holdDiscarded := satAdd 64 p.holdDiscarded 1 } else s.dropHold
          | none => s.dropHold
        else if isAfter 48 o.step h.step = true ∨ (h.step = o.step ∧ h.pos < o.pos)
            ∨ (o.held.any fun x => x.isFor h.step h.pos && x.cause != 0) = true then s.dropHold
        else s.setOut out { o with holdQ := o.holdQ ++ [h], held := h :: o.held }

/-- A cause as a receiver reads it: a reserved code is code 1 (R24). Code 0, which no port sends and R24's table does not list, is read as
a reserved code is (DESIGN CHOICE, log 38: the spec does not treat it). -/
def readCause (k : Nat) : Nat := if k = 0 ∨ 9 < k then 1 else k

/-- A HOLD that travels on a link goes to every output that takes its position (R263, R265). -/
def State.holdOnLink (s : State) (link : Nat) (h : HFlit) : State :=
  (takers s.width (s.tabs h.desc) link h.pos).foldl (fun s t => s.holdAt t.1 { h with pos := t.2 }) s

/-- Every output that takes a position of a link has room in its HOLD queue. -/
def State.holdRoom (s : State) (link : Nat) (h : HFlit) : Bool :=
  (takers s.width (s.tabs h.desc) link h.pos).all fun t =>
    (outKind t.1 == 0 && t.1 % 8 == 4) || outKind t.1 == 2 || decide ((s.rawOut t.1).holdQ.length < 16)

/-- An output sends a HOLD for a position of its own (R261, R264, R333). While its HOLD queue is full the HOLD is discarded and counted
as R263 has it of a received one (DESIGN CHOICE, log 38: R263 speaks of HOLD flits that an output receives). -/
def State.ownHold (s : State) (out pos cause omod osite : Nat) : State :=
  let o := s.outSt out
  let h : HFlit := { pen := s.pen.getD 0, cause, step := o.step, pos, omod, osite, desc := o.desc }
  if 16 ≤ o.holdQ.length then s.dropHold
  else s.setOut out { o with holdQ := o.holdQ ++ [h], held := h :: o.held.filter fun x => !x.isFor o.step pos }

/-- Data flits ready at an output behind a position whose flit is not there: each is held with that position's cause, or
counted as an unexplained block (R264). -/
def State.blockedAt (s : State) (out : Nat) : State :=
  match s.prog with
  | none => s
  | some (b, m, _) =>
    let o := s.outSt out
    let es := Img.ents b m o.desc out
    match es[o.pos]? with
    | none => s
    | some e0 =>
      if (s.flitAt out o e0).isSome then s
      else
        let late := (List.range es.length).filter fun i => decide (o.pos < i) && !(o.held.any fun x => x.isFor o.step i)
          && (match es[i]? with | some e => (match s.flitAt out o e with | some (0, _) => true | _ => false) | none => false)
        match o.held.find? fun x => x.isFor o.step o.pos && x.cause != 0 with
        | some h => late.foldl (fun s i => s.ownHold out i h.cause h.omod h.osite) s
        | none =>
          let n := late.length
          (s.setOut out { o with held := late.map (fun i => { pen := 0, cause := 0, step := o.step, pos := i, omod := 0, osite := 0 }) ++ o.held }).modDiag
            fun d => { d with unexplained := satAdd 64 d.unexplained n }

/-! Delivery to a core (R258, R266, R267, R273, R274, R276). -/

/-- The eject output of a core delivers a flit. -/
def State.ejectTo (s : State) (core step : Nat) (e : Ent) (ts : List OutTab) (kind : Nat) (p : Block) : State :=
  let c := s.core core
  let ak := 1024 * (step % 8) + e.flow
  let mk := 1024 * (step % 256) + e.flow
  let n := Tab.get 0 c.arrived ak + 1
  let mark := (c.marks.find? fun k => k.1 == mk).map fun k => k.2.1
  let c1 := { c with arrived := Tab.put ak n c.arrived, ejectedAt := some s.now
                     marks := if inFlits ts core e.flow ≤ n then c.marks.filter fun k => k.1 != mk else c.marks }
  if c.run == .silent || s.pw.keeper then s.setCore core c1
  else s.setCore core { c1 with inbound := c1.inbound ++ (List.range 4).map fun k =>
    { line := e.aux % 2 ^ 17 + k, data := lineOf p k, null := kind == 4 && k == 0, mark } }

/-! The fold unit (R279 to R281, R597, R602). -/

/-- Lowest failure by (FMOD, FSITE), and of one site the lowest REASON (R279, R523). -/
def lowestFailure (l : List Failure) : Option Failure :=
  l.foldl (fun (best : Option Failure) f => match best with
    | none => some f
    | some b => if f.fmod < b.fmod ∨ (f.fmod = b.fmod ∧ (f.fsite < b.fsite ∨ (f.fsite = b.fsite ∧ f.reason < b.reason)))
      then some f else some b) none

/-- This module's place in a fold's tree: PARENT (0x3F for the root) and CHILDREN (R277). -/
def State.foldPlace (s : State) (fold : Nat) : Nat × List Nat :=
  match s.prog with
  | some (b, m, _) => (Img.parent b m fold, Img.children b m fold)
  | none => (0x3F, [])

/-- Change the fold unit. -/
def State.modFold (s : State) (f : FoldUnit → FoldUnit) : State := { s with fab := { s.fab with fold := f s.fab.fold } }

/-- The failures of this module's own: cores, the unit itself, keeper mode (R276, R279, R523, R597). -/
def State.ownFailures (s : State) : List Failure :=
  (s.fab.fold.cores.filterMap (·.2)) ++ s.fab.fold.own
    ++ (if s.pw.keeper then [{ reason := 4, fmod := s.modNum, fsite := 0 }] else [])

/-- The module's arrival when it is complete (R279): failure and NFAIL. -/
def State.formArrival (s : State) : Option Failure × Nat :=
  let f := s.fab.fold
  let own := s.ownFailures
  let kids := f.children.filterMap (·.2.1)
  (lowestFailure (own ++ kids), min 0xFFFF ((if own.isEmpty then 0 else 1) + sumNat (f.children.map (·.2.2))))

/-- Every enabled core and every child port has arrived, or its failure stands for it (R279, R347, R597). -/
def State.allArrived (s : State) (fold : Nat) : Bool :=
  let f := s.fab.fold
  ((List.range s.nCores).all fun n => s.pw.keeper || f.cores.any (·.1 == n))
    && (s.foldPlace fold).2.all fun p => f.children.any (·.1 == p) || f.own.any fun x => x.fsite == 0x8000 + p

/-- The FOLD message of a failure or of success (R278). -/
def foldMsg (fold tally : Nat) (a : Option Failure × Nat) : FoldMsg :=
  match a.1 with
  | none => { fold, tally, status := 0, reason := 0, fmod := 0, fsite := 0, nfail := 0 }
  | some x => { fold, tally, status := 1, reason := x.reason, fmod := x.fmod, fsite := x.fsite, nfail := a.2 }

/-- FOLD_FAIL_REC of a failed outcome (R522). -/
def foldFailRec (m : FoldMsg) (own ctx : Nat) : Bytes :=
  leBytes 2 m.fold ++ leBytes 6 m.tally ++ leBytes 1 m.reason ++ leBytes 1 own ++ leBytes 2 m.fmod ++ leBytes 2 m.fsite
    ++ leBytes 2 m.nfail ++ leBytes 1 ctx ++ leBytes 7 0

/-- The switch that a good outcome of a switch-point fold takes, read from SWITCH_TO and SWITCH_ATTEMPT, or SWITCH_REFUSED after it
(R424). -/
def State.latchSwitch (s : State) (m : FoldMsg) : State :=
  match s.prog with
  | none => s
  | some (b, own, slot) =>
    let k := s.switchTo
    let last := match (s.activeCores.map s.core).find? fun (c : Core) => c.tally == m.tally with
      | some c => Img.next b c.desc == lastDesc
      | none => false
    let ready := k < 4 && ((s.ctx k).st == .loaded || (s.ctx k).st == .suspended)
    if !Img.isSwitch b own m.fold || k = 0xFF then s
    else if ready || (k = slot && !last) then
      s.modFold fun f => { f with handTo := some (k, s.switchAttempt) }
    else { s with switchRefused := satAdd 32 s.switchRefused 1 }

/-- An outcome reaches the fold unit: it is held, sent to the children, timed, recorded when failed; a switch is decided, and the
module's fold interval ends (R280, R347, R360, R384, R394, R424, R450, R522, R596). -/
def State.holdOutcome (s : State) (m : FoldMsg) : State :=
  if s.fab.fold.outcome.isSome then s
  else
    let own := match s.fab.fold.arrival with | some (some f, _) => f.reason | _ => 0
    let kids := (s.foldPlace m.fold).2
    let slot := s.runSlot.getD 0
    let s1 := s.modFold fun f => { f with outcome := some m, tx := f.tx ++ kids.map fun p => (p, 3, m) }
    let s2 := { s1 with
      time := { s1.time with foldTime := pushRecent 16 (m.fold, m.tally, s1.time.nt s1.stamp) s1.time.foldTime }
      ports := Tab.map (fun _ p => { p with drain := false }) s1.ports
      must := if s1.must.completed then { s1.must with completed := false, latest := none, ports := [] } else s1.must }
    let s3 := (s2.keepCounts m.fold m.tally).freshModule
    if m.status = 0 then (s3.modCtx slot fun x => { x with lastFold := some m.tally }).latchSwitch m
    else (s3.modDiag fun d => { d with foldFails := pushRecent 8 (foldFailRec m own slot) d.foldFails }).assertEvent 0 2

/-- A failed outcome of the module's own, naming its PARENT port (R597). -/
def State.parentFailed (s : State) (fold tally reason parent : Nat) : State :=
  match s.fab.fold.arrival with
  | none => s
  | some a =>
    let n := min 0xFFFF (a.2 + (if s.ownFailures.isEmpty then 1 else 0))
    s.holdOutcome { fold, tally, status := 1, reason, fmod := s.modNum, fsite := 0x8000 + parent, nfail := n }

/-- What the PARENT port brought before the arrival was formed takes effect: its outcome, or the failure of a NULL; or the failure of a
PARENT port that drains (R280, R347, R597). -/
def State.parentEarly (s : State) (fold tally parent : Nat) : State :=
  match s.fab.fold.early with
  | some (some m) => s.holdOutcome m
  | some none => s.parentFailed fold tally 5 parent
  | none => if (s.port parent).drain then s.parentFailed fold tally 2 parent else s

/-- The arrival is formed: the root takes it as the outcome, another module sends it as FOLD-UP, and carries out what its PARENT port has
brought already (R279, R280, R347, R597). -/
def State.sendArrival (s : State) (fold tally : Nat) : State :=
  let a := s.formArrival
  let parent := (s.foldPlace fold).1
  let s1 := s.modFold fun f => { f with arrival := some a }
  if parent = 0x3F then s1.holdOutcome (foldMsg fold tally a)
  else (s1.modFold fun f => { f with tx := f.tx ++ [(parent, 2, foldMsg fold tally a)] }).parentEarly fold tally parent

/-- What a received fold flit says: failed whenever STATUS is not 0; a STATUS above 1 and a reserved REASON of a failed flit
are counted (R602). -/
def State.readFold (s : State) (m : FoldMsg) : FoldMsg × State :=
  let odd := (if 1 < m.status then 1 else 0) + (if m.status ≠ 0 ∧ 8 < m.reason then 1 else 0)
  ({ m with status := if m.status = 0 then 0 else 1 }, s.modDiag fun d => { d with droveOrder := satAdd 64 d.droveOrder odd })

/-- A child's arrival (R279, R602); one that comes too late for its fold is read and goes no further (R281). It is taken for the fold in
progress whatever its FOLD and TALLY say (DESIGN CHOICE, log 39: the spec says nothing of a fold flit whose FOLD or TALLY differ). -/
def State.foldUp (s : State) (port : Nat) (m : FoldMsg) : State :=
  let r := s.readFold m
  match s.foldNow with
  | none => r.2
  | some (f, _) =>
    if s.fab.fold.outcome.isSome || !(s.foldPlace f).2.contains port || s.fab.fold.children.any (·.1 == port) || s.fab.fold.arrival.isSome
    then r.2
    else
      let x : Option Failure := if r.1.status = 0 then none else some { reason := r.1.reason, fmod := r.1.fmod, fsite := r.1.fsite }
      r.2.modFold fun u => { u with children := u.children ++ [(port, x, if r.1.status = 0 then 0 else r.1.nfail)] }

/-- The outcome from the parent; one that comes before the module's own arrival is formed waits for it (R280, R281, R602). One whose TALLY
is not that of the fold in progress is dropped (DESIGN CHOICE, log 39). -/
def State.foldDown (s : State) (port : Nat) (m : FoldMsg) : State :=
  let r := s.readFold m
  match s.foldNow with
  | none => r.2
  | some (f, t) =>
    if (s.foldPlace f).1 ≠ port ∨ m.tally ≠ t then r.2
    else if s.fab.fold.arrival = none then r.2.modFold fun u => { u with early := some (u.early.getD (some r.1)) }
    else r.2.holdOutcome r.1

/-- A NULL in the fold position of the PARENT port: the module's own failed outcome, once its arrival is formed (R597). -/
def State.parentNull (s : State) (fold tally parent : Nat) : State :=
  if s.fab.fold.arrival = none then s.modFold fun u => { u with early := some (u.early.getD none) }
  else s.parentFailed fold tally 5 parent

/-- The payload of a fold flit (R278). -/
def foldPayload (p : Block) : FoldMsg :=
  { fold := Block.field p 0 2, tally := Block.field p 2 6, status := Block.field p 8 1, reason := Block.field p 9 1, fmod := Block.field p 10 2
    fsite := Block.field p 12 2, nfail := Block.field p 14 2 }

/-- A flit of a fold position reaches the fold unit from a port: an arrival, an outcome, or a NULL (R280, R597). -/
def State.foldFlit (s : State) (port kind : Nat) (p : Block) : State :=
  if kind = 2 then s.foldUp port (foldPayload p)
  else if kind = 3 then s.foldDown port (foldPayload p)
  else match s.foldNow with
    | none => s
    | some (f, t) =>
      if (s.port port).drain then s
      else if (s.foldPlace f).1 = port then s.parentNull f t port
      else s.modFold fun u => { u with own := u.own ++ [{ reason := 5, fmod := s.modNum, fsite := 0x8000 + port }] }

/-! Departure. -/

/-- An output's oldest queued HOLD can leave in this slot time, ahead of any data flit (R263, R318, R347). -/
def State.holdReady (s : State) (out : Nat) : Bool :=
  match (s.outSt out).holdQ with
  | [] => false
  | h :: _ =>
    if outKind out = 1 then (s.port (out % 32)).drain || ((s.port (out % 32)).st == .active && (s.port (out % 32)).holdQ.isEmpty)
    else s.holdRoom out h

/-- A flit goes from an output to what the output feeds (R250, R255, R347). -/
def State.sendOn (s : State) (out : Nat) (o : OutSt) (e : Ent) (kind : Nat) (p : Block) : State :=
  match s.prog with
  | none => s
  | some (b, m, _) =>
    let f : DFlit := { pen := Img.pen b, kind, step := o.step, pos := o.pos, payload := p }
    if outKind out = 0 ∧ out % 8 = 4 then s.ejectTo (out / 8) o.step e (Img.tabs b m (Img.slotSet b o.desc)) kind p
    else if outKind out = 1 then
      if (s.port (out % 32)).drain then s else s.modPort (out % 32) fun q => { q with droveQ := q.droveQ ++ [f] }
    else if outKind out = 2 then s.foldFlit (e.inp % 32) kind p
    else let i := s.rawIn out; s.setIn out { i with wire := i.wire ++ [f] }

/-- The next position of an output departs when its flit is present, there is room and no HOLD flit goes first; otherwise blocked flits are
held (R251, R253, R263, R264). -/
def State.depart (s : State) (out : Nat) : State :=
  match s.nextEnt out with
  | none => s
  | some e =>
    let o := s.outSt out
    match s.flitAt out o e with
    | none => s.blockedAt out
    | some (k, p) =>
      if s.roomAfter out e && !s.holdReady out then
        let s1 := (s.setOut out o).takeFlit out o e
        let s2 := s1.setOut out { o with pos := o.pos + 1, held := o.held.filter fun x => !x.isFor o.step o.pos }
        s2.sendOn out o e k p
      else s

end Sys2Proof.Machine
end

