-- ==== Sys2Proof/Machine/StrayOps.lean ====
section
/-! DEFINITION. Operations of the stray network: packets as flits (R285 to R289), routing and deflection (R293 to R299), requests at
their destination (R290, R291, R300 to R305), responses at a core (R243, R244, R292, R302). -/

namespace Sys2Proof.Machine

/-! Packets. -/

/-- Data flits that a type carries; none for a reserved type (R289). -/
def Packet.ndi (p : Packet) : Nat := p.datas.length
/-- The request types (R289). -/
def Packet.isReq (p : Packet) : Bool := p.type == 1 || p.type == 2 || p.type == 3 || p.type == 4
/-- The response types (R289). -/
def Packet.isRsp (p : Packet) : Bool := p.type == 0x81 || p.type == 0x82 || p.type == 0x83
/-- A packet's channel, number of data flits and type agree, and only an agent sends a READ (R289). -/
def Packet.consistent (p : Packet) (ndi : Nat) : Bool :=
  (p.isReq && p.ch % 2 == 0 || p.isRsp && p.ch % 2 == 1)
    && (if p.type = 1 ∨ p.type = 0x83 then 1 ≤ ndi && ndi ≤ 4 else ndi == 0)
    && (p.type != 3 || decide (2048 ≤ p.src)) && (p.type != 0x83 || p.dag == 1)

/-- The tag of a head flit (R254, R286). -/
def Packet.headTag (p : Packet) : Nat :=
  p.pen * 2 ^ 48 + 2 ^ 47 + p.ch * 2 ^ 45 + 2 ^ 44 + p.age * 2 ^ 36 + p.ndi * 2 ^ 33 + p.dag * 2 ^ 32 + p.dest * 2 ^ 21 + p.dmod * 2 ^ 11
/-- The tag of data flit `i` (R286, R287). -/
def Packet.dataTag (p : Packet) (i : Nat) : Nat :=
  p.pen * 2 ^ 48 + 2 ^ 47 + p.ch * 2 ^ 45 + i * 2 ^ 33 + p.dag * 2 ^ 32 + p.dest * 2 ^ 21 + p.dmod * 2 ^ 11
/-- The header that a head flit's payload holds (R288). -/
def Packet.headPayload (p : Packet) : Block :=
  bytesBv 2048 (leBytes 2 p.smod ++ leBytes 2 p.src ++ leBytes 2 p.pseq ++ leBytes 1 p.rtag ++ leBytes 1 p.type ++ leBytes 4 p.addr
    ++ leBytes 2 p.status ++ leBytes 1 p.opx ++ leBytes 1 p.fep ++ leBytes 8 p.mask ++ leBytes 8 0 ++ bvBytes 64 p.inline)
/-- A packet's flits: tag and payload, head first (R285). -/
def Packet.flits (p : Packet) : List (Nat × Block) :=
  (p.headTag, p.headPayload) :: (List.range p.ndi).map fun i => (p.dataTag i, p.datas.getD i 0)
/-- A packet from its head flit (R286, R288). -/
def Packet.ofHead (tag : Nat) (b : Block) : Packet :=
  { pen := bits tag 63 48, ch := bits tag 46 45, age := bits tag 43 36, dag := bits tag 32 32, dest := bits tag 31 21
    dmod := bits tag 20 11, smod := Block.field b 0 2 % 1024, src := Block.field b 2 2 % 4096, pseq := Block.field b 4 2 % 1024
    rtag := Block.field b 6 1, type := Block.field b 7 1, addr := Block.field b 8 4 % 2 ^ 23, status := Block.field b 12 2
    opx := Block.field b 14 1, fep := Block.field b 15 1 % 4, mask := Block.field b 16 8, inline := b.extractLsb' 256 512 }

/-- The type of the response to a request (R289). -/
def rspType (t : Nat) : Nat := if t = 1 then 0x81 else if t = 2 then 0x82 else 0x83
/-- The line of an ATOMIC RESPONSE (R243). -/
def rspLine (status old : Nat) : Line := BitVec.ofNat 512 (old + status * 2 ^ 64)
/-- A response from the destination of a request (R288). -/
def Packet.response (q : Packet) (status : Nat) (line : Line) (datas : List Block) : Packet :=
  { pen := q.pen, ch := 1, dag := q.src / 2048, dest := q.src % 2048, dmod := q.smod, smod := q.dmod, src := 2048 * q.dag + q.dest
    pseq := q.pseq, rtag := q.rtag, type := rspType q.type, status, fep := q.fep, inline := line, datas }
/-- A synthetic response of STATUS 4 (R304, R306, R307). -/
def Packet.unknown (q : Packet) : Packet :=
  q.response 4 (if q.type = 2 then rspLine 4 0 else 0) (if q.type = 3 then List.replicate (ceilDiv (q.opx % 32) 4) 0 else [])
/-- The SKIP that stands for a lost request (R304, R306). -/
def Packet.skip (q : Packet) : Packet :=
  { pen := q.pen, ch := 0, dag := q.dag, dest := q.dest, dmod := q.dmod, smod := q.smod, src := q.src, pseq := q.pseq
    rtag := q.rtag, type := 4, fep := q.fep }

/-- Remove a packet from the network. -/
def State.dropPacket (s : State) (k : Nat) : State := { s with net := { s.net with packets := s.net.packets.filter (·.1 != k) } }

/-- Change one packet of the network. -/
def State.mapPacket (s : State) (k : Nat) (f : StrayAt → StrayAt) : State :=
  { s with net := { s.net with packets := s.net.packets.map fun e => if e.1 = k then (k, f e.2) else e } }

/-! Routing (R293 to R299). -/

/-- The running context's route entry toward a module: SIDE, ESCP, PROD (R294). -/
def State.route (s : State) (dmod : Nat) : Option (Nat × Nat × Nat) :=
  match s.runCtx with
  | some (_, x) => (x.routes.find? (·.1 == dmod)).map (·.2)
  | none => none

/-- Modules of the running pen; 0 when none runs. -/
def State.nmod (s : State) : Nat := match s.prog with | some (b, _, _) => Img.nmod b | none => 0
/-- I/O die of an agent (R284): the MC's requests enter the network at IOD0. -/
def agentDie (a : Nat) : Nat := if a = 1 then 1 else 0

/-- The packet's destination is in this module; what the module's own agents and cores exchange never leaves it (R284). -/
def State.isHere (s : State) (p : Packet) : Bool := p.dmod == s.modNum || ((2048 ≤ p.src || p.dag == 1) && p.smod == p.dmod)

/-- Outputs on the way from core (x, y) toward (dx, dy) in a mesh of width `w`. -/
def meshOuts (w n d : Nat) : List Nat :=
  (if n % w < d % w then [routerOut n 0] else if d % w < n % w then [routerOut n 1] else [])
    ++ (if n / w < d / w then [routerOut n 2] else if d / w < n / w then [routerOut n 3] else [])

/-- The port is one that a stray of the pen may cross (R283, R297). -/
def State.strayPort (s : State) (q : Nat) : Bool :=
  match s.runCtx with | some (_, x) => x.routes.any fun r => bit r.2.2.2 q | none => false

/-- Productive outputs of a packet at a core router or I/O die; the eject output at its destination (R294). The table gives no row for a
packet whose destination is an agent: at a core it goes in Y toward the agent's I/O die, and at the other I/O die into any column (DESIGN
CHOICE, log 40). -/
def State.productiveOuts (s : State) (node : Nat) (p : Packet) : List Nat :=
  let here := s.isHere p
  if node < 4096 then
    if here && p.dag == 0 then (if p.dest = node then [routerOut node 4] else meshOuts s.width node p.dest)
    else if here then [routerOut node (if agentDie p.dest = 0 then 3 else 2)]
    else match s.route p.dmod with
      | some r => [routerOut node (if r.1 = 0 then 3 else 2)]
      | none => []
  else
    let die := node - 4096
    if here && p.dag == 0 then [edgeOut die (p.dest % s.width)]
    else if here then (List.range s.width).map (edgeOut die)
    else match s.route p.dmod with
      | some r => ((List.range 32).filter fun q => bit r.2.2 q && q / 16 == die).map portOut
      | none => []

/-- The one output of the escape route (R299), with the change that R347 makes for a port that drains: the lowest other productive port,
else any port of the pen that is not draining. Where SIDE names one I/O die and ESCP is a port of the other, the packet departs on that
port from the die that SIDE names (DESIGN CHOICE, log 40: the spec does not say how it gets to the other die). -/
def State.escapeOuts (s : State) (node : Nat) (p : Packet) : List Nat :=
  let here := s.isHere p
  if node < 4096 then
    if here && p.dag == 0 then (if p.dest = node then [routerOut node 4] else (meshOuts s.width node p.dest).take 1)
    else s.productiveOuts node p
  else if here then (s.productiveOuts node p).take 1
  else match s.route p.dmod with
    | some r =>
      if !(s.port r.2.1).drain then [portOut r.2.1]
      else
        let up := (List.range 32).filter fun q => !(s.port q).drain && s.strayPort q
        match up.filter fun q => bit r.2.2 q && q / 16 == node - 4096 with
        | q :: _ => [portOut q]
        | [] => (up.filter fun q => q / 16 == node - 4096).map portOut
    | none => []

/-- The pool that pays for a packet's crossing of a port: escape buffers count only in pens of more than 64 modules (R298,
R336). -/
def State.pool (s : State) (ch : Nat) : Nat := if 64 < s.nmod then ch else ch % 2

/-- A drove or HOLD flit departs on the output in this slot time (R252, R263). -/
def State.droveNow (s : State) (out : Nat) : Bool :=
  s.holdReady out || match s.nextEnt out with
    | some e => (s.flitAt out (s.outSt out) e).isSome && s.roomAfter out e
    | none => false

/-- A stray output is available in this slot time for a packet of a channel (R252, R285, R291, R293, R297, R333, R337). -/
def State.strayFree (s : State) (out ch : Nat) (req : Bool) : Bool :=
  let drove := s.droveNow out || s.net.sending.any fun x => x.out == out
  if outKind out = 1 then
    let p := s.port (out % 32)
    let k := s.pool ch
    !drove && s.strayPort (out % 32) && p.st == .active && !p.drain && p.strayQ.isEmpty && p.replayAt.isNone
      && decide (p.replay.length < 8212) && decide ((Tab.get 0 p.sSent k + 4 - Tab.get 0 p.sFreed k % 4) % 4 < 2)
  else if outKind out = 0 ∧ out % 8 = 4 then
    let q := (s.core (out / 8)).ejectQ
    !drove && decide (q.length < 8) && (!req || decide ((q.filter Packet.isReq).length < 6))
  else !drove && !(s.net.packets.any fun e => e.2.via == out + 1 && e.2.packet.ch == ch)

/-- Outputs that a packet may be deflected to: any of the router's but eject; at an I/O die the mesh edges, and the pen's ports
only in a large pen, below AGE 64 (R295, R297). -/
def State.deflectOuts (s : State) (node : Nat) (p : Packet) : List Nat :=
  if node < 4096 then
    let x := node % s.width
    (if x + 1 < s.width then [routerOut node 0] else []) ++ (if 0 < x then [routerOut node 1] else [])
      ++ [routerOut node 2, routerOut node 3]
  else
    let edges := (List.range s.width).map (edgeOut (node - 4096))
    let ports := ((List.range 32).filter fun q => q / 16 == node - 4096 && s.strayPort q).map portOut
    if 64 < s.nmod ∧ p.age < 64 ∧ (edges.all fun o => !s.strayFree o p.ch p.isReq) = true then ports else edges

/-- The next choice among alternatives that the spec leaves open. -/
def State.choose (s : State) (l : List Nat) : Option Nat × State :=
  (l[Config.choice s.free % l.length]?, { s with free := s.free + 1 })

/-- Where a packet departs to, if anywhere, and whether that deflects it (R295, R298). -/
def State.strayWay (s : State) (node : Nat) (p : Packet) (used : List Nat) : Option (Nat × Bool) × State :=
  let ch := if 64 ≤ p.age ∧ p.ch < 2 then p.ch + 2 else p.ch
  let free := fun o => !used.contains o && s.strayFree o ch p.isReq
  let good := ((if 2 ≤ ch then s.escapeOuts node p else s.productiveOuts node p).filter fun o => !(p.bounced && outKind o == 0 && o % 8 == 4)).filter free
  match good with
  | [o] => (some (o, p.bounced), s)
  | [] =>
    if 2 ≤ ch ∧ p.bounced = false then (none, s)
    else match (s.deflectOuts node p).filter free with
      | [] => (none, s)
      | l => let r := s.choose l; (r.1.map fun o => (o, true), r.2)
  | l => let r := s.choose l; (r.1.map fun o => (o, p.bounced), r.2)

/-- A packet enters the ejection queue of its destination (R89, R291). -/
def State.ejectPacket (s : State) (core : Nat) (k : Nat) (p : Packet) : State :=
  (s.dropPacket k).modCore core fun c => { c with
    ejectQ := c.ejectQ ++ [{ p with bounced := false }]
    hostWaiting := if p.isReq && 2048 ≤ p.src then c.hostWaiting ++ [(p.srcKey, p.pseq)] else c.hostWaiting }

/-- A packet has departed on an output: its AGE rises when deflected, its channel changes on escape (R295, R296, R298). -/
def State.strayDepart (s : State) (k : Nat) (a : StrayAt) (out : Nat) (deflected : Bool) : State :=
  let p0 := a.packet
  let p : Packet := { p0 with
    age := if deflected then min 255 (p0.age + 1) else p0.age
    ch := if 64 ≤ p0.age ∧ p0.ch < 2 then p0.ch + 2 else p0.ch, bounced := false }
  if outKind out = 0 ∧ out % 8 = 4 then s.ejectPacket (out / 8) k p
  else if outKind out = 1 then
    let pool := s.pool p.ch
    (s.dropPacket k).modPort (out % 32) fun q => { q with
      strayQ := q.strayQ ++ p.flits, sSent := Tab.put pool ((Tab.get 0 q.sSent pool + 1) % 4) q.sSent }
  else
    s.mapPacket k fun _ => { node := s.nodeBehind out, packet := p, via := out + 1 }

/-- The packet travels on escape from its next departure on (R298). -/
def Packet.escapes (p : Packet) : Bool := decide (64 ≤ p.age) || decide (2 ≤ p.ch)

/-- Number of the input that holds a packet at its node, as IN numbers inputs; the injection buffer comes last (R259, R295). -/
def State.inputNo (s : State) (node : Nat) (a : StrayAt) : Nat :=
  if a.injected then 128
  else if 0x10000 ≤ a.via then 0x40 + a.via % 32
  else if 4096 ≤ node then 0x20 + (a.via - 1) / 8 % s.width
  else ((List.range 4).find? fun i => supplier s.width (routerOut node 0) i == some (a.via - 1)).getD 127

/-- A packet's place in the service of its node: by AGE, then by input number; escape packets, which are the oldest, by the round-robin of
their output (R295, R299). -/
def State.serveKey (s : State) (node : Nat) (a : StrayAt) : Nat × Nat × Nat :=
  let i := s.inputNo node a
  if a.packet.escapes then
    let last := match s.escapeOuts node a.packet with | o :: _ => Tab.get 128 s.net.served o | [] => 128
    (0, (i + 128 - last) % 129, a.packet.ch)
  else (256 - a.packet.age, i, a.packet.ch)

/-- One place comes before another. -/
def keyBefore (a b : Nat × Nat × Nat) : Bool :=
  decide (a.1 < b.1) || (a.1 == b.1 && (decide (a.2.1 < b.2.1) || (a.2.1 == b.2.1 && decide (a.2.2 ≤ b.2.2))))
/-- Insert into the service order. -/
def State.serveInsert (s : State) (node : Nat) (a : Nat × StrayAt) : List (Nat × StrayAt) → List (Nat × StrayAt)
  | [] => [a]
  | b :: t => if keyBefore (s.serveKey node a.2) (s.serveKey node b.2) then a :: b :: t else b :: s.serveInsert node a t
/-- A node's packets in service order (R295, R299). -/
def State.serveOrder (s : State) (node : Nat) : List (Nat × StrayAt) :=
  (s.net.packets.filter fun e => e.2.node == node).foldr (s.serveInsert node) []

/-- The last flit of a packet has crossed a link: the packet is in the next buffer, or discarded and counted where a flit failed its CRC-32
(R287, R293). -/
def State.strayArrive (s : State) (x : Sending) : State :=
  match s.net.packets.find? (·.1 == x.packet) with
  | none => s
  | some e =>
    if x.lost then (s.dropPacket x.packet).modDiag fun d => { d with framing := satAdd 64 d.framing 1 }
    else s.strayDepart x.packet e.2 x.out x.deflected

/-- The next flit of a packet part-way through departing leaves in a slot time that no drove flit takes; `bad` lists the outputs whose flit
of this slot time fails its CRC-32 (R252, R285, R287). -/
def State.sendFlit (s : State) (bad : List Nat) (x : Sending) : State :=
  if s.droveNow x.out then s
  else
    let y : Sending := { x with left := x.left - 1, lost := x.lost || bad.contains x.out }
    let s1 : State := { s with net := { s.net with sending := s.net.sending.filter (·.out != x.out) } }
    if y.left = 0 then s1.strayArrive y else { s1 with net := { s1.net with sending := s1.net.sending ++ [y] } }

/-- A packet begins to depart on an output, its head first; a port takes the flits into its queue (R285, R293, R299). -/
def State.strayStart (s : State) (bad : List Nat) (k : Nat) (a : StrayAt) (out : Nat) (deflected : Bool) : State :=
  let s1 : State := if a.packet.escapes then
      { s with net := { s.net with served := Tab.put out (s.inputNo a.node a) s.net.served } }
    else s
  if outKind out = 1 then s1.strayDepart k a out deflected
  else
    let x : Sending := { out, packet := k, left := a.packet.ndi, lost := bad.contains out, deflected }
    if x.left = 0 then s1.strayArrive x else { s1 with net := { s1.net with sending := s1.net.sending ++ [x] } }

/-- What waits for a node's injection buffer enters it when it is free: a core's responses first, then requests in order (R291, R295; DESIGN
CHOICE, log 41: the spec does not say which goes first). -/
def State.fillInjection (s : State) (node : Nat) : State :=
  if !s.injectFree node then s
  else match (if node < 4096 then (s.core node).respQ else []) with
    | p :: t => (s.modCore node fun c => { c with respQ := t }).putInjected node p
    | [] => match s.net.injQ.find? (·.1 == node) with
      | some e => ({ s with net := { s.net with injQ := s.net.injQ.erase e } } : State).putInjected node e.2
      | none => s

/-- A packet for an agent has come to the agent's I/O die; in keeper mode a request is answered there with STATUS 4 (R294, R307). -/
def State.reachAgent (s : State) (node k : Nat) (p : Packet) : State :=
  if s.pw.keeper && p.isReq then (if p.type = 4 then s.dropPacket k else (s.dropPacket k).injectAt node p.unknown)
  else s.mapPacket k fun z => { z with node := 12288 + p.dest, via := 0, waited := 0, injected := false }

/-- One slot time of a router or I/O die: packets part-way go on, then the others are served in order (R285, R295, R296, R298, R299). -/
def State.strayServe (s : State) (node : Nat) (bad : List Nat) : State :=
  let s1 := s.fillInjection node
  let parts := s1.net.sending.filter fun x => s1.net.packets.any fun e => e.1 == x.packet && e.2.node == node
  let s2 := parts.foldl (fun (s : State) x => s.sendFlit bad x) s1
  ((s1.serveOrder node).foldl (fun (acc : State × List Nat) e =>
    let s := acc.1
    if parts.any (fun x => x.packet == e.1) = true then acc
    else if 4096 ≤ node ∧ s.isHere e.2.packet = true ∧ e.2.packet.dag = 1 ∧ agentDie e.2.packet.dest = node - 4096 then
      (s.reachAgent node e.1 e.2.packet, acc.2)
    else
      let r := s.strayWay node e.2.packet acc.2
      match r.1 with
      | some (o, d) => (r.2.strayStart bad e.1 e.2 o d, o :: acc.2)
      | none => (r.2.mapPacket e.1 fun z => { z with waited := z.waited + 1 }, acc.2)) (s2, parts.map (·.out))).1

/-- One fabric cycle of a port's receive side: its first packet whose buffer at the I/O die's router is free leaves for it, and its credit
is freed; the others wait (R294, R296, R336, R337). -/
def State.strayFromPort (s : State) (port : Nat) : State :=
  let go := s.net.packets.find? fun e => e.2.node == 8192 + port
      && !(s.net.packets.any fun z => z.2.via == rxLink port && z.2.node < 8192 && z.2.packet.ch == e.2.packet.ch)
  let wait := fun (z : Nat × StrayAt) =>
    if z.2.node == 8192 + port && go.all (fun e => e.1 != z.1) then (z.1, { z.2 with waited := z.2.waited + 1 }) else z
  let s0 : State := { s with net := { s.net with packets := s.net.packets.map wait } }
  match go with
  | none => s0
  | some e =>
    let k := s.pool e.2.packet.ch
    let s1 := s0.mapPacket e.1 fun z => { z with node := 4096 + port / 16, via := rxLink port, waited := 0 }
    s1.modPort port fun p => { p with
      rsFreed := Tab.put k ((Tab.get 0 p.rsFreed k + 1) % 4) p.rsFreed, sHeld := Tab.put k (Tab.get 0 p.sHeld k - 1) p.sHeld }

/-! Requests at a core (R290, R291, R300 to R305). -/

/-- The states of a slot that let the host reach its regions (R442). -/
def State.hostSlot (s : State) (slot : Nat) : Bool :=
  let st := (s.ctx slot).st
  st == .running || st == .loaded || st == .suspended || st == .stopped || st == .ended

/-- The slot is in LOADING: load writes are made (R416). -/
def State.loads (s : State) (slot : Nat) : Bool := decide (slot < 4) && (s.ctx slot).st == .loading

/-- The slot that an access is checked against, 4 for none: the running context for cores, the slot that the access names for the
host, where its state lets it, and for the MC, while it is in LOADING (R96, R416, R442). -/
def State.accessSlot (s : State) (q : Packet) : Nat :=
  if q.src < 2048 then s.runSlot.getD 4
  else match s.net.agents.find? fun e => e.1 == 65536 * (q.src - 2048) + q.rtag with
    | some e => if (if q.src = 2050 then s.loads e.2.desc else s.hostSlot e.2.desc) then e.2.desc else 4
    | none => 4

/-- A region lets a request touch a line: kinds 0 stray write, 1 stray atomic, 2 host write, 3 host read, 4 load write, which takes no
permission bit (R94, R96, R416). -/
def Core.lets (c : Core) (slot line kind : Nat) : Bool :=
  match c.regionOf slot line with
  | some r => kind == 4 || r.kind == 1 && (if kind = 0 then r.sw else if kind = 1 then r.sa else if kind = 2 then r.hw else r.hr)
  | none => false

/-- The kind of access that a request makes (R96). -/
def Packet.access (q : Packet) : Nat :=
  if q.src = 2050 then 4 else if 2048 ≤ q.src then (if q.type = 3 then 3 else 2) else if q.type = 1 then 0 else 1

/-- A failed region check of a stray: the fault is the target's when a core sent it (R96). -/
def State.strayRegionFault (s : State) (core : Nat) (q : Packet) : State := if q.src < 2048 then s.faultOutside core 5 else s

/-- The read of a read-modify-write: data, or none where it is uncorrectable (R91, R104). -/
def State.rmwRead (s : State) (core line : Nat) : Option Line × State :=
  let c := s.core core
  match c.lineEcc line with
  | .clean => (some (c.readLine line), s)
  | .correctable .. => (some (c.readLine line), s.correctedRead core line false)
  | .uncorrectable => (none, s.poisonAt core (64 * line) 2 0)

/-- The new word and OLD of an atomic on a word of `w` bits (R242). -/
def atomicWord (aop w old op new : Nat) : Nat × Nat :=
  if aop = 0 then ((old + op) % 2 ^ w, old)
  else if aop = 2 then (if signed w old < signed w op then op else old, old)
  else if aop = 3 then (max old op, old)
  else (if old = op then new else old, old)

/-- What an ATOMIC makes of the line it read: STATUS, OLD, and the line to write, if any (R152, R242). -/
def Packet.atomicOn (q : Packet) (old : Line) : Nat × Nat × Option Line :=
  let off := q.addr % 64
  let aop := q.opx % 8
  if aop = 1 then
    let a := Lsw.ofBits (old.extractLsb' (8 * off) 256)
    let b := Lsw.ofBits (q.inline.extractLsb' 0 256)
    if a.wexp ≠ b.wexp then (2, 0, none)
    else
      let r := Lsw.toBits { col := joinCol a.col b.col, wexp := a.wexp }
      (0, 0, some (bytesBv 512 ((List.range 64).map fun k =>
        if off ≤ k ∧ k < off + 32 then r.extractLsb' (8 * (k - off)) 8 else old.extractLsb' (8 * k) 8)))
  else
    let w := if bit q.opx 3 then 64 else 32
    let o := (old.toNat >>> (8 * off)) % 2 ^ w
    let r := atomicWord aop w o (q.inline.toNat % 2 ^ w) ((q.inline.toNat >>> 64) % 2 ^ w)
    (0, r.2, some (BitVec.ofNat 512 (old.toNat - o * 2 ^ (8 * off) + r.1 * 2 ^ (8 * off))))

/-- Whole blocks from lines, four to a block (R289). -/
def blocksOf (l : List Line) : List Block :=
  (List.range (ceilDiv l.length 4)).map fun i => ofLines ((List.range 4).map fun k => l.getD (4 * i + k) 0)

/-- Change one descriptor of a ring. -/
def State.modDesc (s : State) (port ring i : Nat) (f : Desc → Desc) : State :=
  s.modCxl port fun c =>
    let r := Tab.get {} c.rings ring
    { c with rings := Tab.put ring { r with descs := r.descs.map fun e => if e.1 = i then (i, f e.2) else e } c.rings }

/-- A device access of a descriptor is performed: the tally of the last good fold outcome of its slot, and LATE (R452, R453). -/
def State.touchDesc (s : State) (port ring i slot : Nat) : State :=
  let t := (s.ctx slot).lastFold
  s.modDesc port ring i fun d => { d with tally := t, late := d.late || t != d.startTally }

/-- A request of a host agent is performed: its descriptor's tally, and the count of host writes into core memory, of which a failing one
that wrote a line is one too (R290, R394, R452). -/
def State.hostPerformed (s : State) (q : Packet) (wrote : Bool) : State :=
  if q.src < 2048 then s
  else
    let s1 := match s.net.agents.find? fun e => e.1 == 65536 * (q.src - 2048) + q.rtag with
      | some e => if e.2.serve.1 = 2 then s.touchDesc e.2.serve.2.1 e.2.serve.2.2.1 e.2.serve.2.2.2 e.2.desc else s
      | none => s
    if wrote && q.src < 2050 && s.runSlot == some (s.accessSlot q) then s1.modDiag fun d => { d with hostWrites := satAdd 32 d.hostWrites 1 } else s1

/-- Queue a response for injection. -/
def State.respond (s : State) (core : Nat) (r : Option Packet) : State :=
  match r with | some p => s.modCore core fun c => { c with respQ := c.respQ ++ [p] } | none => s

/-- Expected sequence of a source at a core: its table, or the fixed entry of an agent of the module (R300). -/
def Core.expected (c : Core) (q : Packet) : Nat :=
  if 2048 ≤ q.src then Tab.get 0 c.agentSeq (q.src - 2048) else Tab.get 0 c.recvSeq q.srcKey
/-- The expected sequence advances. -/
def Core.advanceSeq (c : Core) (q : Packet) : Core :=
  let e := (c.expected q + 1) % 1024
  if 2048 ≤ q.src then { c with agentSeq := Tab.put (q.src - 2048) e c.agentSeq } else { c with recvSeq := Tab.put q.srcKey e c.recvSeq }
/-- A source's sequence test: the request's distance from the one expected (R301). -/
def Core.ahead (c : Core) (q : Packet) : Int := wrapDiff 10 q.pseq (c.expected q)
/-- The request is of the epoch that the core is in, as every request of an agent is (R300, R301). -/
def Core.inEpoch (c : Core) (q : Packet) : Bool := decide (2048 ≤ q.src) || q.fep == c.epoch

/-- Key of a load write among a core's host accesses, apart from every PSEQ (R89, R416). -/
def loadKey (l : Nat × Nat × Line) : Nat × Nat := (l.1, 1024 + l.2.1)
/-- A host access is done: the hold that it asked for ends (R89). -/
def State.hostServed (s : State) (core : Nat) (key : Nat × Nat) : State :=
  if (s.core core).hostHold = some key then (s.endHold core 7 4).modCore core fun c => { c with hostHold := none } else s

/-- A request has been handled: no HURDLE waits for it, and the hold for the host access that it is ends (R89, R231). -/
def State.reqHandled (s : State) (core : Nat) (q : Packet) : State :=
  let key := (q.srcKey, q.pseq)
  let c := s.core core
  ((s.setCore core { c.strayHandled key with hostWaiting := c.hostWaiting.erase key }).hostServed core key).refresh core

/-- The READ DATA of a READ that read these lines: all ⌈RLEN / 4⌉ data flits, zeros for what was not read (R289, R290). A duplicate answers
STATUS 0 even where it failed (DESIGN CHOICE, log 41: the spec gives a failing second read no STATUS of its own). -/
def StrayWork.readData (w : StrayWork) (status : Nat) : Packet :=
  let n := w.req.opx % 32
  let ls := if status = 0 ∨ w.again = true then w.got ++ List.replicate (n - w.got.length) 0 else List.replicate n 0
  w.req.response (if w.again then 0 else status) 0 (blocksOf ls)

/-- The response to a request performed with a STATUS (R290). -/
def StrayWork.answer (w : StrayWork) (status old : Nat) : Packet :=
  if w.req.type = 1 then w.req.response status 0 []
  else if w.req.type = 2 then w.req.response status (rspLine status old) []
  else w.readData status

/-- The record of an ATOMIC's result, the last 64 of a source and 1,024 in all (R305). -/
def Core.recordAtomic (c : Core) (q : Packet) (l : Line) : Core :=
  let kept := (c.atomics.filter (·.1 == q.srcKey)).take 63
  { c with atomics := ((q.srcKey, q.pseq, q.rtag, l) :: c.atomics.filter fun e => e.1 != q.srcKey || kept.contains e).take 1024 }

/-- The request in progress is over with a STATUS: answered, recorded, counted, its sequence taken (R290, R301, R305, R394). -/
def State.finishWork (s : State) (core : Nat) (w : StrayWork) (status old : Nat) : State :=
  let r := w.answer status old
  let s1 := (s.modCore core fun c =>
    let c1 := { c with work := none }
    let c2 := if w.again then c1 else c1.advanceSeq w.req
    if w.req.type = 2 then c2.recordAtomic w.req r.inline else c2).respond core (some r)
  (s1.hostPerformed w.req (w.req.type == 1 && (status == 0 || w.wrote))).reqHandled core w.req

/-- Mask groups of the line that a WRITE comes to next (R290). -/
def StrayWork.groups (w : StrayWork) : Nat := (w.req.mask >>> (16 * (w.k % 4))) % 65536
/-- Lines of a request (R290). -/
def StrayWork.lines (w : StrayWork) : Nat :=
  if w.req.type = 1 then 4 * w.req.datas.length else if w.req.type = 2 then 1 else w.req.opx % 32
/-- A WRITE passes over lines whose groups are all clear (R290). -/
def StrayWork.skipClear : Nat → StrayWork → StrayWork
  | 0, w => w
  | n + 1, w => if w.req.type = 1 ∧ w.groups = 0 ∧ w.k < w.lines then StrayWork.skipClear n { w with k := w.k + 1 } else w
/-- One more line is done: the request goes on, or is over (R290). -/
def State.nextLine (s : State) (core : Nat) (w : StrayWork) : State :=
  let v := StrayWork.skipClear 16 { w with k := w.k + 1, old := none }
  if v.lines ≤ v.k then s.finishWork core v 0 0 else s.modCore core fun c => { c with work := some v }

/-- The read of a read-modify-write takes its bank; an uncorrectable line ends the request with STATUS 3 (R91, R104, R290). -/
def State.rmwBegin (s : State) (core : Nat) (w : StrayWork) : State :=
  match s.rmwRead core w.line with
  | (some l, t) =>
    if w.req.type = 2 ∧ (w.req.atomicOn l).1 ≠ 0 then t.finishWork core w (w.req.atomicOn l).1 0
    else t.modCore core fun c => { c with work := some { w with old := some (l, s.now) } }
  | (none, t) => t.finishWork core w 3 0

/-- One access of the request in progress, region check first (R96, R290). -/
def State.workAccess (s : State) (core : Nat) (w : StrayWork) : State :=
  let q := w.req
  let line := w.line
  let s0 := s.modCore core fun c => { c with banks := bankOf line :: c.banks }
  let put := fun (l : Line) => s0.modCore core fun c => c.writeLine line l
  if !(s.core core).lets (s.accessSlot q) line q.access then (s.strayRegionFault core q).finishWork core w 1 0
  else if q.type = 3 then
    match (s.core core).lineEcc line with
    | .uncorrectable => (s0.coreEvent core 20).finishWork core w 3 0
    | .clean => s0.nextLine core { w with got := w.got ++ [(s.core core).readLine line] }
    | .correctable .. => (s0.correctedRead core line true).nextLine core { w with got := w.got ++ [(s.core core).readLine line] }
  else if q.type = 2 then
    match w.old with
    | none => s0.rmwBegin core w
    | some (l, _) => match q.atomicOn l with
      | (0, old, some d) => (put d).finishWork core w 0 old
      | (st, old, _) => s0.finishWork core w st old
  else
    let d := lineOf (q.datas.getD (w.k / 4) 0) (w.k % 4)
    if w.groups = 65535 then (put d).nextLine core { w with wrote := true }
    else match w.old with
      | none => s0.rmwBegin core w
      | some (l, _) => (put (maskedLine l d w.groups)).nextLine core { w with wrote := true }

/-- A request to perform: it is the core's request in progress from its first line on; a WRITE that touches no line is done (R290). -/
def State.beginWork (s : State) (core : Nat) (q : Packet) (again : Bool) : State :=
  let w := StrayWork.skipClear 16 { req := q, again }
  if w.lines ≤ w.k then s.finishWork core w 0 0 else s.modCore core fun c => { c with work := some w }

/-- The answer to a duplicate; a READ is performed again (R305). -/
def State.duplicate (s : State) (core : Nat) (q : Packet) : State :=
  if q.type = 3 then s.beginWork core q true
  else
    let r : Option Packet :=
      if q.type = 1 then some (q.response 0 0 [])
      else if q.type = 2 then
        match (s.core core).atomics.find? fun e => e.1 == q.srcKey && e.2.1 == q.pseq && e.2.2.1 == q.rtag with
        | some e => some (q.response (e.2.2.2.extractLsb' 64 16).toNat e.2.2.2 [])
        | none => some q.unknown
      else none
    (s.respond core r).reqHandled core q

/-- Back to the router, through its injection buffer: the packet is bounced (R295; DESIGN CHOICE, log 41: the spec does not say which
buffer holds it). -/
def State.bounce (s : State) (core : Nat) (q : Packet) : State := (s.putInjected core { q with bounced := true }).reqHandled core q
/-- The request is of a new source while the receive table is full (R303). -/
def Core.tableFull (c : Core) (q : Packet) : Bool :=
  c.inEpoch q && decide (q.src < 2048) && !(c.recvSeq.any (·.1 == q.srcKey)) && decide (2048 ≤ c.recvSeq.length)
/-- The packet would be bounced: its store or table has no room (R301, R303). -/
def Core.mustBounce (c : Core) (q : Packet) : Bool :=
  let stores := !(c.inEpoch q) && q.fep == (c.epoch + 1) % 4 || c.inEpoch q && decide (0 < c.ahead q)
  c.tableFull q || (stores && decide (256 ≤ c.reorder.length))
/-- Into the reorder store (R301). -/
def State.store (s : State) (core : Nat) (q : Packet) : State := s.modCore core fun c =>
  { c with reorder := c.reorder ++ [q], hostWaiting := c.hostWaiting.erase (q.srcKey, q.pseq) }

/-- A request handled against its source's expected sequence: answered, stored, dropped, bounced, or begun (R300, R301, R303, R304, R305,
R307). -/
def State.handleReq (s : State) (core : Nat) (q : Packet) : State :=
  let c := s.core core
  if s.pw.keeper then (s.respond core (if q.type = 4 then none else some q.unknown)).reqHandled core q
  else if c.mustBounce q then
    (if c.tableFull q then s.modDiag fun x => { x with bounces := satAdd 64 x.bounces 1 } else s).bounce core q
  else if !c.inEpoch q then
    (if q.fep = (c.epoch + 1) % 4 then s.store core q
    else (s.modDiag fun x => { x with staleReq := satAdd 64 x.staleReq 1 }).reqHandled core q)
  else if 0 < c.ahead q then s.store core q
  else if c.ahead q < 0 then s.duplicate core q
  else if q.type = 4 then (s.modCore core fun c => c.advanceSeq q).reqHandled core q
  else s.beginWork core q false

/-- A stored request whose turn has come: in order, or a duplicate by now (R301). -/
def Core.storedReq (c : Core) : Option Packet := c.reorder.find? fun q => q.isReq && c.inEpoch q && decide (c.ahead q ≤ 0)

/-! Responses at a core (R243, R244, R292, R302). -/

/-- STRAY_STATUS_REC (R244, R499). -/
def strayStatusRec (core desc status tally : Nat) : Bytes :=
  leBytes 8 desc ++ leBytes 6 tally ++ leBytes 2 status ++ leBytes 2 core ++ leBytes 6 0

/-- A STATUS other than 0 at a core: counted, the first of the interval recorded, source 26 or 27, and a failing condition for
STATUS 4 (R244, R503, R523). -/
def State.badStatus (s : State) (core : Nat) (o : OutReq) (status : Nat) : State :=
  if status = 0 then s
  else
    let c := s.core core
    let c1 := { c with badStatus := satAdd 32 c.badStatus 1, statusSeen := true }
    let s1 := (s.setCore core (if status = 4 then c1.failed 3 core else c1)).coreEvent core 26
    let empty := match s.diag.strayStatus with | r :: _ => r.all (· == 0) | [] => true
    if c.statusSeen || !empty then s1
    else s1.modDiag fun d => { d with strayStatus := strayStatusRec core o.desc status c.tally :: d.strayStatus.drop 1 }

/-- A request is retired with its response: the line of an ATOMIC RESPONSE takes its bank and lands at sP but in keeper mode, the STATUS
counts (R85, R243, R244, R292, R527). -/
def State.retire (s : State) (core : Nat) (o : OutReq) (r : Packet) : State :=
  let s1 := match o.sp with
    | some sp => if s.pw.keeper then s
        else s.modCore core fun c => { c.writeLine (sp / 64) r.inline with banks := bankOf (sp / 64) :: c.banks }
    | none => s
  let s2 := s1.modCore core fun c => { c with outs := Tab.del o.packet.rtag c.outs }
  ((s2.modCore core fun c => c.modHurdle fun h => { h with own := h.own.filter (· != o.packet.rtag) }).badStatus core o r.status).refresh core

/-- The outstanding entry that a response matches (R292). -/
def matchOut (outs : List (Nat × OutReq)) (base : Nat) (r : Packet) : Option OutReq :=
  (outs.find? fun e => e.1 == base + r.rtag && e.2.packet.pseq == r.pseq && e.2.packet.fep == r.fep && e.2.packet.dmod == r.smod
    && 2048 * e.2.packet.dag + e.2.packet.dest == r.src).map (·.2)
/-- A response is in order: its request is the oldest outstanding to its responder (R302). -/
def inOrder (outs : List (Nat × OutReq)) (o : OutReq) : Bool :=
  outs.all fun e => e.2.packet.dmod != o.packet.dmod || e.2.packet.dest != o.packet.dest || e.2.packet.dag != o.packet.dag
    || decide (o.order ≤ e.2.order)

/-- The next response that a core turns to: a stored one that is in order, or that matches nothing by now, else the first of the ejection
queue (R302). -/
def Core.nextRsp (c : Core) : Option Packet :=
  match c.reorder.find? fun q => q.isRsp && (matchOut c.outs 0 q).all (inOrder c.outs) with
  | some q => some q
  | none => c.ejectQ.find? Packet.isRsp

/-- A response taken from where it waited. -/
def Core.takeRsp (c : Core) (q : Packet) : Core :=
  if c.reorder.contains q then { c with reorder := c.reorder.erase q } else { c with ejectQ := c.ejectQ.erase q }

/-! Agents and their requests (R284, R292, R300). -/

/-- Outstanding requests of an agent. -/
def State.agentTab (s : State) (a : Nat) : List (Nat × OutReq) := s.net.agents.filter fun e => e.1 / 65536 == a
/-- Entries of an agent's table (R284). -/
def agentLimit (a : Nat) : Nat := if a = 2 then 16 else 256

/-- An agent's request takes an entry and the next sequence of its pair, and enters the network (R284, R300). -/
def State.agentSend (s : State) (a : Nat) (o : OutReq) : State :=
  let t := s.agentTab a
  let rtag := freshKey (t.map fun e => e.1 % 65536)
  let pair := 4096 * a + o.packet.dest
  let seq := Tab.get 0 s.net.agentSeq pair
  let p : Packet := { o.packet with rtag, pseq := seq }
  let order := (t.map fun e => e.2.order + 1).foldl max 0
  let n := { s.net with agents := Tab.put (65536 * a + rtag) { o with packet := p, order } s.net.agents
                        agentSeq := Tab.put pair ((seq + 1) % 1024) s.net.agentSeq }
  ({ s with net := n } : State).injectAt (4096 + agentDie a) p

/-- Waiting requests of an agent go out, in order, while its table has room. -/
def State.agentPump (s : State) (a : Nat) : Nat → State
  | 0 => s
  | k + 1 =>
    match s.net.agentQ.find? (·.1 == a) with
    | none => s
    | some e =>
      if agentLimit a ≤ (s.agentTab a).length then s
      else State.agentPump (({ s with net := { s.net with agentQ := s.net.agentQ.erase e } } : State).agentSend a e.2) a k

/-- An agent asks a core for an access checked against a slot (R284, R288, R300, R442). -/
def State.agentAsk (s : State) (a core slot : Nat) (serve : Nat × Nat × Nat × Nat) (p : Packet) : State :=
  let o : OutReq := { packet := { p with pen := s.pen.getD 0, dest := core, dmod := s.modNum, smod := s.modNum, src := 2048 + a }
                      desc := slot, serve }
  let s1 : State := { s with net := { s.net with agentQ := s.net.agentQ ++ [(a, o)] } }
  s1.agentPump a s1.net.agentQ.length

/-- WRITE packets of consecutive bytes of a core: one per 256-byte span touched, with the MASK of the bytes it covers there (R443). -/
def windowPackets (addr : Nat) (d : Bytes) : List Packet :=
  let first := addr / 256
  (List.range ((addr + d.length - 1) / 256 + 1 - first)).map fun k =>
    let base := 256 * (first + k)
    let covers := fun (b : Nat) => addr ≤ base + b && base + b < addr + d.length
    { type := 1, addr := base
      mask := sumNat ((List.range 64).map fun g => if covers (4 * g) then 2 ^ g else 0)
      datas := [bytesBv 2048 ((List.range 256).map fun b => if covers b then d.getD (base + b - addr) 0 else 0)] }

end Sys2Proof.Machine
end

