-- ==== Sys2Proof/Machine/LinkOps.lean ====
section
/-! DEFINITION. Operations of the Xancel link: flits and link messages (R314 to R322), the transmitter (R311, R312, R318, R321,
R329, R333), sealing (R325 to R328), retry, retrain and reset (R331, R335, R343 to R347), lane operations (R339 to R342). -/

namespace Sys2Proof.Machine

/-! Flits (R314 to R317, R322). -/

/-- A flit: link header word, tag or control header, payload, CRC (R314 to R316). `hdr` is SEQ, FT, SOM, SIDE. -/
def flitBytes (seq ft som side : Nat) (body : Bytes) : Bytes :=
  let b := leBytes 4 ((seq % 65536) * 65536 + ft * 16384 + som * 8192 + side) ++ body
  b ++ leBytes 4 (crc32 b)
/-- Bytes 4 to 267 of a flit: tag or control header, and payload. -/
def flitBody (tag : Nat) (p : Block) : Bytes := leBytes 8 tag ++ bvBytes 256 p
/-- The tag of a drove flit (R254). -/
def droveTag (f : DFlit) : Nat := f.pen * 2 ^ 48 + f.kind * 2 ^ 44 + (f.step % 256) * 2 ^ 32 + (f.pos % 65536) * 2 ^ 16
/-- The tag of a HOLD flit (R254, R262). -/
def holdTag (h : HFlit) : Nat :=
  h.pen * 2 ^ 48 + 2 ^ 44 + h.cause * 2 ^ 40 + (h.step % 256) * 2 ^ 32 + (h.pos % 65536) * 2 ^ 16
/-- The payload of a HOLD flit (R262). -/
def holdPayload (h : HFlit) : Block := bytesBv 2048 (leBytes 2 h.omod ++ leBytes 2 h.osite)
/-- A control header (R322). -/
def ctlTag (ctype cseq : Nat) : Nat := ctype * 2 ^ 56 + (cseq % 256) * 2 ^ 48

/-- Queue a link control flit; a new attempt takes the next CSEQ (R322). -/
def Port.control (p : Port) (ctype : Nat) (payload : Block) (fresh : Bool) : Port :=
  let k := (Tab.get 0 p.cseq ctype + (if fresh then 1 else 0)) % 256
  { p with cseq := Tab.put ctype k p.cseq, ctlQ := p.ctlQ ++ [(ctype, k, payload)] }

/-- Add to a counter of LINK_COUNTS (R491). -/
def Port.count (p : Port) (k n : Nat) : Port := { p with counts := Tab.put k (satAdd 64 (Tab.get 0 p.counts k) n) p.counts }

/-! Link messages (R319 to R321). -/

/-- Types of R320. -/
def msgAck : Nat := 1
def msgCredit : Nat := 2
/-- The ACK body (R320, R332). -/
def Port.ackBody (p : Port) : Nat := (p.expect % 65536) * 128 + (if p.retry then 64 else 0) + p.nakid * 8
/-- The CREDIT body (R320, R337). -/
def Port.creditBody (p : Port) : Nat :=
  (p.rFreed % 1024) * 8192 + (Tab.get 0 p.rsFreed 0 % 4) * 2048 + (Tab.get 0 p.rsFreed 1 % 4) * 512
    + (Tab.get 0 p.rsFreed 2 % 4) * 128 + (Tab.get 0 p.rsFreed 3 % 4) * 32
/-- A LANE body (R320): OP 0 SWITCH, 1 ADD-REQ, 2 RETRAIN-REQ, 3 WITHDRAW. -/
def laneBody (op mask cw : Nat) : Nat := op * 2 ^ 20 + mask * 2 ^ 16 + cw % 65536

/-- The type of the next message and the port without what it takes (R321). -/
def Port.pickMsg (p : Port) : Nat × Nat × Port :=
  let l := p.lastMsgs
  let full := decide (3 ≤ l.length)
  let alt := match l.find? fun t => t == msgAck || t == msgCredit with | some 1 => msgCredit | _ => msgAck
  let ack := (msgAck, p.ackBody, { p with nakNew := false })
  let credit := (msgCredit, p.creditBody, p)
  if full && !l.contains msgAck then ack
  else if full && !l.contains msgCredit then credit
  else if decide (2 ≤ l.length) && !((l.take 2).contains msgAck) && !((l.take 2).contains msgCredit) then
    (if alt = msgAck ∨ p.nakNew then ack else credit)
  else if p.retry && p.nakNew then ack
  else match p.stepMsg with
    | some t => (3, (t % 65536) * 128, { p with stepMsg := none })
    | none => match p.laneMsgs with
      | b :: t => (4, b, { p with laneMsgs := t, laneSent := p.laneSent || bits b 22 20 != 3 })
      | [] => if p.retry || alt = msgAck then ack else credit

/-- SOM and SIDE of the next flit: messages leave in ACTIVE and, once locked, in RETRAIN (R319, R323). -/
def Port.nextSide (p : Port) : Nat × Nat × Port :=
  if p.st != .active && !(p.st == .retrain && p.locked) then (0, 0, p)
  else match p.slice2 with
    | some v => (0, v, { p with slice2 := none })
    | none =>
      if p.flitCount % 2 = 0 then
        let m := p.pickMsg
        let v := m.1 * 2 ^ 23 + m.2.1
        (1, v / 8192, { m.2.2 with slice2 := some (v % 8192), lastMsgs := (m.1 :: m.2.2.lastMsgs).take 3 })
      else (0, 0, p)

/-! The transmitter. -/

/-- The lanes of a set, ascending. -/
def laneList (m : BitVec 4) : List Nat := (List.range 4).filter fun i => m.getLsbD i

/-- The lane operation after one more codeword: a switch ends with its second deskew codeword (R339). -/
def Port.afterDeskew (p : Port) : LaneOp :=
  match p.laneOp with
  | .switchIn m cw => if p.deskew = 1 then .none else .switchIn m cw
  | o => o

/-- Five flits make a codeword, striped over the active lanes and scrambled (R311, R312). -/
def State.sendCodeword (s : State) (port : Nat) : State :=
  let p := s.port port
  let lanes := laneList p.txLanes
  if p.cwFlits.length < 5 ∨ lanes = [] then s
  else
    let syms := rsCodeword p.cwFlits
    let out := lanes.map fun l =>
      let mine := ((List.range syms.length).filter fun i => symbolLane lanes (p.symbols + i) == l).map fun i => syms.getD i 0
      let r := mine.foldl (fun (acc : Nat × List Nat) x =>
        let t := (List.range 10).foldl (fun (a : Nat × Nat) j =>
          let q := scrambleBit a.1 (bit x j)
          (q.1, a.2 + (if q.2 then 2 ^ j else 0))) (acc.1, 0)
        (t.1, acc.2 ++ [t.2])) (Tab.get 0 p.scramblers l, [])
      (l, r)
    let p1 := { p with
      cwFlits := [], cwSent := (p.cwSent + 1) % 65536, symbols := p.symbols + syms.length, deskew := p.deskew - 1
      laneOp := p.afterDeskew
      scramblers := out.foldl (fun t x => Tab.put x.1 x.2.1 t) p.scramblers }
    (s.setPort port p1).emit (.codeword port (out.map fun x => (x.1, x.2.2)))

/-- LANE messages that remain when an operation ends: WITHDRAWs (R320, R342). -/
def withdraws (l : List Nat) : List Nat := l.filter fun b => bits b 22 20 == 3

/-- A port enters RETRAIN, at its EQUALIZE part: counted, source 80 of its controller, any lane operation ends and a WITHDRAW not yet
sent stays to be sent (R323, R335, R342, R343, R503). -/
def State.enterRetrain (s : State) (port : Nat) : State :=
  (s.modPort port fun p => { p.count 8 1 with
    st := .retrain, laneOp := .none, ignored := false, laneMsgs := withdraws p.laneMsgs, retrainCmd := false, converged := 0
    relock := false, trainRun := 0, locked := false, peerLocked := false, badCws := 0, replayAt := none, cwFlits := []
    slice2 := none, rxSlice := none, deskew := 0 }).assertEvent (port / 16) (80 + port % 16)

/-- A flit leaves: header, SIDE, CRC; it joins the codeword being filled (R312, R315, R316, R319). -/
def State.putFlit (s : State) (port seq ft : Nat) (body : Bytes) : State :=
  let m := (s.port port).nextSide
  let raw := flitBytes seq ft m.1 m.2.1 body
  let s1 := (s.setPort port { m.2.2 with flitCount := m.2.2.flitCount + 1, cwFlits := m.2.2.cwFlits ++ [raw] }).emit (.flit port raw)
  let s2 := s1.sendCodeword port
  let p := s2.port port
  if p.laneOp == .retrainOut && p.laneMsgs.isEmpty && p.slice2.isNone then s2.enterRetrain port else s2

/-- The SEQ that a flit which is not sequenced carries (R316). -/
def Port.nextSeq (p : Port) : Nat := p.replayAt.getD p.eseq

/-- A new sequenced flit: sealed, kept for replay (R329, R333). -/
def State.sendSequenced (s : State) (port tag : Nat) (payload : Block) : State :=
  let p := s.port port
  let key := match p.keys with | some k => k.1 | none => []
  let body := flitBody tag (sealPayload key p.eseq payload)
  let held := p.replay.length + 1
  let p1 := { p with eseq := p.eseq + 1, replay := p.replay ++ [(p.eseq, body)]
                     counts := Tab.put 5 (max held (Tab.get 0 p.counts 5)) p.counts }
  (s.setPort port p1).putFlit port p.eseq 1 body

/-- The payload of a control flit as the PHY sends it: TX is the transmit stamp in DISCOVERY and TIME (R357, R366, R376). DESIGN CHOICE:
the interpolator's fraction is a free value, log 44. -/
def State.stamped (s : State) (ctype : Nat) (b : Block) : Block :=
  if ctype = 4 ∨ ctype = 7 then
    bytesBv 2048 (slice (bvBytes 256 b) 0 40 ++ leBytes 8 (s.phyStamp (Config.phyFraction s.free)) ++ slice (bvBytes 256 b) 48 208)
  else b

/-- The next control flit, or IDLE (R318). -/
def State.sendControl (s : State) (port : Nat) : State :=
  let p := s.port port
  match p.ctlQ with
  | (t, k, b) :: rest =>
    (({ s with free := s.free + 1 } : State).setPort port { p with ctlQ := rest }).putFlit port p.nextSeq 3 (flitBody (ctlTag t k) (s.stamped t b))
  | [] => s.putFlit port p.nextSeq 0 (List.replicate 264 0)

/-- A TRAIN flit (R324). -/
def State.sendTrain (s : State) (port : Nat) : State :=
  let p := s.port port
  let b := bytesBv 2048 (leBytes 1 1 ++ leBytes 1 p.converged.toNat ++ leBytes 1 p.txLanes.toNat ++ leBytes 1 (if p.locked then 1 else 0))
  s.putFlit port p.nextSeq 3 (flitBody (ctlTag 1 (Tab.get 0 p.cseq 1)) b)

/-- Training frames on all four lanes in DETECT (R323, R324). -/
def State.sendFrames (s : State) (port : Nat) : State :=
  (List.range 4).foldl (fun s l => s.emit (.trainFrame port l (s.port port).converged none)) s

/-- Training frames in EQUALIZE and its part of RETRAIN: the lane report grows as lanes converge, and coefficient requests go with it
(R323, R324). DESIGN CHOICE: free values, log 42. -/
def State.equalizeFrames (s : State) (port : Nat) : State :=
  let s1 := ({ s with free := s.free + 1 } : State).modPort port fun p => { p with converged := p.converged ||| Config.converged s.free }
  (List.range 4).foldl (fun t l => t.emit (.trainFrame port l (s1.port port).converged (some (Config.coefficientRequest s.free l)))) s1

/-- A SEAL flit: what waits, else TRAIN until the peer's SEAL-HELLO shows that it has left LOCK, else IDLE (R323). DESIGN CHOICE: until
when TRAIN fills the time, log 42. -/
def State.sealFlit (s : State) (port : Nat) : State :=
  if (s.port port).ctlQ = [] ∧ (s.port port).peerHello = none then s.sendTrain port else s.sendControl port

/-- A direction's lane set changes: drops and adds are counted (R491). -/
def Port.countLanes (p : Port) (old new : BitVec 4) : Port :=
  (p.count 6 (laneCount (old &&& ~~~new))).count 7 (laneCount (new &&& ~~~old))

/-- At codeword CW the transmitter stripes over the new set and owes two codewords for deskew (R339, R503). -/
def State.switchTx (s : State) (port : Nat) : State :=
  let p := s.port port
  match p.laneOp with
  | .switchIn m cw =>
    if p.st == .active && p.deskew == 0 && p.cwFlits.isEmpty && atOrAfter 16 p.cwSent cw then
      let new := BitVec.ofNat 4 m
      (s.setPort port { p.countLanes p.txLanes new with txLanes := new, deskew := 2 }).assertEvent (port / 16) (80 + port % 16)
    else s
  | _ => s

/-- Two codewords after CW the receiver's set is the new one and its operation ends (R339, R503). -/
def State.switchRx (s : State) (port : Nat) : State :=
  let p := s.port port
  match p.laneOp with
  | .switchOut m cw =>
    if p.st == .active && atOrAfter 16 p.cwRecv (cw + 2) then
      let new := BitVec.ofNat 4 m
      (s.setPort port { p.countLanes p.rxLanes new with rxLanes := new, laneOp := .none }).assertEvent (port / 16) (80 + port % 16)
    else s
  | _ => s

/-- Lanes outside the active set on which training frames run: those of an accepted ADD-REQ, up to its SWITCH (R341). -/
def Port.addedLanes (p : Port) : BitVec 4 :=
  match p.laneOp with
  | .addIn m | .switchIn m _ => BitVec.ofNat 4 m &&& ~~~p.txLanes
  | _ => 0
/-- Training frames on the lanes being added (R341). -/
def State.addedFrames (s : State) (port : Nat) : State :=
  (laneList (s.port port).addedLanes).foldl (fun t l => t.emit (.trainFrame port l (s.port port).converged none)) s

/-- Queue a LANE message. -/
def Port.lane (p : Port) (op mask cw : Nat) : Port := { p with laneMsgs := p.laneMsgs ++ [laneBody op mask cw] }
/-- A commanded retrain starts once no lane operation is in progress: RETRAIN-REQ in three LANE messages (R339, R343). -/
def Port.startRetrain (p : Port) : Port :=
  if p.retrainCmd && p.laneOp == .none then
    { ((p.lane 2 0 0).lane 2 0 0).lane 2 0 0 with laneOp := .retrainOut, laneSent := false, retrainCmd := false }
  else p

/-- One flit time of an ACTIVE transmitter's flit stream (R318, R333, R337, R339). -/
def State.fillFlit (s : State) (port : Nat) : State :=
  let p := s.port port
  if 0 < p.deskew then s.putFlit port p.nextSeq 0 (List.replicate 264 0)
  else match p.holdQ with
  | h :: rest => (s.setPort port { p with holdQ := rest }).putFlit port p.nextSeq 2 (flitBody (holdTag h) (holdPayload h))
  | [] => match p.replayAt with
    | some e => match p.replay.find? (·.1 == e) with
      | some f => (s.setPort port { p with replayAt := if e + 1 < p.eseq then some (e + 1) else none }).putFlit port e 1 f.2
      | none => (s.setPort port { p with replayAt := none }).putFlit port p.eseq 0 (List.replicate 264 0)
    | none =>
      if 8212 ≤ p.replay.length then s.sendControl port
      else match p.droveQ with
        | f :: rest => (s.setPort port { p with droveQ := rest, dSent := (p.dSent + 1) % 1024 }).sendSequenced port (droveTag f) f.payload
        | [] => match p.strayQ with
          | f :: rest => (s.setPort port { p with strayQ := rest }).sendSequenced port f.1 f.2
          | [] => s.sendControl port

/-- One flit time of an ACTIVE transmitter: a SWITCH whose codeword has come takes effect, added lanes carry frames (R318, R339, R341). -/
def State.activeFlit (s : State) (port : Nat) : State :=
  (((s.modPort port Port.startRetrain).switchTx port).addedFrames port).fillFlit port

/-! Reset (R344 to R347). -/

/-- The running context's wiring gives the port USE = 1 and TOL = 0 (R345). -/
def State.bound (s : State) (port : Nat) : Bool :=
  match s.prog with | some (b, m, _) => Img.penLink b m port | none => false

/-- A failure that the module itself detects enters its fold (R523, R597). -/
def State.addFailure (s : State) (reason fsite : Nat) : State :=
  let f : Failure := { reason, fmod := s.modNum, fsite }
  s.modFold fun u => if u.arrival.isSome then { u with later := u.later ++ [f] } else if u.own.contains f then u else { u with own := u.own ++ [f] }

/-- The answers for one dropped stray packet (R306, R346). -/
def State.answerDropped (s : State) (port : Nat) (p : Packet) : State :=
  let node := 4096 + port / 16
  if p.type = 4 then s.injectAt node { p with ch := 0, age := 0 }
  else if p.isReq then (s.injectAt node p.unknown).injectAt node p.skip
  else
    let l := if p.type = 0x82 then rspLine 4 0 else p.inline
    s.injectAt node { p with status := 4, inline := l, ch := 1, age := 0 }

/-- Heads of stray packets among flits held for replay: unacknowledged ones, as they were before sealing (R346). -/
def Port.heldHeads (p : Port) : List Packet :=
  let key := match p.keys with | some k => k.1 | none => []
  p.replay.filterMap fun e =>
    let tag := leNat (e.2.take 8)
    if bit tag 47 && bit tag 44 then some (Packet.ofHead tag (sealPayload key e.1 (bytesBv 2048 (e.2.drop 8)))) else none

/-- A port as RESET leaves it: nothing queued, no keys, counts and settings kept (R345). -/
def Port.cleared (p : Port) : Port :=
  { peer := p.peer, lats := p.lats, latsAll := p.latsAll, musterPeer := p.musterPeer, musterFull := p.musterFull, musterCoord := p.musterCoord, cls := p.cls, peerRec := p.peerRec
    latency := p.latency, hops := p.hops, cseq := p.cseq, sealRun := p.sealRun, persistent := p.persistent, refuse := p.refuse
    refusePeer := p.refusePeer, counts := p.counts, laneCorrected := p.laneCorrected, resetReason := p.resetReason
    resetTally := p.resetTally, holdDiscarded := p.holdDiscarded, foreign := p.foreign, foreignFirst := p.foreignFirst
    holdCycles := p.holdCycles, badKind := p.badKind, func := p.func, st := p.st, drain := p.drain }

/-- LINK-RESET flits in RESET: one attempt of the message, repeated up to the end of the codeword being filled (R312, R322, R323). That they
fill 1 µs is timing, log 42. -/
def State.sendReset (s : State) (port reason : Nat) : State :=
  let k := (Tab.get 0 (s.port port).cseq 6 + 1) % 256
  let s1 := s.modPort port fun p => { p with st := .reset, laneOp := .none, slice2 := none, cseq := Tab.put 6 k p.cseq }
  (List.range (5 - (s1.port port).cwFlits.length)).foldl (fun t _ =>
    t.putFlit port (s1.port port).nextSeq 3 (flitBody (ctlTag 6 k) (BitVec.ofNat 2048 reason))) s1

/-- A MATCH port resets while the muster waits for completion with this module ready (R362). -/
def State.noteReset (s : State) (port : Nat) : State :=
  if s.must.slot.isSome && s.must.ready && (s.port port).cls == 1 then { s with must := { s.must with resets := s.must.resets ++ [port] } } else s

/-- One pass through RESET, up to DETECT or OFF (R344 to R347). Reasons: 1 retrain timeout, 2 protocol error, 3 command, 4
disabled. `own` sends a LINK-RESET flit. -/
def State.resetPort (s : State) (port reason : Nat) (own off : Bool) : State :=
  let p := s.port port
  let heads := (p.strayQ.filter fun f => bit f.1 44).map (fun f => Packet.ofHead f.1 f.2) ++ p.heldHeads
    ++ (match p.partial_ with | some q => [q.1] | none => [])
    ++ (s.net.packets.filter fun e => e.2.node == 8192 + port).map fun e => e.2.packet
  let s1 := if own then s.sendReset port reason else s
  let p1 := { (s1.port port).cleared.count 9 1 with
    resetReason := reason, resetTally := s.moduleTally, st := if off then .off else .detect, drain := p.drain || s.bound port }
  let s2 := ((s1.setPort port p1).assertEvent (port / 16) (64 + port % 16)).noteReset port
  let i := s2.rawIn (rxLink port)
  let null := fun (f : DFlit) => { f with kind := 4, payload := 0 }
  let s3 := s2.setIn (rxLink port) { i with wire := i.wire.map null, buf := i.buf.map null }
  let s4 := { s3 with net := { s3.net with packets := s3.net.packets.filter fun e => e.2.node != 8192 + port } }
  let s5 := heads.foldl (fun s h => s.answerDropped port h) s4
  if s.bound port then
    let s6 := s5.addFailure 2 (0x8000 + port)
    match s6.foldNow with
    | some (f, t) => if (s6.foldPlace f).1 = port ∧ s6.fab.fold.arrival.isSome = true then s6.parentFailed f t 2 port else s6
    | none => s6
  else s5

/-! The receiver (R331, R335). -/

/-- A NORMAL receiver enters RETRY with a new NAKID (R331). -/
def Port.enterRetry (p : Port) : Port :=
  if p.retry then p else { p with retry := true, nakid := (p.nakid + 1) % 8, nakNew := true, retries := p.retries + 1 }

/-! Lane operations (R339 to R342). -/

/-- The port's own lane operation has started, with its first LANE message, and not ended (R342). -/
def Port.ownOp (p : Port) : Bool :=
  match p.laneOp with | .switchOut .. | .addOut .. | .retrainOut => p.laneSent | _ => false
/-- The port without its own lane operation; a commanded retrain is left to be tried again (R342). -/
def Port.dropOwn (p : Port) : Port :=
  match p.laneOp with
  | .switchOut .. | .addOut .. => { p with laneOp := .none, laneMsgs := withdraws p.laneMsgs }
  | .retrainOut => { p with laneOp := .none, laneMsgs := withdraws p.laneMsgs, retrainCmd := true }
  | _ => p
/-- A message of the peer that starts an operation meets the port's own: none when the port's MODID is lower and the message is
ignored, otherwise the port with its own operation withdrawn; one that has not started gives way in silence (R339, R342). -/
def State.yieldLane (s : State) (port : Nat) : Option Port :=
  let p := s.port port
  if !p.ownOp then some p.dropOwn
  else if s.fuse.modid < p.peerModid then none
  else some (p.dropOwn.lane 3 0 0)
/-- The codeword count that a SWITCH of this receiver names (R339). -/
def Port.switchAt (p : Port) : Nat := (p.cwRecv + 64) % 65536
/-- Send SWITCH for a new inbound set. -/
def Port.sendSwitch (p : Port) (mask : Nat) : Port :=
  { p.lane 0 mask p.switchAt with laneOp := .switchOut mask p.switchAt }

/-! Sealing (R325 to R328). -/

/-- The payload of SEAL-HELLO (R325). -/
def State.sealHello (s : State) (port nonce eph : Nat) : Block :=
  bytesBv 2048 (leBytes 8 s.fuse.modid ++ leBytes 1 port ++ leBytes 1 1 ++ leBytes 2 0 ++ leBytes 32 nonce ++ pointBytes s.fuse.idPub
    ++ s.fuse.endorse ++ pointBytes (publicOf eph))

/-- An end enters SEAL: a fresh key pair and nonce for the attempt, and its first SEAL-HELLO (R323, R325). -/
def State.enterSeal (s : State) (port : Nat) : State :=
  let a := s.draw
  let b := a.2.draw
  let eph := 1 + a.1.toNat % (p256N - 1)
  b.2.modPort port fun p =>
    let h := s.sealHello port b.1.toNat eph
    { p.control 2 h true with
      st := .seal, ephKey := eph, hello := h, peerHello := none, keys := none, proofRepeat := false
      sealRun := p.sealRun + 1, persistent := if 64 ≤ p.sealRun + 1 then 1 else p.persistent }

/-- A field of a SEAL-HELLO payload as bytes. -/
def helloBytes (h : Block) (o n : Nat) : Bytes := slice (bvBytes 256 h) o n

/-- Keys of the two directions from the two HELLOs and the own ephemeral key: outbound, inbound (R326). -/
def sealKeys (eph : Nat) (own peer : Block) : Bytes × Bytes :=
  let mo := Block.field own 0 8
  let mp := Block.field peer 0 8
  let lo := if mo < mp then own else peer
  let hi := if mo < mp then peer else own
  let z := ecdh eph (pointOf (helloBytes peer 172 64))
  let okm := hkdf64 (helloBytes lo 12 32 ++ helloBytes hi 12 32) z (ascii "XANCEL-SEAL-1" ++ helloBytes lo 0 9 ++ helloBytes hi 0 9)
  if mo < mp then (slice okm 0 32, slice okm 32 32) else (slice okm 32 32, slice okm 0 32)

/-- What a SEAL-PROOF signs: both HELLOs, the lower MODID first, and a label (R326). -/
def proofText (own peer : Block) : Bytes :=
  let lo := if Block.field own 0 8 < Block.field peer 0 8 then own else peer
  let hi := if Block.field own 0 8 < Block.field peer 0 8 then peer else own
  bvBytes 256 lo ++ bvBytes 256 hi ++ ascii "XANCEL-PROOF"

/-- The reason to refuse a SEAL-HELLO, if any (R327, R491). -/
def State.helloRefusal (s : State) (h : Block) : Option Nat :=
  let idpub := pointOf (helloBytes h 44 64)
  if !ecdsaVerify Config.endorsementKey (helloBytes h 0 8 ++ helloBytes h 44 64) (helloBytes h 108 64) then some 1
  else if !onCurve idpub || !onCurve (pointOf (helloBytes h 172 64)) then some 2
  else if Block.field h 0 8 = s.fuse.modid then some 4
  else if Block.field h 9 1 ≠ 1 then some 5
  else none

/-- A port goes back to DETECT from training or sealing; ephemeral key and keys are erased (R323, R327). -/
def Port.toDetect (p : Port) : Port :=
  { p with st := .detect, ephKey := 0, keys := none, peerHello := none, proofRepeat := false, ctlQ := [], converged := 0
           trainRun := 0, locked := false, peerLocked := false }
/-- An exchange is refused (R327). -/
def Port.refused (p : Port) (reason peer : Nat) : Port := { p.toDetect with refuse := reason, refusePeer := peer }

/-- A port enters ACTIVE from SEAL: every counter restarts, and its codeword stream goes on (R311, R312, R328, R329, R337). -/
def Port.toActive (p : Port) : Port :=
  { p with
    st := .active, sealRun := 0, persistent := 0, ephKey := 0, eseq := 0, expect := 0, retry := false, nakid := 0, retries := 0
    nakNew := false, nakActed := 0, replay := [], replayAt := none, dSent := 0, dFreed := 0, rFreed := 0, sSent := [], sFreed := []
    rsFreed := [], dHeld := 0, sHeld := [], partial_ := none, skipData := 0, lastMsgs := [], slice2 := none, rxSlice := none, cwSent := 0
    cwRecv := 0, badCws := 0, laneErrs := [], laneOp := .none, laneSent := false, retrainCmd := false, ignored := false, laneMsgs := []
    deskew := 0 }

/-- LOCK begins, or RETRAIN's part of it: the lane sets are taken, and a new codeword stream and a new TRAIN attempt start (R311, R322
to R324). -/
def Port.beginLock (p : Port) (rx tx : BitVec 4) : Port :=
  { p with
    converged := rx, rxLanes := rx, txLanes := tx, trainRun := 0, locked := false, peerLocked := false, cwFlits := [], symbols := 0
    flitCount := 0, slice2 := none, rxSlice := none, cseq := Tab.put 1 ((Tab.get 0 p.cseq 1 + 1) % 256) p.cseq }

end Sys2Proof.Machine
end

