-- ==== Sys2Proof/Machine/FetchOps.lean ====
section
/-! DEFINITION. The fetch unit: what may be read ahead of issue (R46, R84, R88) and the fetch queue at a context start (R71). -/

namespace Sys2Proof.Machine

/-- A bundle's C slot holds a branch. -/
def isBranch (n : Nat) (w : BitVec 256) : Bool :=
  match (decodeBundle n w).slots.getD 0 none with
  | some (.br ..) | some (.beqz ..) | some (.bnez ..) | some (.bltz ..) | some (.bgez ..) | some (.bdec ..) => true
  | _ => false
/-- A bundle's C slot holds a HURDLE or a FOLD. -/
def isBarrier (n : Nat) (w : BitVec 256) : Bool :=
  match (decodeBundle n w).slots.getD 0 none with
  | some (.hurdle ..) | some (.fold ..) => true
  | _ => false

/-- Bundles queued or read and still on their way, in stream order. -/
def Core.comingBundles (c : Core) : List (Nat × BitVec 256) :=
  c.queue ++ c.flights.flatMap fun f => match f.act with | .fetchIn l => bundlesOf l (c.readLine l) | _ => []

/-- The address of the first branch that has not issued, among queued bundles. -/
def Core.nextBranch (c : Core) (n : Nat) : Option Nat :=
  ((c.comingBundles.find? fun b => isBranch n b.2 && !(b.1 == c.pc && c.issued.contains 0))).map (·.1)

/-- The last line that the fetch unit may read: that of the last bundle of a shadow (R84). -/
def Core.fetchLimit (c : Core) (n : Nat) : Option Nat :=
  match c.shadow with
  | some h => if h.taken then some ((c.pc + 32 * (h.left - 1)) / 64) else (c.nextBranch n).map fun a => (a + 128) / 64
  | none => (c.nextBranch n).map fun a => (a + 128) / 64

/-- A priority-1 access or an access already made uses the bank in this core cycle (R85). -/
def State.bankFree (s : State) (n b : Nat) : Bool :=
  let c := s.core n
  !c.banks.contains b && !(s.advances n && c.dueNow.any fun f => (c.banksFor f.act).contains b)

/-- The fetch unit may read its next line in this core cycle (R46, R56, R84, R88). -/
def State.mayFetch (s : State) (n : Nat) : Bool :=
  let c := s.core n
  let line := c.fetchAt / 64
  c.run == .run && !c.ended && (s.advances n || c.queue.isEmpty) && decide (c.queue.length ≤ 78)
    && !(c.flights.any fun f => match f.act with | .fetchIn _ => f.due == c.live + 2 | _ => false)
    && (match c.fetchLimit n with | some l => decide (line ≤ l) | none => true) && s.bankFree n (bankOf line)

/-- The fetch queue is filled from the core's stream position, as far as R84 lets the fetch unit read (R46, R71, R104). -/
def State.fillQueue (s : State) (n : Nat) : Nat → State
  | 0 => s
  | k + 1 =>
    let c := s.core n
    let line := c.fetchAt / 64
    if c.queue.length ≤ 78 ∧ (match c.fetchLimit n with | some l => decide (line ≤ l) | none => true) = true then
      let r := s.fetchRead n line
      State.fillQueue (r.2.modCore n fun c => { c.enqueue line r.1 with fetchAt := 64 * (line + 1), banks := [] }) n k
    else s

end Sys2Proof.Machine
end

