-- ==== Sys2Proof/Machine/TimeOps.lean ====
section
/-! DEFINITION. Operations of the time unit: re-anchoring, SYNC edges, the time parent, the servo (R365 to R387, R583). -/

namespace Sys2Proof.Machine

/-- Re-anchor at a stamp with a new RATE (R368). -/
def TimeUnit.anchor (t : TimeUnit) (stamp : Nat) (rate : Int) : TimeUnit := { t with off := t.nt stamp, sa := stamp, rate }

/-- The time unit enters a state; source 5 on a change (R370, R503). -/
def State.timeState (s : State) (st : TimeSt) : State :=
  let s1 := { s with time := { s.time with st } }
  if s.time.st = st then s1 else s1.assertEvent 0 5

/-- The module is the bellwether (R373). -/
def State.isBell (s : State) : Bool := s.fuse.modid == s.nv.bell

/-- The ports in ACTIVE. -/
def State.activePorts (s : State) : List Nat := (List.range 32).filter fun p => (s.port p).st == .active

/-- The ports that R375 allows as time parent, in port order: productive ones toward the bellwether in the loaded context that was last
mustered; with none mustered, the ACTIVE ones of least HOPS. -/
def State.timePorts (s : State) : List Nat :=
  match s.time.mustered.head? with
  | some slot =>
    let b := (s.ctx slot).image
    match Img.find b s.fuse.modid, Img.find b s.nv.bell with
    | some m, some d => Img.productives b m d
    | _, _ => []
  | none =>
    let act := s.activePorts
    let best := (minNat? (act.map fun p => (s.port p).hops)).getD 0xFF
    act.filter fun p => (s.port p).hops == best

/-- PARENT and HOPS of a port taken as parent (R375). -/
def State.takeParent (s : State) (p : Nat) : State :=
  { s with time := { s.time with parent := p, hops := min 0xFF ((s.port p).hops + 1) } }

/-- The parent in use: the lowest port that R375 allows, unless R380 found another or the parent taken has left ACTIVE and its loss is to
be handled. -/
def State.parentNow (s : State) : Option Nat :=
  let p := s.time.parent
  if p < 32 ∧ (s.time.found = true ∨ (s.port p).st ≠ .active) then some p else s.timePorts.head?

/-- A context's table comes to govern the time parent, or ceases to: the next request goes to the port that R375 names (R375). -/
def TimeUnit.reparent (t : TimeUnit) (slots : List Nat) : TimeUnit :=
  if t.mustered = slots then t else { t with mustered := slots, parent := 0xFF, hops := 0xFF, found := false, trying := [] }

/-- HOPS of the module: 0 at the bellwether, 0xFF outside NET (R375, R376, R387). -/
def State.hopsNow (s : State) : Nat := if s.time.st != .net then 0xFF else if s.isBell then 0 else s.time.hops
/-- PARENT, 0xFF for none (R375, R387). -/
def State.parentPort (s : State) : Nat := if s.time.st != .net || s.isBell then 0xFF else s.time.parent

/-- Nothing of NET goes on: no parent, no exchange, no slew (R370, R375). -/
def TimeUnit.leaveNet (t : TimeUnit) : TimeUnit :=
  { t with trying := [], asked := none, misses := 0, slewing := false, stepNext := false, parent := 0xFF, hops := 0xFF, found := false }

/-- Enter NET: the bellwether's registers are frozen; the frequency starts from RATE; a command that waits for an edge is replaced
(R370, R373). -/
def State.enterNet (s : State) (step : Bool) : State :=
  let s1 := s.timeState .net
  { s1 with time := { s1.time.leaveNet with freq := s1.time.rate, stepNext := step && !s1.isBell, atEdge := none } }

/-- Network time of a SYNC edge k after T_s, in 2^-32 ns (R371). -/
def edgeTime (ts k : Nat) : Nat := ts * 2 ^ 32 + k * 4194304 * 2 ^ 32 / 10

/-- An interval in 2^-32 ns, in ps rounded to nearest. -/
def psOf (x : Int) : Int := roundDiv (x * 1000) (2 ^ 32)

/-- The records that an accepted edge leaves: TALLY_MARK, its stamp, the edges counted for the gate (R372, R384, R385). -/
def State.edgeRecords (s : State) (k stamp : Nat) : State :=
  { s with time := { s.time with
    edges := pushRecent 5 (k, stamp) s.time.edges, gateEdge := s.time.gateEdge + 1
    tallyMark := if s.runSlot.isSome then pushRecent 16 (k, s.moduleTally) s.time.tallyMark else s.time.tallyMark } }

/-- Edge 0 of an arm: REF begins, but for a module in COAST, which only REJOIN and NET end: it only counts from the new arm (R371, R374,
R380, R583). -/
def State.firstEdge (s : State) (ts stamp : Nat) : State :=
  let t := { s.time with armed := none, arm := some (ts, 0), edges := [], lastCount := some 0 }
  let at_ := match s.time.atEdge with | some (5, _) => none | a => a
  (if s.time.st = .coast then ({ s with time := { t with atEdge := at_ } } : State)
  else ({ s with time := { t.leaveNet with atEdge := at_, sa := stamp, off := ts * 2 ^ 32 } } : State).timeState .ref).edgeRecords 0 stamp

/-- A later accepted edge in REF: the time of the edge, and RATE once four periods are measured (R371, R372). -/
def TimeUnit.refEdge (t : TimeUnit) (ts k stamp : Nat) : TimeUnit :=
  let t1 := { t with sa := stamp, off := edgeTime ts k % 2 ^ 96 }
  match t.edges.find? fun (e : Nat × Nat) => decide (4 ≤ k) && e.1 == k - 4 with
  | some e =>
    let m : Nat := (stamp + 2 ^ 64 - e.2) % 2 ^ 64
    { t1 with rate := roundDiv ((((4 * 2 ^ 23 : Nat) : Int) - (m : Int)) * 2 ^ 40) m }
  | none => t1

/-- A later accepted edge in NET or COAST: SYNC_MON (R374). -/
def TimeUnit.monEdge (t : TimeUnit) (ts k stamp : Nat) : TimeUnit :=
  { t with syncMon := satInt 64 (psOf (signed 96 (t.nt stamp + 2 ^ 96 - edgeTime ts k % 2 ^ 96))) }

/-- A command that names an edge takes effect at it, one microsecond or more after it landed; COAST is not left so (R370, R373, R380). -/
def State.edgeCommand (s : State) : State :=
  match s.time.atEdge with
  | some (c, at_) =>
    if s.now < at_ + cyclesPerUs then s
    else
      let s1 := { s with time := { s.time with atEdge := none } }
      if c = 1 then (if s.time.st = .ref then s1.enterNet false else s1)
      else if s.time.st = .coast then s1
      else match s.time.arm, s.time.edges with
        | some (ts, k), (_, st) :: _ => let s2 := s1.timeState .ref; { s2 with time := s2.time.leaveNet.refEdge ts k st }
        | _, _ => s1
  | none => s

/-- A SYNC edge under an arm (R371, R374, R583). -/
def State.laterEdge (s : State) (count stamp : Nat) : State :=
  match s.time.arm, s.time.lastCount with
  | some (ts, _), some _ =>
    if count % 65536 ≠ 0 then { s with time := { s.time with rejected := satAdd 64 s.time.rejected 1 } }
    else
      let k := count / 65536
      let t := if s.time.st = .ref then s.time.refEdge ts k stamp else s.time.monEdge ts k stamp
      (({ s with time := { t with arm := some (ts, k), lastCount := some count } } : State).edgeRecords k stamp).edgeCommand
  | _, _ => s

/-- A TIME flit's payload before the PHY writes TX (R376). -/
def State.timePayload (s : State) (port kind hops t1 t2 nt2 xseq : Nat) : Block :=
  let code := match s.time.st with | .unset => 0 | .ref => 1 | .net => 2 | .coast => 3
  bytesBv 2048 (leBytes 8 s.fuse.modid ++ leBytes 1 port ++ leBytes 1 kind ++ leBytes 1 hops ++ leBytes 1 code
    ++ leBytes 4 s.nv.tepoch ++ leBytes 8 s.nv.bell ++ leBytes 8 t1 ++ leBytes 8 t2 ++ leBytes 8 0 ++ leBytes 12 nt2 ++ leBytes 1 xseq)

/-- Send a TIME request on a port (R376, R377). -/
def State.askTime (s : State) (p : Nat) : State :=
  let x := (s.time.xseq + 1) % 256
  let pay := s.timePayload p 0 0 0 0 0 x
  ({ s with time := { s.time with xseq := x, asked := some p } } : State).modPort p fun q => q.control 7 pay true

/-- θ × 40 of an exchange, in 2^-32 ns, and twice P̂ (R377). -/
def TimeUnit.theta (t : TimeUnit) (t1 t2 tx t4 nt2 : Nat) : Int × Int :=
  let p2 := signed 64 (t4 + 2 ^ 64 - t1) - signed 64 (tx + 2 ^ 64 - t2)
  (40 * signed 96 (nt2 + 2 ^ 96 - t.nt t1) - p2 * 2 ^ 32, p2)

/-- The correction of an accepted θ over an interval of `i` ns (R379). -/
def TimeUnit.servo (t : TimeUnit) (stamp : Nat) (th40 : Int) (i : Nat) : TimeUnit :=
  let freq := satInt 32 (t.freq + roundDiv (th40 * 2 ^ 8) (640 * i))
  { t.anchor stamp (satInt 32 (freq + roundDiv (th40 * 2 ^ 8) (40 * i))) with freq, slewing := true }

/-- The records of an accepted exchange (R387). -/
def TimeUnit.accepted (t : TimeUnit) (th40 p2 : Int) : TimeUnit :=
  { t with lastTheta := satInt 64 (roundDiv (th40 * 25) (2 ^ 32)), lastPath := (p2 * 25).toNat % 2 ^ 32, misses := 0, asked := none }

/-- A θ applied as a step of OFF, with FREQ := RATE (R380). -/
def TimeUnit.stepBy (t : TimeUnit) (th40 : Int) : TimeUnit :=
  let d := roundDiv th40 40
  { t with off := (((t.off : Int) + d) % 2 ^ 96).toNat, freq := t.rate, stepNext := false, lastStep := d }

/-- Enter COAST (R370, R378, R380). -/
def State.coast (s : State) : State :=
  let s1 := s.timeState .coast
  { s1 with time := s1.time.leaveNet }

/-- COAST: RATE and OFF keep their values; a command that waits for an edge is replaced (R370). -/
def State.cmdCoast (s : State) : State := let s1 := s.coast; { s1 with time := { s1.time with atEdge := none } }

/-- REFUSALS and REFUSED_THETA of a correction refused (R378, R387). -/
def State.refuseTheta (s : State) (th40 : Int) : State :=
  { s with time := { s.time with refusals := satAdd 32 s.time.refusals 1, refusedTheta := satInt 64 (roundDiv (th40 * 25) (2 ^ 32)) } }

/-- A usable reply's θ: stepped, slewed, or refused with a time jump event; of a port in trial, the trial then goes on (R377 to R380). -/
def State.useReply (s : State) (port t1 t2 tx t4 nt2 : Nat) : State :=
  let th := s.time.theta t1 t2 tx t4 nt2
  if s.time.stepNext then
    (({ s with time := { (s.time.stepBy th.1).accepted th.1 th.2 with found := s.time.found || s.time.trying != [], trying := [] } } : State).takeParent port)
  else if th.1.natAbs ≤ s.nv.jump * 40 * 2 ^ 32 then
    (({ s with time := { (s.time.servo s.stamp th.1 (1000 * s.nv.interval)).accepted th.1 th.2 with
      found := s.time.found || s.time.trying != [], trying := [] } } : State).takeParent port)
  else if s.time.trying ≠ [] then (({ s with time := { s.time with asked := none } } : State).refuseTheta th.1).assertEvent 0 5
  else s.coast.refuseTheta th.1

end Sys2Proof.Machine
end

