-- ==== Sys2Proof/Machine/MusterOps.lean ====
section
/-! DEFINITION. Discovery, muster and the start of a context (R71, R183, R357 to R363, R599). -/

namespace Sys2Proof.Machine

/-! Discovery (R357). -/

/-- COORD and PEN of the context being mustered; 0xFFFF when there is none. -/
def State.musterIds (s : State) : Nat × Nat :=
  match s.must.slot with
  | some slot =>
    let b := (s.ctx slot).image
    match Img.find b s.fuse.modid with
    | some m => (Img.coord b m, Img.pen b)
    | none => (0xFFFF, 0xFFFF)
  | none => (0xFFFF, 0xFFFF)

/-- A DISCOVERY payload before the PHY writes TX: kind 0 probe, 1 reply (R357). -/
def State.discovery (s : State) (port kind t1 t2 : Nat) : Block :=
  let i := s.musterIds
  bytesBv 2048 (leBytes 8 s.fuse.modid ++ leBytes 1 port ++ leBytes 1 kind ++ leBytes 1 s.fuse.grade ++ leBytes 1 0 ++ leBytes 2 i.1
    ++ leBytes 2 i.2 ++ leBytes 8 t1 ++ leBytes 8 t2)

/-- The measured latency of a reply, in ps (R357, R369). -/
def replyLatency (t1 t2 tx t4 : Nat) : Nat :=
  (25 * (signed 64 (t4 + 2 ^ 64 - t1) - signed 64 (tx + 2 ^ 64 - t2)) + 110000).toNat

/-- A reply is recorded: neighbour and latency, with those of the muster in progress (R357, R358). -/
def State.recordReply (s : State) (port : Nat) (b : Block) (t4 : Nat) : State :=
  let n := (Block.field b 0 8, Block.field b 8 1, Block.field b 12 2, Block.field b 14 2)
  let t1 := Block.field b 16 8
  let l := replyLatency t1 (Block.field b 24 8) (Block.field b 40 8) t4
  let counts := n.2.2.1 != 0xFFFF && atOrAfter 64 t1 s.must.start
  s.modPort port fun p =>
    let p1 := { p with peer := some n }
    if s.must.slot.isNone || s.must.classed.contains port then p1
    else
      { p1 with
        latsAll := l :: p1.latsAll, lats := if counts then l :: p1.lats else p1.lats, musterPeer := some n
        musterFull := if counts then some n else p1.musterFull, musterCoord := p1.musterCoord || n.2.2.1 != 0xFFFF }

/-! MUSTER flits (R359). -/

/-- A module's slot table section as SDIG takes it (R359). -/
def Img.section (b : Bytes) (m : Nat) : Bytes :=
  slice b (Img.slotOff b m) 16 ++ slice b (field b (Img.slotOff b m + 8) 8) (16 * Img.nset b m)
    ++ (List.range (Img.nset b m)).flatMap fun st =>
      let n := field b (Img.setAt b m st) 4
      slice b (field b (Img.setAt b m st + 8) 8) (16 * n)
        ++ (List.range n).flatMap fun o => let h := Img.outAt b m st o; slice b (field b (h + 8) 8) (8 * field b (h + 4) 4)

/-- A MUSTER payload (R359). -/
def State.musterFlit (s : State) (slot phase round attempt pen reason fmodid : Nat) : Block :=
  let x := s.ctx slot
  let b := x.image
  let pdig := if b = [] then List.replicate 32 0 else x.digest
  let wdig := if b = [] then List.replicate 32 0 else sha256 (Img.wiring b)
  let sdig := if b = [] then List.replicate 32 0 else sha256 ((List.range (Img.nmod b)).flatMap (Img.section b))
  bytesBv 2048 (leBytes 8 s.fuse.modid ++ leBytes 1 phase ++ leBytes 1 round ++ leBytes 2 pen ++ leBytes 4 attempt ++ pdig ++ wdig ++ sdig
    ++ leBytes 4 s.sec.mcVersion ++ leBytes 4 s.sec.ioVersion ++ leBytes 1 s.fuse.grade ++ leBytes 1 (Img.mode b)
    ++ leBytes 4 s.nv.tepoch ++ leBytes 2 0 ++ leBytes 8 s.nv.bell ++ leBytes 1 reason ++ leBytes 1 0 ++ leBytes 8 fmodid)

/-- Send a MUSTER flit on ports, those in ACTIVE; it is the latest (R359). -/
def State.sendMuster (s : State) (ports : List Nat) (b : Block) (fresh : Bool) : State :=
  ports.foldl (fun s p => if (s.port p).st = .active then s.modPort p fun q => q.control 5 b fresh else s) s

/-- The MATCH ports (R358). -/
def State.matchPorts (s : State) : List Nat := (List.range 32).filter fun p => (s.port p).cls == 1

/-- The module's latest flit of the attempt changes and is sent (R359, R360). -/
def State.newMuster (s : State) (b : Block) : State :=
  let ps := s.matchPorts
  ({ s with must := { s.must with latest := some b, ports := ps } } : State).sendMuster ps b true

/-- A muster ends without a start: the slot is where it came from, its KV requests are applied, the reasons are kept, source 4 (R361, R422,
R433, R497, R503). -/
def State.musterEnds (s : State) (reason fmodid rx : Nat) (b : Block) : State :=
  match s.must.slot with
  | none => s
  | some slot =>
    let s1 := s.modCtx slot fun x => { x with musterReason := reason, musterFmodid := fmodid, musterRx := rx }
    let s2 := { s1 with must := { s1.must with slot := none, ready := false, failed := true, timer := s.now, resets := [] } }
    (((s2.newMuster b).ctxState slot (s.ctx slot).origin).assertEvent 0 4).applyKvQueue slot

/-- The muster fails for a cause of this module (R361). -/
def State.musterFail (s : State) (reason : Nat) : State :=
  match s.must.slot with
  | none => s
  | some slot =>
    let b := s.musterFlit slot 2 0 s.must.attempt (Img.pen (s.ctx slot).image) reason s.fuse.modid
    s.musterEnds reason s.fuse.modid 0 b

/-- A FAIL that the module sends without a muster of its own, repeated on its ports (R599). -/
def State.bareFail (s : State) (slot attempt pen : Nat) (ports : List Nat) : State :=
  let b := s.musterFlit slot 2 0 attempt pen 12 s.fuse.modid
  let s1 := { s with must := { s.must with fails := (s.must.fails.filter fun (f : Nat × Nat × Block) => !ports.contains f.1) ++ ports.map fun p => (p, s.now, b) } }
  s1.sendMuster ports b true

/-! The start of a context (R71, R183). -/

/-- A core as a context start leaves it: what R71 and R300 list is reset; memory and records are kept. -/
def Core.start (c : Core) (tally desc pc : Nat) : Core :=
  { sram := c.sram, ecc := c.ecc, fill := c.fill, regions := c.regions, writeback := c.writeback, scrubLine := c.scrubLine
    agentSeq := c.agentSeq, ejectQ := c.ejectQ, respQ := c.respQ, atomics := c.atomics, hostWaiting := c.hostWaiting
    loads := c.loads, work := c.work, satStep := c.satStep, strayHist := c.strayHist, holdCycles := c.holdCycles, closureWait := c.closureWait, runahead := c.runahead
    corrected := c.corrected, badStatus := c.badStatus, stallRec := c.stallRec, siteBad := c.siteBad, live := c.live
    run := .run, tally, desc, pc, fetchAt := 64 * (pc / 64) }

/-- Every OUT of every set of a module. -/
def Img.allOuts (b : Bytes) (m : Nat) : List Nat :=
  ((List.range (Img.nset b m)).flatMap fun st => (Img.tabs b m st).map (·.out)).eraseDups

/-- The drove fabric at a context start: every output and every input at the starting step (R251, R255). -/
def Fabric.start (b : Bytes) (m step desc : Nat) : Fabric :=
  let outs := Img.allOuts b m
  let o : OutSt := { step, desc }
  let i : InSt := { step, desc }
  { outs := outs.foldl (fun t k => Tab.put k o t) []
    ins := (outs ++ (List.range 32).map rxLink).foldl (fun t k => Tab.put k i t) [] }

/-- The records that hold the slot that last ran belong to another slot from here (R394, R500). -/
def State.clearRecords (s : State) : State :=
  { s with
    cores := Tab.map (fun _ c => { c with strayHist := [], holdCycles := [], closureWait := 0 }) s.cores
    ports := Tab.map (fun _ p => { p with holdCycles := [] }) s.ports
    diag := { s.diag with foldRecs := [], holdCycles := [], closureWait := 0 }
    time := { s.time with foldTime := [], tallyMark := [] } }

/-- A port that was through RESET between ready and the start of the context that uses it: its reset-drain is in force and the first fold
fails (R345, R347, R362). -/
def State.resetBefore (s : State) (port : Nat) : State :=
  if s.bound port then (s.modPort port fun p => { p with drain := true }).addFailure 2 (0x8000 + port) else s

/-- The mustered context starts: its cores, the fabric, step reports, a new fold interval, and the fetch queues (R71, R143,
R183, R268, R300, R360, R362, R375, R422, R497, R596). -/
def State.startCtx (s : State) (slot : Nat) : State :=
  let x := s.ctx slot
  let b := x.image
  let m := (Img.find b s.fuse.modid).getD 0
  let ns := List.range s.nCores
  let s0 := if s.diag.lastSlot = some slot ∨ s.diag.lastSlot = none then s else s.clearRecords
  let pcOf := fun n => match x.pcs.find? (·.1 == n) with | some p => p.2 | none => Img.entry b m n
  let s1 := ns.foldl (fun (s : State) n => s.modCore n fun c => c.start x.tally x.desc (pcOf n)) s0
  let s2 := { s1 with
    fab := Fabric.start b m x.tally x.desc
    must := { s1.must with slot := none, completed := true, failed := false, resets := [] }
    time := s1.time.reparent (slot :: s1.time.mustered.erase slot)
    diag := { s1.diag with lastSlot := some slot } }
  let s3 := (s2.modCtx slot fun x => { x with killed := false, lastFold := none, musterReason := 0, musterFmodid := 0, musterRx := 0 })
  let s4 := ((s3.ctxState slot .running).assertEvent 0 4).freshInterval
  let s5 := ns.foldl State.sendReports s4
  let s6 := ns.foldl (fun s n => s.fillQueue n 41) s5
  s0.must.resets.foldl State.resetBefore s6

/-! Classification (R358). -/

/-- Eight replies with a COORD have come (R358). -/
def Port.enoughReplies (p : Port) : Bool := decide (8 ≤ p.lats.length)
/-- The reply that a port with USE = 1 is classed by: the latest of the eight with a COORD, else of all (R358). -/
def Port.classedBy (p : Port) : Option (Nat × Nat × Nat × Nat) := if p.enoughReplies then p.musterFull else p.musterPeer

/-- Class of a port with USE = 1 (R358). -/
def State.classOne (s : State) (b : Bytes) (m port : Nat) : Nat :=
  let p := s.port port
  let pm := Img.pmod b m port
  match p.st, p.classedBy with
  | .active, some n =>
    let named := n.1 == Img.modid b pm && n.2.1 == Img.pport b m port
    if named && !p.musterCoord then 2
    else if !named || n.2.2.1 != Img.coord b pm then 3
    else if 1000 * Img.lat b m port < p.latency then 4 else 1
  | _, _ => 2

/-- Class of a port with USE = 0 or 2 (R358). -/
def State.classOther (s : State) (b : Bytes) (m port : Nat) : Nat :=
  let p := s.port port
  if Img.use b m port = 2 then
    match p.st, p.peer with
    | .active, some n => if n.2.2.2 = Img.pen b then 3 else 7
    | _, _ => 7
  else if p.st = .active then 6 else 5

/-- Give a port its class, and the neighbour of the reply that it rests on; a tolerant port that is miswired or extra disables itself
(R358). -/
def State.setClass (s : State) (b : Bytes) (m port cls : Nat) (n : Option (Nat × Nat × Nat × Nat)) : State :=
  let s1 := s.modPort port fun p => { p with
    cls, peerRec := match n with | some n => (n.1, n.2.1, n.2.2.1) | none => p.peerRec }
  if (cls = 3 ∨ cls = 6) ∧ Img.tol b m port = true then
    (s1.resetPort port 4 true true).modPort port fun p => { p with func := 0 }
  else s1

/-! The course of a muster (R358 to R360). -/

/-- REASON with which a port's class blocks the muster, if it does (R358, R360). -/
def blocking (cls : Nat) (tol : Bool) : Option Nat :=
  if cls = 2 then (if tol then none else some 9)
  else if cls = 3 ∨ cls = 6 then (if tol then none else some 10)
  else if cls = 4 then some 11 else none

/-- Fields that a RECORD is compared over, in order: offset, bytes, REASON (R359 to R361). -/
def recordFields : List (Nat × Nat × Nat) :=
  [(10, 2, 1), (16, 32, 1), (48, 32, 2), (80, 32, 3), (112, 8, 4), (120, 1, 5), (121, 1, 6), (122, 4, 7), (128, 8, 8)]

/-- REASON of the first field in which a RECORD differs from the module's own, if any. -/
def recordDiffers (own got : Block) : Option Nat :=
  (recordFields.find? fun f => Block.field own f.1 f.2.1 != Block.field got f.1 f.2.1).map (·.2.2)

/-- Step 1 of R360: with every USE = 1 port classed, the others are classed too (R358), and the module fails or sends RECORD. -/
def State.musterClassed (s : State) (slot : Nat) (b : Bytes) (m : Nat) : State :=
  let used := (List.range 32).filter fun p => Img.use b m p == 1
  if s.must.recordSent || !(used.all s.must.classed.contains) then s
  else
    let z := ((List.range 32).filter fun p => Img.use b m p != 1).foldl (fun s p => s.setClass b m p (s.classOther b m p) (s.port p).peer) s
    match minNat? ((List.range 32).filterMap fun p => blocking (z.port p).cls (Img.tol b m p)) with
    | some r => z.musterFail r
    | none =>
      let s1 := { z with must := { z.must with recordSent := true } }
      if s1.matchPorts = [] then s1 else s1.newMuster (s1.musterFlit slot 0 0 s1.must.attempt (Img.pen b) 0 0)

/-- Steps 2 and 3 of R360: the neighbours' RECORDs are compared; with all equal the module is ready. -/
def State.musterRecords (s : State) (slot : Nat) (b : Bytes) : State :=
  if !s.must.recordSent || s.must.ready then s
  else
    let own := s.musterFlit slot 0 0 s.must.attempt (Img.pen b) 0 0
    let got := s.matchPorts.map fun p => s.must.recs.find? (·.1 == p)
    match got.findSome? fun (g : Option (Nat × Block)) => g.bind fun r => recordDiffers own r.2 with
    | some r => s.musterFail r
    | none =>
      if got.any Option.isNone then s
      else
        let s1 := { s with must := { s.must with ready := true, round := 0 } }
        if got = [] then s1 else s1.newMuster (s1.musterFlit slot 1 0 s1.must.attempt (Img.pen b) 0 0)

/-- Step 4 of R360: one round after another. -/
def State.musterRounds (s : State) (slot : Nat) (b : Bytes) : Nat → State
  | 0 => s
  | k + 1 =>
    if s.must.ready && decide (s.must.round < Img.diam b) && s.matchPorts.all (fun p => decide (s.must.round < Tab.get 0 s.must.rounds p)) then
      let r := s.must.round + 1
      let s1 := { s with must := { s.must with round := r } }
      State.musterRounds (s1.newMuster (s1.musterFlit slot 1 r s1.must.attempt (Img.pen b) 0 0)) slot b k
    else s

/-- The muster goes as far as it can; at ROUND DIAM the context starts (R360). -/
def State.musterGo (s : State) : State :=
  match s.must.slot with
  | none => s
  | some slot =>
    let b := (s.ctx slot).image
    match Img.find b s.fuse.modid with
    | none => s
    | some m =>
      let s1 := (((s.musterClassed slot b m).musterRecords slot b).musterRounds slot b (Img.diam b + 1))
      if s1.must.slot.isSome && s1.must.ready && decide (Img.diam b ≤ s1.must.round) then s1.startCtx slot else s1

/-- A slot in LOADED or SUSPENDED enters MUSTERING (R358, R359, R422, R497). -/
def State.startMuster (s : State) (slot attempt : Nat) : State :=
  let x := s.ctx slot
  let s1 := s.setCtx slot { x with origin := x.st, musterReason := 0, musterFmodid := 0, musterRx := 0 }
  let s2 := { s1 with
    must := { slot := some slot, attempt := attempt % 2 ^ 32, start := s.stamp, fails := s.must.fails, timer := s.now }
    ports := Tab.map (fun _ p => { p with cls := 0, lats := [], latsAll := [], musterPeer := none, musterFull := none, musterCoord := false }) s1.ports }
  (s2.ctxState slot .mustering).musterGo

/-- Class a port with USE = 1 against its wiring entry (R358, R360). -/
def State.classify (s : State) (port : Nat) : State :=
  match s.must.slot with
  | none => s
  | some slot =>
    let b := (s.ctx slot).image
    match Img.find b s.fuse.modid with
    | none => s
    | some m =>
      if Img.use b m port ≠ 1 ∨ s.must.classed.contains port = true then s
      else
        let p := s.port port
        let ls := if p.enoughReplies then p.lats else p.latsAll
        let s1 := s.modPort port fun p => { p with latency := ls.foldl max 0 % 2 ^ 32 }
        let s2 := s1.setClass b m port (s1.classOne b m port) p.classedBy
        ({ s2 with must := { s2.must with classed := port :: s2.must.classed } } : State).musterGo

/-- A MATCH port that has left ACTIVE before the module is ready fails the muster (R361). -/
def State.checkLeft (s : State) (port : Nat) : State :=
  if s.must.slot.isSome && !s.must.ready && (s.port port).cls == 1 && (s.port port).st != .active then s.musterFail 9 else s

end Sys2Proof.Machine
end

