-- ==== Sys2Proof/Machine/FoldOps.lean ====
section
/-! DEFINITION. How a core closes a step, how a fold's outcome is carried out, and how a context ends, stops or hands over (R18, R19,
R21, R35, R36, R183, R236, R422, R424, R426). -/

namespace Sys2Proof.Machine

/-- The outcome that a core which has one is to carry out: that of the fold unit, or the last that reached every core. -/
def State.outcomeHeld (s : State) : Option FoldMsg := s.fab.fold.outcome <|> s.fab.fold.last

/-- The failed outcome that has reached a core. -/
def State.failedAt (s : State) (n : Nat) : Bool :=
  (s.core n).foldDone && (match s.outcomeHeld with | some m => m.status != 0 | none => false)

/-- A fold flit of the fold unit can still leave: its output's next position has its flit (R280). -/
def State.foldLeaving (s : State) : Bool :=
  s.fab.fold.tx.any fun t => (s.port t.1).st == .active && (match s.nextEnt (portOut t.1) with
    | some e => (s.flitAt (portOut t.1) (s.outSt (portOut t.1)) e).isSome
    | none => false)

/-- The context has been suspended or has ended, its KV requests applied: SWITCH_TO becomes 0xFF and the slot named at the switch starts
its muster if it still may (R422, R424). -/
def State.handOver (s : State) (h : Option (Nat × Nat)) : State :=
  match h with
  | some (k, attempt) =>
    let s1 : State := { s with switchTo := 0xFF }
    if (s1.ctx k).st = .loaded ∨ (s1.ctx k).st = .suspended then s1.startMuster k attempt else s1
  | none => s

/-- The cores that have not left the running context. -/
def State.liveCores (s : State) : List Nat := s.activeCores.filter fun n => (s.core n).run != .idle

/-- Every core is through with a failed fold: it has the outcome, and its step's stream has ended or it issues nothing (R36). -/
def State.allStopped (s : State) (m : FoldMsg) : Bool :=
  s.liveCores.all fun n => let c := s.core n; c.foldDone && (c.ended || c.run == .silent || isAfter 48 m.tally c.tally)

/-- The TALLY that a slot which a failed fold stops reports: the lowest among the cores, where one that is through with the fold's step
counts as one more (R20, R387). -/
def State.stoppedTally (s : State) (m : FoldMsg) : Nat :=
  (lowestTally (s.liveCores.map fun n => if (s.core n).tally = m.tally then laterTally m.tally 1 else (s.core n).tally)).getD 0

/-- Every core has closed the step of a good switch-point fold (R424). -/
def State.allClosed (s : State) (m : FoldMsg) : Bool :=
  s.liveCores.all fun n => (s.core n).foldDone && (s.core n).tally == m.tally && s.closed n

/-- The running context ends with the closure of its last step, stops after a failed fold, or is suspended at a switch, once every
core has come to it (R19, R36, R183, R422, R424). -/
def State.finishFold (s : State) : State :=
  match s.runSlot with
  | none => s
  | some slot =>
    if s.foldLeaving then s
    else
      let hand := s.fab.fold.handTo
      match s.liveCores with
      | [] => (s.stopCtx slot .ended s.moduleTally lastDesc).handOver hand
      | n :: _ =>
        match s.outcomeHeld with
        | none => s
        | some m =>
          if m.status ≠ 0 then (if s.allStopped m then s.stopCtx slot .stopped (s.stoppedTally m) s.lowDesc else s)
          else if hand.isSome && s.nextDesc n != lastDesc && s.allClosed m then
            (s.stopCtx slot .suspended (laterTally m.tally 1) (s.nextDesc n)).handOver hand
          else s

/-- The outcome has reached every core of the context: the fold unit goes on to the next fold (R279, R597). -/
def State.nextFold (s : State) : State :=
  match s.fab.fold.outcome with
  | some m => if s.liveCores.all fun n => (s.core n).foldDone then
      s.modFold fun f => { own := f.later, tx := f.tx, last := some m, handTo := f.handTo }
    else s
  | none => s

/-- What a good or failed outcome does at a core (R230, R236, R300, R301, R394, R596). -/
def Core.takeOutcome (c : Core) (m : FoldMsg) : Core :=
  let c1 := { c.keepCount.fresh with foldDone := true }
  if m.status = 0 then { c1 with epoch := (c1.epoch + 1) % 4, sendSeq := [], recvSeq := [] } else c1

/-- The outcome reaches one core (R236, R280, R300, R301). -/
def State.outcomeAt (s : State) (n : Nat) : State :=
  match s.fab.fold.outcome with
  | none => s
  | some m =>
    if (s.core n).run == .idle || (s.core n).foldDone then s
    else
      let s1 := (s.modCore n fun c => c.takeOutcome m).endHold n 8 6
      s1.nextFold.finishFold

/-- A core's last step of the program has closed: it issues no more, and with the last core the context ends (R183). -/
def State.closeLast (s : State) (n : Nat) : State :=
  (s.modCore n fun c => { c with run := .idle, tally := laterTally c.tally 1, holds := [] }).finishFold

/-- A core goes to its next step; under a KILL it steps without issuing from here (R274, R426). -/
def State.nextStep (s : State) (n : Nat) : State :=
  let killed := match s.runCtx with | some (_, x) => x.killed | none => false
  let s1 := if killed && (s.core n).run == .run then s.modCore n fun c => (c.failed 6 0).goSilent s.now else s
  s1.openStep n

/-- A core's step is looked at for its closure: a failed fold stops it (R36), a fold without its outcome holds it (R236), a switch
keeps it (R424), the program ends with its last step (R183), the SYNC gate keeps it (R385), else the next step begins (R20, R21). -/
def State.beginStep (s : State) (n : Nat) : State :=
  if s.failedAt n then s.finishFold
  else if !s.closed n then s
  else if (s.foldNamed n).isSome && !(s.core n).foldDone then s.beginHold n 8 6
  else if (s.foldNamed n).isSome && s.fab.fold.handTo.isSome && s.nextDesc n != lastDesc then s.finishFold
  else if s.nextDesc n = lastDesc then s.closeLast n
  else if s.gated n then s.modCore n fun c => { c with gate := some (c.gate.getD s.time.gateEdge) }
  else s.nextStep n

/-- The core's fold wait is over, or the core issues nothing (R235, R274). -/
def Core.foldReady (c : Core) : Bool :=
  c.run == .silent || c.hurdles.any fun h => h.fold && h.done && decide (h.issue < c.live)

/-- A core's arrival at the fold its step names: failed with the lowest of its conditions, else good (R35, R235, R279, R523). -/
def State.arriveCore (s : State) (n : Nat) : State :=
  let c := s.core n
  match s.foldNow with
  | none => s
  | some (f, t) =>
    if c.run == .idle || c.foldSent || c.tally != t || s.foldNamed n != some f || s.fab.fold.outcome.isSome
        || s.fab.fold.arrival.isSome || !c.foldReady then s
    else
      let x := lowestFailure (c.failing.map fun g => { reason := g.1, fmod := s.modNum, fsite := g.2 })
      (s.setCore n { c with failing := [], foldSent := true, hurdles := c.hurdles.filter fun h => !h.fold }).modFold fun u => { u with cores := u.cores ++ [(n, x)] }

/-- The missing arrival of lowest FSITE (R281, R597). -/
def State.missingSite (s : State) (fold : Nat) : Option Nat :=
  match (List.range s.nCores).find? fun n => !(s.fab.fold.cores.any (·.1 == n)) with
  | some n => some n
  | none => ((s.foldPlace fold).2.find? fun p => !(s.fab.fold.children.any (·.1 == p))).map (0x8000 + ·)

/-- The fold timeout: before the arrival, it is completed as failed for what is missing; after it, the outcome is failed in the
PARENT's stead (R281, R597). -/
def State.foldTimedOut (s : State) : State :=
  match s.foldNow with
  | none => s
  | some (f, t) =>
    if s.fab.fold.outcome.isSome then s
    else if s.fab.fold.arrival.isSome then
      (if (s.foldPlace f).1 = 0x3F then s else s.parentFailed f t 8 (s.foldPlace f).1)
    else if s.fab.fold.cores = [] then s
    else
      let s1 := if s.allArrived f then s else match s.missingSite f with
        | some k => s.addFailure 8 k
        | none => s
      s1.sendArrival f t

end Sys2Proof.Machine
end

