-- ==== Sys2Proof/Machine/LoadChecks.lean ====
section
/-! DEFINITION. The checks of a context load (R76, R95, R109, R186, R256 to R260, R277, R355, R405, R414, R431, R600, R601, in the
order of R423). A check answers `none`, or LOAD_STATUS and LOAD_DETAIL of R425. -/

namespace Sys2Proof.Machine

/-- A check's answer: LOAD_STATUS and LOAD_DETAIL (R425). -/
abbrev Refuse := Option (Nat × Nat)

/-- The lowest of the refused items, under a status (R423). -/
def lowest (status : Nat) (l : List Nat) : Refuse := (minNat? l).map fun d => (status, d)

/-! The context parameter block (R400, R600). -/

def cpbMode (b : Bytes) : Nat := field b 4 1
def cpbNkv (b : Bytes) : Nat := field b 6 2
def cpbImg (b : Bytes) : Nat × Nat := (field b 8 8, field b 16 8)
def cpbMan (b : Bytes) : Nat × Nat := (field b 24 8, field b 32 8)

/-- The CPB's own checks (R600). -/
def cpbCheck (b : Bytes) : Refuse :=
  if field b 0 4 ≠ 0x4250435A then some (1, 0)
  else if 1 < cpbMode b then some (1, 4)
  else if field b 5 1 ≠ 0 then some (1, 5)
  else if 32768 < cpbNkv b then some (1, 6)
  else if (cpbImg b).2 < 256 then some (1, 16)
  else if (cpbMan b).2 < 192 ∨ 2 ^ 28 < (cpbMan b).2 then some (1, 32)
  else if (firstNonZero b 104 24).isSome then some (1, 104)
  else none

/-! The image under R186 (R179 to R185). -/

/-- The offset of a field whose offset and length leave the image. -/
def badSpan (b : Bytes) (off len at_ : Nat) : List Nat := if off + len ≤ b.length then [] else [at_]
/-- A reserved field that is not zero. -/
def badZero (b : Bytes) (o n : Nat) : List Nat := if (firstNonZero b o n).isSome then [o] else []
/-- An offset, refused unless the condition holds. -/
def badUnless (c : Bool) (o : Nat) : List Nat := if c then [] else [o]

/-- IMGLEN against the CPB (R600), MAGIC, HVER and DIGEST (R186), then GRADE and MODE (R3, R37). -/
def imgHead (b cpb : Bytes) (grade : Nat) : Refuse :=
  if Img.len b ≠ (cpbImg cpb).2 then some (1, 16)
  else if field b 0 4 ≠ 0x34504E5A then some (3, 0)
  else if field b 4 2 ≠ 1 then some (3, 4)
  else if sha256 (b.take 96 ++ List.replicate 32 0 ++ b.drop 128) ≠ slice b 96 32 then some (3, 96)
  else if Img.grade b ≠ grade ∨ Img.mode b ≠ cpbMode cpb then some (8, 0)
  else none

/-- A region entry of an image's core table covers a line with one of the kinds. -/
def entCovers (kinds : List Nat) (line e : Nat) : Bool :=
  bit e 63 && kinds.contains (bits e 60 58) && decide (bits e 16 0 ≤ line) && decide (line ≤ bits e 48 32)
/-- The region entries of a core in an image. -/
def Img.regions (b : Bytes) (m c : Nat) : List Nat := (List.range 16).map (Img.region b m c)
/-- Consecutive lines all lie in one region of a kind, with the permission bits of a mask set. -/
def inOneRegion (es : List Nat) (kind mask line n : Nat) : Bool :=
  es.any fun e => entCovers [kind] line e && entCovers [kind] (line + n - 1) e && (e &&& mask) == mask

/-- A core's segments: offset of the entry, source, first line, count (R181). -/
def Img.segs (b : Bytes) (m c : Nat) : List (Nat × Nat × Nat × Nat) :=
  (List.range (Img.segCnt b m c)).map fun i =>
    let o := Img.segOff b m c + 16 * i
    (o, field b o 8, field b (o + 8) 4, field b (o + 12) 4)

/-- R186 over one core's table entry. -/
def Img.badCore (b : Bytes) (m c : Nat) : List Nat :=
  let o := Img.coreAt b m c
  let es := Img.regions b m c
  let own := badZero b (o + 148) 108
    ++ badUnless (Img.entry b m c % 32 == 0 && es.any (entCovers [0] (Img.entry b m c / 64))) (o + 128)
  if Img.segOff b m c + 16 * Img.segCnt b m c ≤ b.length then
    let ss := Img.segs b m c
    own ++ ss.flatMap fun g =>
      let lines := (List.range g.2.2.2).map (g.2.2.1 + ·)
      badSpan b g.2.1 (64 * g.2.2.2) g.1
        ++ badUnless (lines.all fun l => es.any (entCovers [0, 1] l)) g.1
        ++ badUnless (ss.all fun h => g.1 ≤ h.1 || h.2.2.1 + h.2.2.2 ≤ g.2.2.1 || g.2.2.1 + g.2.2.2 ≤ h.2.2.1 || h.2.2.2 == 0 || g.2.2.2 == 0) g.1
  else own ++ [o + 136]

/-- R186 over one module's slot table section (R256). -/
def Img.badSlots (b : Bytes) (m : Nat) : List Nat :=
  let o := Img.slotOff b m
  let dir := field b (o + 8) 8
  badZero b (o + 4) 4 ++
    (if dir + 16 * Img.nset b m ≤ b.length then (List.range (Img.nset b m)).flatMap fun st =>
      let d := Img.setAt b m st
      badZero b (d + 4) 4 ++
        (if field b (d + 8) 8 + 16 * field b d 4 ≤ b.length then (List.range (field b d 4)).flatMap fun k =>
          let h := Img.outAt b m st k
          badZero b (h + 2) 2 ++ badUnless (1 ≤ field b (h + 4) 4 && field b (h + 4) 4 ≤ 65536) (h + 4)
            ++ badSpan b (field b (h + 8) 8) (8 * field b (h + 4) 4) (h + 8)
        else [d + 8])
    else [o + 8])

/-- R186 over one fold table entry (R277). -/
def Img.badFold (b : Bytes) (m f : Nat) : List Nat :=
  let v := field b (Img.foldAt b m f) 16
  badUnless (bits v 89 1 == 0 && (bits v 95 90 < 32 || bits v 95 90 == 0x3F)) (Img.foldAt b m f)

/-- R186 over one streamer request entry (R184). -/
def Img.badStream (b : Bytes) (m i : Nat) : List Nat :=
  let o := Img.strmOff b m + 16 * i
  let e := Img.strEntry b m i
  let t := Img.tierEntry b m
  badUnless (e.toff % 64 == 0 && bit t 63 && decide (e.toff + 64 * e.count ≤ bits t 17 9 * 2 ^ 30)) o
    ++ badUnless (1 ≤ e.count && (Img.cores b m ≤ e.core || inOneRegion (Img.regions b m e.core) 3 0 e.line e.count)) (o + 8)
    ++ badUnless (decide (e.core < Img.cores b m)) (o + 12)

/-- R186 over one module table entry and the tables it names. -/
def Img.badModule (b : Bytes) (cores m : Nat) : List Nat :=
  let o := Img.modAt b m
  let has := fun (off len : Nat) => decide (off + len ≤ b.length)
  badUnless ((List.range m).all fun k => Img.modid b k != Img.modid b m) o
    ++ badUnless (bits (Img.coord b m) 13 10 == 0) (o + 8)
    ++ badUnless (Img.cores b m == cores) (o + 10)
    ++ badUnless (decide (Img.nfold b m ≤ 1024)) (o + 12)
    ++ badUnless (bits (Img.tierEntry b m) 62 18 == 0) (o + 16)
    ++ (if has (Img.coreOff b m) (256 * Img.cores b m) then (List.range (Img.cores b m)).flatMap (Img.badCore b m) else [o + 24])
    ++ (if has (Img.slotOff b m) 16 then Img.badSlots b m else [o + 32])
    ++ (if has (Img.strmOff b m) (16 * Img.nstrm b m) then (List.range (Img.nstrm b m)).flatMap (Img.badStream b m) else [o + 40])
    ++ (if has (Img.foldOff b m) (16 * Img.nfold b m) then (List.range (Img.nfold b m)).flatMap (Img.badFold b m) else [o + 48])
    ++ badZero b (o + 60) 4

/-- R186 over one step descriptor, with the modules whose table entries lie in the image (R182). -/
def Img.badDesc (b : Bytes) (ms : List Nat) (d : Nat) : List Nat :=
  let o := Img.descAt b d
  badUnless (Img.length b d != 0) o ++ badZero b (o + 4) 4
    ++ badUnless (Img.next b d == lastDesc || Img.next b d < Img.ndesc b) (o + 8)
    ++ badUnless (Img.foldOf b d == 0xFFFF || ms.all fun m => Img.foldOf b d < Img.nfold b m) (o + 14)
    ++ badUnless (ms.all fun m => Img.stri b d + Img.strn b d ≤ Img.nstrm b m) (o + 16) ++ badZero b (o + 24) 8

/-- Reserved fields of the wiring table (R353, R354). -/
def Img.badWires (b : Bytes) : List Nat :=
  badZero b (Img.wireOff b + 8) 24 ++ (List.range (32 * Img.nmod b)).filterMap fun k =>
    let v := Img.wire b (k / 32) (k % 32)
    if bits v 59 56 + bits v 47 42 + bits v 31 29 + bits v 23 0 = 0 then none else some (Img.wireOff b + 32 + 8 * k)

/-- The other checks of R186, over the whole image: the lowest offset decides (R423). -/
def imgCheck (b : Bytes) (cores modid : Nat) : Refuse :=
  let has := fun (off len : Nat) => decide (off + len ≤ b.length)
  lowest 3 (badUnless (1 ≤ Img.nmod b && Img.nmod b ≤ 1024) 10 ++ badUnless (1 ≤ Img.ndesc b) 12
    ++ badZero b 48 48 ++ badZero b 128 128
    ++ (if has (Img.wireOff b) (32 + 256 * Img.nmod b) then Img.badWires b else [24])
    ++ (if has (Img.modOff b) (64 * Img.nmod b) then
        badUnless (Img.find b modid).isSome (Img.modOff b) ++ (List.range (Img.nmod b)).flatMap (Img.badModule b cores)
      else [32])
    ++ (if has (Img.descOff b) (32 * Img.ndesc b) then
        (List.range (Img.ndesc b)).flatMap (Img.badDesc b (if has (Img.modOff b) (64 * Img.nmod b) then List.range (Img.nmod b) else []))
      else [16]))

/-! Region maps and tier region (R95, R109). -/

/-- The reserved bits of a region map entry, and CTX, which the image writes as zero (R94, R95, R181). -/
def entReserved (e : Nat) : Nat := bits e 62 61 + bits e 51 49 + bits e 31 17
/-- What R95 refuses in one entry by itself. -/
def entBad (e : Nat) : Bool :=
  entReserved e != 0 || bits e 48 32 < bits e 16 0 || 0x17FFF < bits e 48 32 || 3 < bits e 60 58
    || (bits e 60 58 != 1 && (bit e 56 || bit e 55 || bit e 54 || bit e 52))
/-- Two ranges of lines meet. -/
def meets (a b c d : Nat) : Bool := a ≤ d && c ≤ b
/-- Valid entries of a core's region map. -/
def Core.validRegions (c : Core) : List Region := (c.regions.filter (·.2.valid)).map (·.2)
/-- Receive and landing lines among entries. -/
def rxLines (es : List Nat) : Nat :=
  sumNat (es.map fun e => if bit e 63 && (bits e 60 58 == 2 || bits e 60 58 == 3) then bits e 48 32 + 1 - bits e 16 0 else 0)

/-- R95 for one core. -/
def Core.regionCheck (c : Core) (es : List Nat) : Option Nat :=
  let old := c.validRegions
  let hits := fun (i e : Nat) => bit e 63 &&
    (old.any (fun r => meets r.base r.limit (bits e 16 0) (bits e 48 32))
      || (List.range i).any fun j => let f := es.getD j 0; bit f 63 && meets (bits f 16 0) (bits f 48 32) (bits e 16 0) (bits e 48 32))
  match (List.range 16).find? fun i => entBad (es.getD i 0) || hits i (es.getD i 0) with
  | some i => some i
  | none =>
    let oldRx := sumNat (old.map fun r => if r.kind = 2 ∨ r.kind = 3 then r.limit + 1 - r.base else 0)
    if 16384 < oldRx + rxLines es ∨ 16 < old.length + (es.filter (bit · 63)).length then some 0xFFFF else none

/-- R95 over this module's cores: the lowest core, then its lowest entry (R425). -/
def State.regionCheck (s : State) (b : Bytes) (m : Nat) : Refuse :=
  (List.range (Img.cores b m)).findSome? fun c => ((s.core c).regionCheck (Img.regions b m c)).map fun i => (4, c * 65536 + i)

/-- R109: the tier region lies in the usable tier and meets no other context's. -/
def State.tierCheck (s : State) (b : Bytes) (m : Nat) : Refuse :=
  let t := Img.tierEntry b m
  if !bit t 63 then none
  else if bits t 17 9 = 0 ∨ s.tierGiB < bits t 8 0 + bits t 17 9 then some (5, 0)
  else if (List.range 4).any (fun k => match (s.ctx k).tierRegion with
      | some r => decide (r.2 < bits t 8 0 + bits t 17 9) && decide (bits t 8 0 < r.2 + r.1)
      | none => false) then some (5, 0)
  else none

/-! Slot tables (R260, R277). -/

/-- LOAD_DETAIL of status 6 (R425). -/
def slotDetail (set out ent : Nat) : Nat := set * 2 ^ 48 + out * 2 ^ 32 + ent
/-- A part that a refusal does not name. -/
def noEnt : Nat := 0xFFFFFFFF

/-- The OUT exists on the grade, with a neighbour or an I/O die behind it (R257, R260). -/
def outExists (w cores o : Nat) : Bool :=
  let x := (o / 8) % w
  match outKind o with
  | 0 => decide (o / 8 < cores) && decide (o % 8 < 5) && !(o % 8 == 0 && x + 1 == w) && !(o % 8 == 1 && x == 0)
  | 1 => decide (o % 0x4000 < 32)
  | 2 => o % 0x4000 == 0
  | _ => decide (o % 0x4000 < 64) && decide (o % 32 < w)

/-- Positions of a supplying link in a set, none when it has no output: of the module's own output, or of the peer's port (R260). -/
def Img.linkLen (b : Bytes) (m st link : Nat) : Option Nat :=
  if link = foldLink then some 65536
  else if link ≥ 0x10000 then
    (if Img.use b m (link % 32) = 1 then
      ((Img.tabs b (Img.pmod b m (link % 32)) st).find? (·.out == portOut (Img.pport b m (link % 32)))).map (·.ents.length)
    else none)
  else ((Img.tabs b m st).find? (·.out == link)).map (·.ents.length)

/-- A position of an output is taken downstream in its set (R260). -/
def Img.isTaken (b : Bytes) (w m st : Nat) (ts : List OutTab) (out pos : Nat) : Bool :=
  if outKind out = 2 ∨ (outKind out = 0 ∧ out % 8 = 4) then true
  else if outKind out = 1 then
    (takers w (Img.tabs b (Img.pmod b m (out % 32)) st) (rxLink (Img.pport b m (out % 32))) pos) != []
  else (takers w ts out pos) != []

/-- The output that continues in the direction of an input (R270). -/
def onward : Nat → Nat
  | 0 => 1 | 1 => 0 | 2 => 3 | 3 => 2 | _ => 7

/-- The outputs that take one supplying position are one, or the two of a multicast (R270). -/
def castOk (inp : Nat) : List (Nat × Nat) → Bool
  | [_] => true
  | [a, c] => outKind a.1 == 0 && outKind c.1 == 0 && a.1 / 8 == c.1 / 8
      && ((a.1 % 8 == 4 && c.1 % 8 == onward inp) || (c.1 % 8 == 4 && a.1 % 8 == onward inp))
  | _ => false

/-- The outputs of one IPOS of a core FLOW are one, or an opposite pair (R271). -/
def sendOk : List Nat → Bool
  | [_] => true
  | [a, c] => (a % 8, c % 8) == (0, 1) || (a % 8, c % 8) == (1, 0) || (a % 8, c % 8) == (2, 3) || (a % 8, c % 8) == (3, 2)
  | _ => false

/-- What R260 asks of a local-core entry. -/
def localOk (ts : List OutTab) (t : OutTab) (i : Nat) (e : Ent) : Bool :=
  let all := flowEntries ts (t.out / 8) e.flow
  let before := (t.ents.take i).filter (·.inp == 4)
  t.out % 8 != 4
    && (List.range e.ipos).all (fun k => all.any fun f => f.2.2.ipos == k)
    && before.all (fun f => (f.flow != e.flow || f.ipos < e.ipos) && f.aux + 2 ≤ e.aux)
    && sendOk ((all.filter fun f => f.2.2.ipos == e.ipos).map (·.1))

/-- What R260 asks of one entry. -/
def Img.entOk (b : Bytes) (w m st : Nat) (ts : List OutTab) (t : OutTab) (i : Nat) (e : Ent) : Bool :=
  let eject := outKind t.out == 0 && t.out % 8 == 4
  if outKind t.out = 0 ∧ e.inp = 4 then localOk ts t i e
  else match supplier w t.out e.inp with
    | none => false
    | some l =>
      ((t.ents.take i).all fun f => f.inp != e.inp || f.ipos < e.ipos) &&
      if l = foldLink then (t.ents.drop i).all (·.inp == 0x60)
      else
        (match Img.linkLen b m st l with | some n => decide (e.ipos < n) | none => false)
          && castOk e.inp (takers w ts l e.ipos)
          && (!eject || (e.aux % 2 ^ 17 % 4 == 0 && inOneRegion (Img.regions b m (t.out / 8)) 2 0 (e.aux % 2 ^ 17) 4))

/-- What R260 refuses in one set. -/
def Img.badSet (b : Bytes) (w m st : Nat) : List Nat :=
  let ts := Img.tabs b m st
  ts.flatMap fun t =>
    badUnless (outExists w (Img.cores b m) t.out && (ts.filter (·.out == t.out)).length == 1
        && (outKind t.out != 1 || Img.use b m (t.out % 32) == 1)) (slotDetail st t.out noEnt)
      ++ (List.range t.ents.length).flatMap fun i =>
        badUnless ((match t.ents[i]? with | some e => Img.entOk b w m st ts t i e | none => true)
          && Img.isTaken b w m st ts t.out i) (slotDetail st t.out i)

/-- The place whose entries R260 limits: a router site, or the output itself. -/
def placeOf (o : Nat) : Nat := if outKind o = 0 then 8 * (o / 8) else o
/-- Entries of a context at a place. -/
def Img.entsAt (b : Bytes) (m place : Nat) : Nat :=
  sumNat ((List.range (Img.nset b m)).map fun st => sumNat ((Img.tabs b m st).map fun t => if placeOf t.out = place then t.ents.length else 0))
/-- The limit of entries of a place (R260). -/
def placeLimit (o : Nat) : Nat := match outKind o with | 0 => 16384 | 1 => 131072 | 2 => 4096 | _ => 32768

/-- The fold positions that R277 asks for: in a fold's step, each port of the tree has an entry from the fold unit, and the intake one
from the port. -/
def Img.badTree (b : Bytes) (m d : Nat) : List Nat :=
  let f := Img.foldOf b d
  if f = 0xFFFF then []
  else
    let ps := Img.children b m f ++ (if Img.parent b m f = 0x3F then [] else [Img.parent b m f])
    ps.flatMap fun p =>
      badUnless ((Img.ents b m d (portOut p)).any (·.inp == 0x60)) (slotDetail (Img.slotSet b d) (portOut p) noEnt)
        ++ badUnless ((Img.ents b m d intakeOut).any (·.inp == 0x40 + p)) (slotDetail (Img.slotSet b d) intakeOut noEnt)

/-- R260 and R277 over this module's slot tables, beside those of the other slots: the lowest set, OUT and entry (R423, R425). -/
def State.slotCheck (s : State) (b : Bytes) (m : Nat) : Refuse :=
  let ds := List.range (Img.ndesc b)
  let loaded := (List.range 4).filterMap fun k =>
    let x := s.ctx k
    if x.st = .loading then none else (Img.find x.image s.fuse.modid).map fun n => (x.image, n)
  lowest 6 (ds.flatMap (fun d => badUnless (Img.slotSet b d == 0xFFFF || Img.slotSet b d < Img.nset b m) (slotDetail (Img.slotSet b d) 0xFFFF noEnt))
    ++ (List.range (Img.nset b m)).flatMap (Img.badSet b s.width m)
    ++ (Img.allOuts b m).flatMap (fun o =>
        badUnless (decide (sumNat (((b, m) :: loaded).map fun x => Img.entsAt x.1 x.2 (placeOf o)) ≤ placeLimit o)) (slotDetail 0xFFFF o noEnt))
    ++ ds.flatMap (Img.badTree b m))

/-! Wiring (R348 to R355). -/

/-- The neighbour of a coordinate in a dimension (R352). -/
def cubePeer (twist c j : Nat) : Nat :=
  let n := c ^^^ 2 ^ j
  if bit twist j && 1 ≤ j && bit c (j - 1) then n ^^^ 2 ^ (j + 1) else n

/-- A link meets R349 to R352 for the coordinates of its ends. -/
def Img.linkOk (b : Bytes) (ca pa cb pb : Nat) : Bool :=
  let a := ca % 1024
  let d := cb % 1024
  if ca / 2 ^ 14 ≠ Img.topo b ∨ cb / 2 ^ 14 ≠ Img.topo b then false
  else if Img.topo b = 1 then
    let n := Img.dims b
    pa == pb && decide (pa < n * (32 / n)) && decide (a < 2 ^ n) && d == cubePeer (Img.twist b) a (pa % n)
  else if a / 16 = d / 16 then
    let p := a % 16
    let q := d % 16
    p != q && pa == (if q < p then q else q - 1) && pb == (if p < q then p else p - 1)
  else decide (15 ≤ pa) && decide (15 ≤ pb)

/-- R355 for one port entry; a tolerant port carries drove positions where its own output or its peer's has any. -/
def Img.badPort (b : Bytes) (m p : Nat) : Bool :=
  let q := Img.pmod b m p
  Img.use b m p == 3 || (Img.sw b m p && (Img.topo b == 1 || p < 15))
    || (Img.use b m p == 1 && !(q < Img.nmod b && Img.use b q (Img.pport b m p) == 1 && Img.pmod b q (Img.pport b m p) == m
      && Img.pport b q (Img.pport b m p) == p && Img.linkOk b (Img.coord b m) p (Img.coord b q) (Img.pport b m p)))
    || (Img.use b m p == 1 && Img.tol b m p
      && ((Img.allOuts b m).contains (portOut p) || (Img.allOuts b q).contains (portOut (Img.pport b m p))))

/-- The longest hop distance in the pen graph; none when it is not connected (R353, R355). -/
def Img.diameter (b : Bytes) : Option Nat :=
  (List.range (Img.nmod b * Img.nmod b)).foldl (fun acc k =>
    match acc, Img.hops b (k / Img.nmod b) (k % Img.nmod b) with
    | some a, some h => some (max a h)
    | _, _ => none) (some 0)

/-- TOPO, DIMS and TWIST of the header (R348, R352, R353, R355). -/
def Img.headWire (b : Bytes) : Bool :=
  (Img.topo b == 0 && Img.dims b == 0 && Img.twist b == 0)
    || (Img.topo b == 1 && 1 ≤ Img.dims b && Img.dims b ≤ 10
      && (List.range 16).all fun j => !bit (Img.twist b) j || (1 ≤ j && j + 2 ≤ Img.dims b))

/-- R355: the refusal with the lowest module, and of that the lowest port; a pair without an escape port names its first module only, and
what concerns the whole table names none (R423, R425). -/
def wireCheck (b : Bytes) : Refuse :=
  let n := Img.nmod b
  lowest 7 (((List.range (32 * n)).filterMap fun k => if Img.badPort b (k / 32) (k % 32) then some (k / 32 * 65536 + k % 32) else none)
    ++ ((List.range (n * n)).filterMap fun k =>
      if k / n ≠ k % n ∧ (Img.escape b (k / n) (k % n)).isNone then some (k / n * 65536 + 0xFFFF) else none)
    ++ badUnless (Img.headWire b && Img.diameter b == some (Img.diam b)) noEnt)

/-- R76: a logical core on a site that failed its test (R425). -/
def State.spareCheck (s : State) : Refuse :=
  ((List.range s.nCores).find? fun n => (s.core n).siteBad).map fun n => (9, n * 65536 + groupOf (s.siteW n))

/-- Step 2 of R423 over the image once read. -/
def State.imageCheck (s : State) (b cpb : Bytes) : Refuse :=
  imgHead b cpb s.fuse.grade <|> imgCheck b s.nCores s.fuse.modid <|>
    (match Img.find b s.fuse.modid with
    | some m => s.regionCheck b m <|> s.tierCheck b m <|> s.slotCheck b m <|> wireCheck b
    | none => none) <|> s.spareCheck

/-! The KV table (R430, R431). -/

/-- The KV table against the image's regions. -/
def kvCheck (b : Bytes) (m : Nat) (kv : List Nat) : Refuse :=
  ((List.range kv.length).find? fun i =>
    let e := kv.getD i 0
    let same := fun f => bits f 63 49 == bits e 63 49
    decide (Img.cores b m ≤ bits e 63 53) || (kv.take i).any same || bit e 48 || bits e 31 17 != 0 || bits e 47 32 == 0
      || !inOneRegion (Img.regions b m (bits e 63 53)) 1 (2 ^ 57 + 2 ^ 56) (bits e 16 0) (4 * bits e 47 32)).map fun i => (13, i)

/-! The manifest (R402 to R405, R411, R414, R601). -/

def manNshard (b : Bytes) : Nat := field b 12 4
def manNplace (b : Bytes) : Nat := field b 16 4
/-- LOAD_DETAIL for the manifest header (R425). -/
def manHead : Nat := 0xFFFFFFFFFFFFFFFF

/-- A shard entry (R403). -/
structure ShardEnt where
  mod : Nat
  shid : Nat
  sfmt : Nat
  dfmt : Nat
  qctl : Nat
  layout : Nat
  dkind : Nat
  srck : Nat
  rsv : Nat
  n : Nat
  k : Nat
  pidx : Nat
  pcnt : Nat
  toff : Nat
  src : Nat
  slen : Nat
  sdig : Bytes
  rlen : Nat
  rsv2 : Nat
  deriving DecidableEq, Repr

/-- Shard entry `i` of a manifest (R402, R403). -/
def shardEnt (b : Bytes) (i : Nat) : ShardEnt :=
  let o := 128 + 96 * i
  let f := fun (a n : Nat) => field b (o + a) n
  { mod := f 0 2, shid := f 2 2, sfmt := f 4 1, dfmt := f 5 1, qctl := f 6 1, layout := f 7 1, dkind := f 8 1, srck := f 9 1, rsv := f 10 2
    n := f 12 4, k := f 16 4, pidx := f 20 4, pcnt := f 24 4, toff := f 28 8, src := f 36 8, slen := f 44 4, sdig := slice b (o + 48) 32
    rlen := f 80 8, rsv2 := f 88 8 }

/-- A placement entry: core, line, count, reserved bits (R404). -/
def placement (b : Bytes) (i : Nat) : Nat × Nat × Nat × Nat :=
  let v := field b (128 + 96 * manNshard b + 8 * i) 8
  (bits v 63 53, bits v 52 36, bits v 35 19, bits v 18 0)

/-- The placement entries a shard entry uses. -/
def placesOf (b : Bytes) (e : ShardEnt) : List (Nat × Nat × Nat × Nat) :=
  if e.dkind = 0 then (List.range e.pcnt).map fun j => placement b (e.pidx + j) else []

/-- Bytes of a row of `k` elements in a format (R411). -/
def rowBytes (f k : Nat) : Nat := if isMx f then k / 32 * (4 * elemBits f) + k / 32 else k * elemBits f / 8

/-- The format pair is one of R411. -/
def pairOk (sf df : Nat) : Bool :=
  if sf = 0 then df == 0 || df == 1 || isMx df
  else if sf = 1 then df == 1 || isMx df
  else if sf = 2 then df == 2
  else isMx sf && df == sf

/-- RLEN of a layout, none when the layout does not take the entry (R414). -/
def layoutLen (e : ShardEnt) : Option Nat :=
  if e.layout = 0 then
    (if isMx e.dfmt ∧ e.k % 32 ≠ 0 then none else some (ceilDiv (e.n * rowBytes e.dfmt e.k) 64 * 64))
  else if e.layout = 1 then
    let kt := if e.dfmt = 8 then 64 else 32
    if (e.dfmt = 1 ∨ isMx e.dfmt) ∧ e.n % 32 = 0 ∧ e.k % kt = 0 then some (e.n / 32 * (e.k / kt) * tileLines e.dfmt * 64) else none
  else if e.layout = 2 then
    (if isMx e.dfmt ∧ e.n % 16 = 0 ∧ e.k % 32 = 0 then some (e.n / 16 * gemvLines e.dfmt (e.k / 32) * 64) else none)
  else none

/-- One shard entry by itself, with the placements it uses (R403, R404, R411, R413, R414, R415, R423). -/
def shardOk (man img : Bytes) (m : Nat) (e : ShardEnt) : Bool :=
  let ps := placesOf man e
  let t := Img.tierEntry img m
  decide (e.shid < 2048) && pairOk e.sfmt e.dfmt && decide (e.qctl < 8) && decide (e.dkind < 2) && decide (e.srck < 4)
    && e.rsv == 0 && e.rsv2 == 0 && decide (1 ≤ e.n) && decide (1 ≤ e.k) && decide (72 ≤ e.slen)
    && (!isMx e.sfmt || e.k % 32 == 0) && (!bit e.qctl 0 || e.k ≤ 2097152) && layoutLen e == some e.rlen
    && (if e.dkind = 0 then
        decide (1 ≤ e.pcnt) && decide (e.pidx + e.pcnt ≤ manNplace man) && e.toff == 0
          && sumNat (ps.map (·.2.2.1)) == e.rlen / 64
          && ps.all fun (p : Nat × Nat × Nat × Nat) => p.2.2.2 == 0 && 1 ≤ p.2.2.1 && p.1 < Img.cores img m
              && inOneRegion (Img.regions img m p.1) 1 (2 ^ 57) p.2.1 p.2.2.1
      else e.pidx == 0 && e.pcnt == 0 && e.toff % 64 == 0 && bit t 63 && decide (e.toff + e.rlen ≤ bits t 17 9 * 2 ^ 30))

/-- Destination ranges of an entry: core and lines, or 0xFFFF and tier lines. -/
def destsOf (man : Bytes) (e : ShardEnt) : List (Nat × Nat × Nat) :=
  if e.dkind = 0 then (placesOf man e).map fun p => (p.1, p.2.1, p.2.2.1) else [(0xFFFF, e.toff / 64, e.rlen / 64)]
/-- Two destination ranges overlap. -/
def destMeets (a b : Nat × Nat × Nat) : Bool := a.1 == b.1 && decide (a.2.1 < b.2.1 + b.2.2) && decide (b.2.1 < a.2.1 + a.2.2)
/-- A list of destinations in which two overlap. -/
def selfMeets : List (Nat × Nat × Nat) → Bool
  | [] => false
  | a :: t => t.any (destMeets a) || selfMeets t

/-- The manifest entries of a module, by index (R405). -/
def ownShards (man : Bytes) (m : Nat) : List Nat := (List.range (manNshard man)).filter fun i => (shardEnt man i).mod == m

/-- Step 4 of R423, in the order of R601. MANLEN against MLEN comes with the header (R600). -/
def State.manifestCheck (s : State) (man cpb img : Bytes) : Refuse :=
  let mlen := field man 24 8
  let signed_ := match s.nv.manifestKeys.find? (·.1 == field man 7 1) with
    | some k => ecdsaVerify (pointOf k.2) (man.take (mlen - 64)) (man.drop (mlen - 64))
    | none => false
  if (cpbMan cpb).2 ≠ mlen then some (1, 32)
  else if field man 0 4 ≠ 0x4E414D5A ∨ field man 4 2 ≠ 1 ∨ mlen ≠ 128 + 96 * manNshard man + 8 * manNplace man + 64 then some (11, manHead)
  else if 7 < field man 7 1 ∨ !signed_ then some (10, field man 7 1)
  else if field man 6 1 ≠ s.fuse.grade then some (8, 1)
  else if field man 8 2 ≠ Img.nmod img ∨ !zeroAt man 10 2 ∨ !zeroAt man 20 4 ∨ !zeroAt man 64 64
      ∨ (!zeroAt man 32 32 ∧ slice man 32 32 ≠ slice img 96 32) then some (11, manHead)
  else match Img.find img s.fuse.modid with
    | none => none
    | some m =>
      let own := ownShards man m
      (own.find? fun i =>
        let e := shardEnt man i
        !shardOk man img m e || selfMeets (destsOf man e)
          || (own.filter (· < i)).any fun j => (shardEnt man j).shid == e.shid
              || (destsOf man (shardEnt man j)).any fun d => (destsOf man e).any (destMeets d)).map fun i => (11, i)

end Sys2Proof.Machine
end

