-- ==== Sys2Proof/Machine/Transcend.lean ====
section
/-! DEFINITION. The error bounds of the VTR functions (R211): enclosures of the exact values of 2^x, log2 x, sin x, cos x, tanh x and
1 / (1 + e^-x) in fixed point, and the test that an FP32 result lies within its bound. -/

namespace Sys2Proof.Machine

/-- Fraction bits of the enclosures; every one is wider than the error of its own truncations. -/
def fxBits : Nat := 192
/-- One, in fixed point. -/
def fxOne : Nat := 2 ^ fxBits
/-- Half-width of an enclosure, in units of its last place. -/
def fxSlack : Int := 2 ^ 40

/-- Σ z^(2k+1) / (2k+1) for 64 terms: artanh z of a fixed-point z below 1/2. -/
def fxArtanh (z : Nat) : Nat :=
  ((List.range 64).foldl (fun (s : Nat × Nat) k => (s.1 + s.2 / (2 * k + 1), s.2 * z / fxOne * z / fxOne)) (0, z)).1
/-- ln 2 = 2 artanh (1/3). -/
def fxLn2 : Nat := 2 * fxArtanh (fxOne / 3)
/-- e^t of a fixed-point t below 1: 64 terms of its series. -/
def fxExpLow (t : Nat) : Nat :=
  ((List.range 64).foldl (fun (s : Nat × Nat) k => (s.1 + s.2, s.2 * t / fxOne / (k + 1))) (0, fxOne)).1
/-- e^t of a fixed-point t: a power of two times e^r with r below ln 2. -/
def fxExp (t : Nat) : Nat := fxExpLow (t % fxLn2) * 2 ^ (t / fxLn2)

/-- arctan (1/n) with `w` fraction bits. -/
def fxArctanInv (w n : Nat) : Int :=
  ((List.range 120).foldl (fun (s : Int × Nat) k =>
    (if k % 2 = 0 then s.1 + (s.2 / (2 * k + 1) : Nat) else s.1 - (s.2 / (2 * k + 1) : Nat), s.2 / (n * n))) (0, 2 ^ w / n)).1
/-- π / 2 with `w` fraction bits, by Machin's formula. -/
def fxHalfPi (w : Nat) : Nat := (8 * fxArctanInv w 5 - 2 * fxArctanInv w 239).toNat
/-- The alternating series that starts with a term of degree `d`: sine for 1, cosine for 0. -/
def fxWave (d r : Nat) : Int :=
  ((List.range 48).foldl (fun (s : Int × Nat) k =>
    (if k % 2 = 0 then s.1 + (s.2 : Int) else s.1 - (s.2 : Int), s.2 * r / fxOne * r / fxOne / ((2 * k + d + 1) * (2 * k + d + 2))))
    (0, if d = 0 then fxOne else r)).1
/-- Sine of a magnitude m·2^e plus `q` quarter turns, with the exact reduction over the whole range. -/
def fxSine (q m : Nat) (e : Int) : Int :=
  let w := fxBits + 160
  let x := m * 2 ^ (e + w).toNat
  let h := fxHalfPi w
  let r := x % h / 2 ^ 160
  match (x / h + q) % 4 with
  | 0 => fxWave 1 r
  | 1 => fxWave 0 r
  | 2 => -fxWave 1 r
  | _ => -fxWave 0 r

/-- log2 of a magnitude m·2^e. -/
def fxLog2 (m : Nat) (e : Int) : Int :=
  let l := log2 m
  let z := (m - 2 ^ l) * fxOne / (m + 2 ^ l)
  (e + l) * fxOne + (2 * fxArtanh z * fxOne / fxLn2 : Nat)

/-- The exact result of a function at a finite input that R212 does not list, enclosed: `v` with the power of two of its unit. -/
def vtrExact (sub : Nat) (neg : Bool) (m : Nat) (e : Int) : Int × Int :=
  let t := m * 2 ^ (e + fxBits).toNat
  let big := decide (128 * fxOne ≤ t)
  let signed := fun (v : Int) => if neg then -v else v
  match sub with
  | 0 =>
    let n : Int := if neg then -((t + fxOne - 1) / fxOne : Nat) else (t / fxOne : Nat)
    let f := if neg then (fxOne - t % fxOne) % fxOne else t % fxOne
    (fxExpLow (f * fxLn2 / fxOne), n - fxBits)
  | 1 => (fxLog2 m e, -fxBits)
  | 4 => (signed (fxSine 0 m e), -fxBits)
  | 5 => (fxSine 1 m e, -fxBits)
  | 6 => (signed (if big then fxOne else let x := fxExp (2 * t); (x - fxOne) * fxOne / (x + fxOne) : Nat), -fxBits)
  | _ => (if big then (if neg then 0 else fxOne)
      else let x := fxExp t; ((if neg then fxOne else x) * fxOne / (x + fxOne) : Nat), -fxBits)

/-- Bound in ulp, and the power of two of the absolute bound where there is one (R211). -/
def vtrBounds : Nat → Nat × Option Int
  | 0 => (1, none)
  | 1 => (1, some (-24))
  | 4 => (2, some (-24))
  | 5 => (2, some (-24))
  | _ => (2, some (-26))

/-- An FP32 result lies within R211's bound of the exact value: its error is at most the larger of the two, measured in 2^-400. -/
def vtrWithin (sub : Nat) (neg : Bool) (m : Nat) (e : Int) (r : Nat) : Bool :=
  match decodeElem 0 r with
  | .fin rn rm re =>
    let x := vtrExact sub neg m e
    let at400 := fun (v : Int) (p : Int) => v * 2 ^ (p + 400).toNat
    let lo := at400 (x.1 - fxSlack) x.2
    let hi := at400 (x.1 + fxSlack) x.2
    let top := (max lo.natAbs hi.natAbs)
    let ulp := at400 1 (unitAt 0 top (-400))
    let b := vtrBounds sub
    let w := max ((b.1 : Int) * ulp) (match b.2 with | some p => at400 1 p | none => 0)
    let v := at400 (if rn then -(rm : Int) else rm) re
    decide (lo - w ≤ v) && decide (v ≤ hi + w)
  | _ => false

/-- The FP32 value nearest to the exact one, which is within every bound of R211. -/
def vtrNearest (sub : Nat) (neg : Bool) (m : Nat) (e : Int) : Nat := let x := vtrExact sub neg m e; (roundTo 0 none (ofInt x.1 x.2)).1

end Sys2Proof.Machine
end

