-- ==== Sys2Proof/Machine/Vector.lean ====
section
/-! DEFINITION. V slot: vector arithmetic (R204 to R206), compare, select, logic and integer (R207 to R209), reductions (R210),
transcendentals (R211, R212), conversion (R213, R214), random numbers (R215), GEMV (R201 to R203), LSWADD (R199). -/

namespace Sys2Proof.Machine

/-- Issue a vector operation that writes a register after `l` live cycles. -/
def State.issueVector (s : State) (n : Nat) (i : Instr) (l : Nat) (d : BitVec 5) (v : Core → Block) : Out :=
  .next (s.issueOp n i fun t => t.launch n l (.vreg d.toNat (v (t.core n)) 0x7FFFC0))

/-- Lanes of FP32 (64) or BF16 (128) values (R204). -/
def fpLanes (fmt : BitVec 4) (v : Block) : List Val :=
  (unpack v.toNat 0 (elemBits fmt.toNat) (if fmt = 0 then 64 else 128)).map (decodeElem fmt.toNat)
/-- A register of FP32 or BF16 values, each rounded once (R204). -/
def fpReg (fmt : BitVec 4) (vs : List Val) : Block :=
  BitVec.ofNat 2048 (pack 0 (elemBits fmt.toNat) (vs.map fun v => (roundTo fmt.toNat none v).1))
/-- A lane-by-lane operation on two registers. -/
def fpZip (fmt : BitVec 4) (f : Val → Val → Val) (a b : Block) : Block :=
  fpReg fmt (List.zipWith f (fpLanes fmt a) (fpLanes fmt b))
/-- Latency of FP32 or BF16 arithmetic (R47). -/
def fpLat (fmt : BitVec 4) : Nat := if fmt = 0 then 4 else 5

/-- VFMA: A × B + C with one rounding (R204, R205). -/
def execVfma (core : Nat) (d a b c : BitVec 5) (fmt : BitVec 4) (s : State) : Out :=
  s.issueVector core (.vfma core d a b c fmt) (fpLat fmt) d fun k =>
    fpReg fmt (List.zipWith addVal (List.zipWith mulVal (fpLanes fmt (k.v a)) (fpLanes fmt (k.v b))) (fpLanes fmt (k.v c)))
/-- VADD (R204, R205). -/
def execVadd (core : Nat) (d a b : BitVec 5) (fmt : BitVec 4) (s : State) : Out :=
  s.issueVector core (.vadd core d a b fmt) (fpLat fmt) d fun k => fpZip fmt addVal (k.v a) (k.v b)
/-- VSUB: VADD with the sign of B inverted (R205). -/
def execVsub (core : Nat) (d a b : BitVec 5) (fmt : BitVec 4) (s : State) : Out :=
  s.issueVector core (.vsub core d a b fmt) (fpLat fmt) d fun k => fpZip fmt (fun x y => addVal x (negVal y)) (k.v a) (k.v b)
/-- VMUL (R204, R205). -/
def execVmul (core : Nat) (d a b : BitVec 5) (fmt : BitVec 4) (s : State) : Out :=
  s.issueVector core (.vmul core d a b fmt) (fpLat fmt) d fun k => fpZip fmt mulVal (k.v a) (k.v b)
/-- VMAX (R206). -/
def execVmax (core : Nat) (d a b : BitVec 5) (fmt : BitVec 4) (s : State) : Out :=
  s.issueVector core (.vmax core d a b fmt) (fpLat fmt) d fun k => fpZip fmt (maxVal false) (k.v a) (k.v b)
/-- VMIN (R206). -/
def execVmin (core : Nat) (d a b : BitVec 5) (fmt : BitVec 4) (s : State) : Out :=
  s.issueVector core (.vmin core d a b fmt) (fpLat fmt) d fun k => fpZip fmt (maxVal true) (k.v a) (k.v b)

/-- A condition of VCMP (R173, R207). -/
def vcmpHolds (sub : Nat) (a b : Val) : Bool :=
  if a == .nan || b == .nan then sub == 1 || sub == 4
  else
    let o := cmpVal a b
    match sub with
    | 0 => o == .eq
    | 1 => o != .eq
    | 2 => o == .lt
    | 3 => o != .gt
    | _ => false
/-- VCMP: all ones in each lane where the condition holds (R207). -/
def execVcmp (core : Nat) (d a b : BitVec 5) (fmt sub : BitVec 4) (s : State) : Out :=
  s.issueVector core (.vcmp core d a b fmt sub) 2 d fun k =>
    let w := elemBits fmt.toNat
    BitVec.ofNat 2048 (pack 0 w (List.zipWith (fun x y => if vcmpHolds sub.toNat x y then 2 ^ w - 1 else 0)
      (fpLanes fmt (k.v a)) (fpLanes fmt (k.v b))))
/-- VSEL: bits of A where C is set, of B elsewhere (R208). -/
def execVsel (core : Nat) (d a b c : BitVec 5) (s : State) : Out :=
  s.issueVector core (.vsel core d a b c) 2 d fun k => (k.v a &&& k.v c) ||| (k.v b &&& ~~~(k.v c))
/-- VAND (R208). -/
def execVand (core : Nat) (d a b : BitVec 5) (s : State) : Out :=
  s.issueVector core (.vand core d a b) 2 d fun k => k.v a &&& k.v b
/-- VOR (R208). -/
def execVor (core : Nat) (d a b : BitVec 5) (s : State) : Out :=
  s.issueVector core (.vor core d a b) 2 d fun k => k.v a ||| k.v b
/-- VXOR (R208). -/
def execVxor (core : Nat) (d a b : BitVec 5) (s : State) : Out :=
  s.issueVector core (.vxor core d a b) 2 d fun k => k.v a ^^^ k.v b

/-- A lane-by-lane integer operation: 64 lanes of 32 bits, or 256 of 8 with SUB bit 0 (R173, R208). -/
def intLanes (sub : BitVec 4) (f : (w : Nat) → BitVec w → BitVec w → BitVec w) (a b : Block) : Block :=
  if sub.getLsbD 0 then ofLanes (List.zipWith (f 8) (lanes 8 256 a) (lanes 8 256 b))
  else ofLanes (List.zipWith (f 32) (lanes 32 64 a) (lanes 32 64 b))
/-- VIADD (R208). -/
def execViadd (core : Nat) (d a b : BitVec 5) (sub : BitVec 4) (s : State) : Out :=
  s.issueVector core (.viadd core d a b sub) 2 d fun k => intLanes sub (fun _ x y => x + y) (k.v a) (k.v b)
/-- VISUB (R208). -/
def execVisub (core : Nat) (d a b : BitVec 5) (sub : BitVec 4) (s : State) : Out :=
  s.issueVector core (.visub core d a b sub) 2 d fun k => intLanes sub (fun _ x y => x - y) (k.v a) (k.v b)
/-- VIMUL: low bits of each product (R208). -/
def execVimul (core : Nat) (d a b : BitVec 5) (sub : BitVec 4) (s : State) : Out :=
  s.issueVector core (.vimul core d a b sub) 2 d fun k => intLanes sub (fun _ x y => x * y) (k.v a) (k.v b)
/-- VSHL: left by B mod w (R208). -/
def execVshl (core : Nat) (d a b : BitVec 5) (sub : BitVec 4) (s : State) : Out :=
  s.issueVector core (.vshl core d a b sub) 2 d fun k => intLanes sub (fun w x y => x <<< (y.toNat % w)) (k.v a) (k.v b)
/-- VSHR: right with zero fill (R208). -/
def execVshr (core : Nat) (d a b : BitVec 5) (sub : BitVec 4) (s : State) : Out :=
  s.issueVector core (.vshr core d a b sub) 2 d fun k => intLanes sub (fun w x y => x >>> (y.toNat % w)) (k.v a) (k.v b)
/-- VSAR: right with sign fill (R208). -/
def execVsar (core : Nat) (d a b : BitVec 5) (sub : BitVec 4) (s : State) : Out :=
  s.issueVector core (.vsar core d a b sub) 2 d fun k => intLanes sub (fun w x y => x.sshiftRight (y.toNat % w)) (k.v a) (k.v b)

/-- VBCAST: the low bits of sA in every lane (R209). -/
def execVbcast (core : Nat) (d a : BitVec 5) (fmt : BitVec 4) (s : State) : Out :=
  s.issueVector core (.vbcast core d a fmt) 2 d fun k =>
    let w := elemBits fmt.toNat
    BitVec.ofNat 2048 (pack 0 w (List.replicate (2048 / w) ((k.s a).toNat % 2 ^ w)))

/-- VCVT: n elements of SFMT in A into DFMT in D, with draws from DR under SR (R213, R214); flags set with the result (R217). -/
def execVcvt (core : Nat) (d a dr : BitVec 5) (sfmt dfmt : BitVec 4) (sr : Bool) (s : State) : Out :=
  .next (s.issueOp core (.vcvt core d a dr sfmt dfmt sr) fun t =>
    let k := t.core core
    let n := if sfmt = 0 ∨ dfmt = 0 then 64 else 128
    let draws := (List.range n).map fun e => if sr then some ((k.v dr).extractLsb' (16 * e) 16).toNat else none
    let r := valsReg dfmt.toNat (regVals sfmt.toNat n (k.v a)) draws
    (t.launch core 6 (.vreg d.toNat r.1 0x7FFFC0)).launch core 6 (.flags r.2))

/-- The reduction of a list of lane values (R173, R210). -/
def vredVal (sub : Nat) (vs : List Val) : Val :=
  if sub = 0 then sumVal vs
  else match vs with
    | [] => .nan
    | v :: t => t.foldl (maxVal (sub == 2)) v
/-- VRED: the reduction in every lane (R210). -/
def execVred (core : Nat) (d a : BitVec 5) (fmt sub : BitVec 4) (s : State) : Out :=
  s.issueVector core (.vred core d a fmt sub) 8 d fun k =>
    let vs := fpLanes fmt (k.v a)
    fpReg fmt (List.replicate vs.length (vredVal sub.toNat vs))

/-- The finite result of a function that R211 only bounds: the module's fixed map, a free value, where it keeps the bound, else the
nearest value, so that every result is within the bound and each one within it is possible (R125, R211, log 4). -/
def vtrFinite (sub : Nat) (x : BitVec 32) (neg : Bool) (m : Nat) (e : Int) : Nat :=
  let r := (Config.vtrValue sub x).toNat
  if vtrWithin sub neg m e r then r else vtrNearest sub neg m e

/-- A function of VTR on one FP32 lane: R212's table, the two correctly rounded functions, otherwise the fixed map that
R211 bounds (log 4). -/
def vtrLane (sub : Nat) (x : BitVec 32) : Nat :=
  let enc (v : Val) : Nat := (roundTo 0 none v).1
  let one : Val := .fin false 1 0
  let zero (neg : Bool) : Val := .fin neg 0 0
  match decodeElem 0 x.toNat with
  | .nan => canonicalNaN 0
  | .inf neg => match sub with
    | 0 => enc (if neg then zero false else .inf false)
    | 1 => enc (if neg then .nan else .inf false)
    | 2 => enc (zero neg)
    | 3 => enc (if neg then .nan else zero false)
    | 4 => enc .nan
    | 5 => enc .nan
    | 6 => enc (.fin neg 1 0)
    | _ => enc (if neg then zero false else one)
  | .fin neg m e =>
    if m = 0 then match sub with
      | 0 => enc one
      | 1 => enc (.inf true)
      | 2 => enc (.inf neg)
      | 3 => enc (.inf neg)
      | 4 => enc (zero neg)
      | 5 => enc one
      | 6 => enc (zero neg)
      | _ => enc (.fin false 1 (-1))
    else match sub with
      | 0 => if !neg && cmpVal (.fin neg m e) (.fin false 128 0) != .lt then enc (.inf false)
             else if neg && cmpVal (.fin neg m e) (.fin true 150 0) == .lt then enc (zero false) else vtrFinite sub x neg m e
      | 1 => if neg then enc .nan else if cmpVal (.fin neg m e) one == .eq then enc (zero false) else vtrFinite sub x neg m e
      | 2 => enc (recipVal neg m e)
      | 3 => if neg then enc .nan else enc (rsqrtVal m e)
      | _ => vtrFinite sub x neg m e

/-- VTR: the function in each of the 64 FP32 lanes (R54, R211, R212). -/
def execVtr (core : Nat) (d a : BitVec 5) (fmt sub : BitVec 4) (s : State) : Out :=
  s.issueVector core (.vtr core d a fmt sub) 14 d fun k =>
    BitVec.ofNat 2048 (pack 0 32 ((lanes 32 64 (k.v a)).map (vtrLane sub.toNat)))

/-- The generator's counter block (R396). -/
def genBlock (tally core idx blk dom mod : Nat) : Bytes :=
  leBytes 6 tally ++ leBytes 2 core ++ leBytes 2 idx ++ leBytes 1 blk ++ leBytes 1 dom ++ leBytes 2 mod ++ leBytes 2 0
/-- One output block of the generator under a seed (R396). -/
def genDraw (seed : Bytes) (tally core idx blk dom mod : Nat) : Bytes :=
  aesEnc seed (genBlock tally core idx blk dom mod)

/-- RNGFILL: 16 blocks of the generator under the context's seed (R215, R397). -/
def execRngfill (core : Nat) (d : BitVec 5) (seed : BitVec 2) (idx : BitVec 16) (s : State) : Out :=
  .next (s.issueOp core (.rngfill core d seed idx) fun t =>
    let key := match t.runCtx with | some (_, x) => x.seeds.getD seed.toNat [] | none => []
    let bs := (List.range 16).map fun b => genDraw key ((t.core core).tally % 2 ^ 48) core idx.toNat b 0 t.modNum
    t.launch core 6 (.vreg d.toNat (bytesBv 2048 bs.flatten) 0x7FFFC0))

/-- The bank use of beat m of a GEMV, in live cycles after issue (R83). -/
def gemvBank (wf m : Nat) : Nat := if wf = 4 ∨ wf = 5 ∨ wf = 9 then 2 + 33 * (m / 32) + m % 32 else 1 + m
/-- First line of beat m, after the operand's first line (R202). -/
def gemvLine (wf m : Nat) : Nat :=
  if wf = 4 ∨ wf = 5 ∨ wf = 9 then 264 * (m / 32) + 8 * (1 + m % 32) else if wf = 6 ∨ wf = 7 then 7 * m else 5 * m
/-- Lines of a beat (R202). -/
def gemvBeatLines (wf : Nat) : Nat := if wf = 4 ∨ wf = 5 ∨ wf = 9 then 8 else if wf = 6 ∨ wf = 7 then 7 else 5

/-- GEMV: beat m adds the partials of activation block m into columns 16CG to 16CG + 15 of row ACC (R201 to R203). -/
def execGemv (core : Nat) (wfmt afmt : BitVec 4) (a : BitVec 5) (acc : BitVec 7) (cg : BitVec 1) (beats : BitVec 6) (rel : Bool)
    (line : BitVec 18) (s : State) : Out :=
  .next (s.issueOp core (.gemv core wfmt afmt a acc cg beats rel line) fun t =>
    let k := t.core core
    let wf := wfmt.toNat
    let b := beats.toNat + 1
    let l := eaL k line / 64
    let regs := (List.range (spanRegs b (gemvPerReg wfmt))).map fun j => k.vAt (a.toNat + j)
    let t1 := if wf = 4 ∨ wf = 5 ∨ wf = 9
      then (List.range (ceilDiv b 32)).foldl (fun t g => t.launch core (1 + 33 * g) (.gemvScale (l + 264 * g) rel)) t
      else t
    (List.range b).foldl (fun t m => t.launch core (gemvBank wf m)
      (.gemvBeat wf afmt.toNat (packedBlock afmt.toNat regs m) acc.toNat (16 * cg.toNat) (l + gemvLine wf m) (gemvBeatLines wf)
        (m % 32) rel)) t1)

/-- LSWADD: eight long-sum words of A into columns 8G to 8G + 7 of row ACC, landing after 12 live cycles (R199, R200). -/
def execLswadd (core : Nat) (a : BitVec 5) (acc : BitVec 7) (g : BitVec 2) (s : State) : Out :=
  .next (s.issueOp core (.lswadd core a acc g) fun t =>
    let k := t.core core
    let ws := lswsOf (k.v a)
    let psn := if ws.any (fun w => w.col.flags.getLsbD 6) then some (Tab.get 0x7FFFC0 k.lastWrite a.toNat, a.toNat) else none
    t.launch core 12 (.lswAdd acc.toNat ((List.range 8).map fun j => (8 * g.toNat + j, ws.getD j (Lsw.ofBits 0))) psn))

end Sys2Proof.Machine
end

