-- ==== Sys2Proof/Machine/Intake.lean ====
section
/-! DEFINITION. Loading and unloading of a context: decoding, quantizing and re-laying of shards, the intake engines, the steps of a
load, unloading, and KV requests (R97, R400 to R434). -/

namespace Sys2Proof.Machine

/-! Stored shards (R406 to R409). -/

/-- The bits of a byte sequence, bit 7 first (R408). -/
def bitsMsb (b : Bytes) : List Bool := b.flatMap fun x => (List.range 8).map fun i => x.getLsbD (7 - i)

/-- Lengths of a length table (R408). -/
def huffLengths (tab : Bytes) : List Nat :=
  tab.flatMap fun x => [x.toNat % 16, x.toNat / 16]

/-- Byte values in canonical order: shorter codes first, then ascending (R408). -/
def huffSyms (ls : List Nat) : List Nat :=
  (List.range 15).flatMap fun l => (List.range 256).filter fun v => ls.getD v 0 == l + 1

/-- Codes of each length 1 to 15. -/
def huffCounts (ls : List Nat) : List Nat := (List.range 15).map fun l => (ls.filter (· == l + 1)).length

/-- Decode `n` symbols from a bit stream: the current code, the first code of its length, the index of its first symbol, and the counts of
the lengths still to come (R408). The symbols and the bits left. -/
def huffRun (counts syms : List Nat) : List Bool → Nat → Nat → Nat → Nat → List Nat → Option (Bytes × List Bool)
  | bits, 0, _, _, _, _ => some ([], bits)
  | [], _ + 1, _, _, _, _ => none
  | _ :: _, _ + 1, _, _, _, [] => none
  | b :: t, n + 1, code, first, idx, c :: cs =>
    let k := code + b.toNat
    if k < first + c then
      (huffRun counts syms t n 0 0 0 counts).map fun r => (BitVec.ofNat 8 (syms.getD (idx + (k - first)) 0) :: r.1, r.2)
    else huffRun counts syms t (n + 1) (2 * k) (2 * (first + c)) (idx + c) cs

/-- A Huffman payload of `n` symbols; none is a decode error (R408). -/
def huffDecode (p : Bytes) (n : Nat) : Option Bytes :=
  let ls := huffLengths (p.take 128)
  let kraft := sumNat (ls.map fun l => if l = 0 then 0 else 2 ^ (15 - l))
  if p.length < 128 ∨ kraft = 0 ∨ 2 ^ 15 < kraft then none
  else match huffRun (huffCounts ls) (huffSyms ls) (bitsMsb (p.drop 128)) n 0 0 0 (huffCounts ls) with
    | some (b, rest) => if rest.length < 8 && rest.all (!·) then some b else none
    | none => none

/-- Undo the split into planes (R409). -/
def unplane (p : Nat) (e : Bytes) : Bytes := (List.range e.length).map fun i => e.getD (i % p * (e.length / p) + i / p) 0

/-- The coded blocks of a shard: blocks and raw bytes still due; none is a decode error (R407). -/
def decodeBlocks : Nat → Nat → Bytes → Option Bytes
  | 0, left, rest => if left = 0 ∧ rest = [] then some [] else none
  | k + 1, left, rest =>
    let v := field rest 0 8
    let raw := bits v 47 31
    let coded := bits v 30 13
    let p := bits v 55 48
    let body := slice rest 8 coded
    if rest.length < 8 + coded ∨ bits v 12 0 ≠ 0 ∨ !(p == 1 || p == 2 || p == 4) ∨ raw % p ≠ 0 ∨ raw ≠ min left 65536 ∨ raw = 0 then none
    else
      let d := if bits v 63 56 = 0 then (if coded = raw then some body else none)
        else if bits v 63 56 = 1 then huffDecode body raw else none
      match d with
      | none => none
      | some e => (decodeBlocks k (left - raw) (rest.drop (8 + coded))).map (unplane p e ++ ·)

/-- Raw bytes of a shard (R406, R411). -/
def rawLen (e : ShardEnt) : Nat := e.n * rowBytes e.sfmt e.k

/-- The shard header meets R406. -/
def headerOk (e : ShardEnt) (d : Bytes) : Bool :=
  field d 0 4 == 0x4448535A && field d 4 2 == e.mod && field d 6 2 == e.shid && field d 8 1 == e.sfmt && zeroAt d 9 3
    && field d 12 4 == ceilDiv (rawLen e) 65536 && field d 16 8 == rawLen e && zeroAt d 24 40

/-! The quantizer (R411 to R413). -/

/-- Counts of groups that set NX, SF and NV. -/
def countFlags (fs : List Nat) : Nat × Nat × Nat :=
  ((fs.filter (bit · 0)).length, (fs.filter (bit · 1)).length, (fs.filter (bit · 2)).length)

/-- The draw of element i of group j in row n (R413); none for RNE. -/
def quantDraw (e : ShardEnt) (seeds : List Bytes) (n j i : Nat) : Option Nat :=
  if bit e.qctl 0 then
    some (field (genDraw (seeds.getD (bits e.qctl 2 1) []) n e.shid j (i / 8) 1 e.mod) (2 * (i % 8)) 2)
  else none

/-- Elements as bytes of a row (R126). -/
def elemBytes (f : Nat) (l : List Nat) : Bytes := leBytes (l.length * elemBits f / 8) (pack 0 (elemBits f) l)

/-- A row's values in groups of 32. -/
def groups32 (n : Nat) (vs : List Val) : List (List Val) := (List.range n).map fun j => (vs.drop (32 * j)).take 32

/-- One row through the quantizer: the destination row, the flags of each group, and whether a source element is NaN (R411 to R413). -/
def quantRow (e : ShardEnt) (seeds : List Bytes) (n : Nat) (row : Bytes) : Bytes × List Nat × Bool :=
  if e.dfmt = e.sfmt then (row, [], false)
  else
    let vs := (unpack (leNat row) 0 (elemBits e.sfmt) e.k).map (decodeElem e.sfmt)
    let gs := groups32 (ceilDiv e.k 32) vs
    let dr := fun (j : Nat) => (List.range 32).map (quantDraw e seeds n j)
    if isMx e.dfmt then
      let bs := (List.range gs.length).map fun j => toMxBlock e.dfmt (gs.getD j []) (dr j)
      (bs.flatMap (fun b => elemBytes e.dfmt b.1.elems) ++ bs.map (fun b => BitVec.ofNat 8 b.1.scale), bs.map (·.2), vs.contains .nan)
    else
      let rs := (List.range gs.length).map fun j => List.zipWith (roundTo e.dfmt) (dr j) (gs.getD j [])
      (elemBytes e.dfmt (rs.flatMap fun r => r.map (·.1)), rs.map (fun r => r.foldl (fun a x => a ||| x.2) 0), vs.contains .nan)

/-! Layouts (R414). -/

/-- A byte sequence padded with zeros to a length. -/
def padTo (n : Nat) (b : Bytes) : Bytes := b ++ List.replicate (n - b.length) 0

/-- Block j of a destination row, and its scale byte (R411). -/
def rowBlk (f k : Nat) (row : Bytes) (j : Nat) : Bytes × Byte :=
  (slice row (4 * elemBits f * j) (4 * elemBits f), row.getD (k / 32 * (4 * elemBits f) + j) 0)

/-- One weight tile (R128, R414). -/
def tileOf (e : ShardEnt) (rows : List Bytes) (kt nt : Nat) : Bytes :=
  let col := fun (n : Nat) => rows.getD (32 * nt + n) []
  if e.dfmt = 1 then (List.range 32).flatMap fun n => slice (col n) (64 * kt) 64
  else
    let nb := rowBlocks e.dfmt
    let bl := fun (n h : Nat) => rowBlk e.dfmt e.k (col n) (nb * kt + h)
    let els := (List.range 32).flatMap fun n => (List.range nb).flatMap fun h => (bl n h).1
    els ++ padTo 64 ((List.range 32).flatMap fun n => (List.range nb).map fun h => (bl n h).2)

/-- One GEMV weight operand of a column group (R202, R414). -/
def gemvOf (e : ShardEnt) (rows : List Bytes) (g : Nat) : Bytes :=
  let nb := e.k / 32
  let bl := fun (m c : Nat) => rowBlk e.dfmt e.k (rows.getD (16 * g + c) []) m
  let els := fun (m : Nat) => (List.range 16).flatMap fun c => (bl m c).1
  let scs := fun (m : Nat) => (List.range 16).map fun c => (bl m c).2
  if elemBits e.dfmt = 8 then
    (List.range (ceilDiv nb 32)).flatMap fun q =>
      let ms := (List.range (min 32 (nb - 32 * q))).map (32 * q + ·)
      padTo 512 (ms.flatMap scs) ++ ms.flatMap els
  else (List.range nb).flatMap fun m => padTo (64 * gemvBeatLines e.dfmt) (els m ++ scs m)

/-- The re-laid output (R414). -/
def layOut (e : ShardEnt) (rows : List Bytes) : Bytes :=
  if e.layout = 0 then padTo e.rlen rows.flatten
  else if e.layout = 1 then
    let kn := e.k / (if e.dfmt = 8 then 64 else 32)
    (List.range (e.n / 32 * kn)).flatMap fun t => tileOf e rows (t % kn) (t / kn)
  else (List.range (e.n / 16)).flatMap (gemvOf e rows)

/-- What an attempt's bytes give: its status, the counts of its groups, and the output delivered (R418). -/
def shardResult (e : ShardEnt) (seeds : List Bytes) (d : Bytes) : Nat × (Nat × Nat × Nat) × Option Bytes :=
  let good := sha256 (d.take e.slen) == e.sdig
  if d.length ≠ e.slen then (2, (0, 0, 0), none)
  else if !headerOk e d then (if good then 5 else 4, (0, 0, 0), none)
  else match decodeBlocks (field d 12 4) (rawLen e) (d.drop 64) with
    | none => (if good then 6 else 4, (0, 0, 0), none)
    | some raw =>
      let rb := rowBytes e.sfmt e.k
      let rs := (List.range e.n).map fun n => quantRow e seeds n (slice raw (rb * n) rb)
      let cs := countFlags (rs.flatMap (·.2.1))
      let nan := rs.any (·.2.2) || cs.2.2 != 0
      (if good then (if nan then 7 else 1) else 4, cs, some (layOut e (rs.map (·.1))))

/-! The engines (R410, R415, R418 to R420). -/

/-- Lines of a placement, in order. -/
def placeLines (ps : List (Nat × Nat × Nat × Nat)) : List (Nat × Nat) :=
  ps.flatMap fun p => (List.range p.2.2.1).map fun i => (p.1, p.2.1 + i)

/-- Deliver the output lines of a shard: to the tier, or to their cores, where each waits for its bank (R415, R416). -/
def State.deliverShard (s : State) (slot : Nat) (e : ShardEnt) (out : Bytes) : State :=
  let x := s.ctx slot
  let line := fun (q : Nat) => bytesBv 512 (slice out (64 * q) 64)
  if e.dkind = 0 then
    let ls := placeLines (placesOf x.manifest e)
    (List.range ls.length).foldl (fun (s : State) q => match ls[q]? with
      | some (c, l) => s.modCore c fun k => { k with loads := k.loads ++ [(slot, l, line q)] }
      | none => s) s
  else match x.tierRange with
    | some r => (List.range (e.rlen / 64)).foldl (fun (s : State) q => s.tierStore (r.1 + e.toff + 64 * q) (line q)) s
    | none => s

/-- Change one shard of a slot. -/
def State.modShard (s : State) (slot i : Nat) (f : Shard → Shard) : State :=
  s.modCtx slot fun x => { x with shards := Tab.put i (f (Tab.get {} x.shards i)) x.shards }

/-- Start an attempt: the shard is fetched at its port (R403, R410, R419). -/
def State.fetchShard (s : State) (slot i : Nat) : State :=
  let e := shardEnt (s.ctx slot).manifest i
  (s.modShard slot i fun h => { h with active := true, attempts := h.attempts + 1 }).emit
    (if bit e.srck 1 then .uioRead (e.srck % 2) e.src e.slen else .hostRead (e.srck % 2) e.src e.slen)

/-- Each engine starts this module's shards in manifest order, four in progress at most (R410). -/
def State.startShards (s : State) (slot : Nat) : State :=
  (s.ctx slot).shards.foldl (fun (s : State) (h : Nat × Shard) =>
    let x := s.ctx slot
    let port := fun (i : Nat) => (shardEnt x.manifest i).srck % 2
    let busy := (x.shards.filter fun g => g.2.active && port g.1 == port h.1).length
    if h.2.status = 0 ∧ !(Tab.get {} x.shards h.1).active ∧ busy < 4 then s.fetchShard slot h.1 else s) s

/-- Some slot is in LOADING. -/
def State.loading (s : State) : Bool := (List.range 4).any fun k => (s.ctx k).st == .loading

/-- A slot at the start of a load: what the dictionary keeps across loads stays. -/
def Ctx.anew (x : Ctx) : Ctx :=
  { st := x.st, cpbAddr := x.cpbAddr, loadAddr := x.loadAddr, attempt := x.attempt, kvStatus := x.kvStatus, phase := .cpb, epoch := x.epoch
    musterReason := x.musterReason, musterFmodid := x.musterFmodid, musterRx := x.musterRx }

/-- A load begins: the CPB is asked for (R400, R423). -/
def State.startLoad (s : State) (slot : Nat) : State :=
  ((s.modCtx slot Ctx.anew).ctxState slot .loading).emit (.hostRead 0 (s.ctx slot).loadAddr 128)

/-- A slot that waits in PENDING with its unload done starts its load once no slot is in LOADING (R422). -/
def State.startPending (s : State) : State :=
  if s.loading then s
  else match (List.range 4).find? fun k => (s.ctx k).st == .pending && (s.ctx k).unloaded with
    | some k => s.startLoad k
    | none => s

/-- Load writes that wait at cores for a slot go no further (R416, R423). -/
def State.dropLoads (s : State) (slot : Nat) : State :=
  { s with cores := Tab.map (fun _ c => { c with loads := c.loads.filter fun l => l.1 != slot }) s.cores }
/-- Load writes in flight for a slot are completed (R422). -/
def State.flushLoads (s : State) (slot : Nat) : State :=
  ({ s with cores := Tab.map (fun _ c => (c.loads.filter fun l => l.1 == slot).foldl (fun c l => c.writeLine l.2.1 l.2.2) c) s.cores } : State).dropLoads slot

/-- A load ends in FAILED: an image not yet written is kept no more (R423, R425). -/
def State.failLoad (s : State) (slot status detail : Nat) : State :=
  ((s.modCtx slot fun x => { x with
    status, detail, cpb := [], manifest := [], kvTable := []
    image := if x.phase = .cpb ∨ x.phase = .image then [] else x.image, phase := .none }).ctxState slot .failed).dropLoads slot |>.startPending

/-- Load writes of a slot that are not performed yet: lines waiting at cores, and the MC's WRITEs (R284, R416). -/
def State.loadsLeft (s : State) (slot : Nat) : Bool :=
  (s.cores.any fun c => c.2.loads.any fun l => l.1 == slot)
    || (s.net.agents.any fun e => e.2.serve.1 == 3 && e.2.serve.2.1 == slot) || s.net.agentQ.any fun e => e.2.serve.1 == 3 && e.2.serve.2.1 == slot

/-- A load is done once every shard is VERIFIED and its lines are written (R416, R423). -/
def State.finishLoad (s : State) (slot : Nat) : State :=
  let x := s.ctx slot
  if x.st = .loading ∧ x.phase = .intake ∧ x.shards.all (fun h => h.2.status == 1) = true ∧ s.loadsLeft slot = false then
    ((s.modCtx slot fun x => { x with status := 0, detail := 0, cpb := [], manifest := [], kvTable := [], phase := .none }).ctxState
      slot .loaded).startPending
  else s

/-- SHARD_FAIL (R420). -/
def shardFailWord (e : ShardEnt) (h : Shard) : Nat := e.shid + h.status * 2 ^ 16 + h.attempts * 2 ^ 24 + (h.nx % 2 ^ 32) * 2 ^ 32

/-- An attempt's outcome: verified, fetched again, or failed for good (R418 to R420). -/
def State.endAttempt (s : State) (slot i status : Nat) (cs : Nat × Nat × Nat) : State :=
  let h := Tab.get {} (s.ctx slot).shards i
  if 2 ≤ status ∧ status ≤ 4 ∧ h.attempts < 4 then s.fetchShard slot i
  else
    let h1 : Shard := { h with status, nx := cs.1, active := false }
    let s1 := (s.modShard slot i fun _ => h1).modCtx slot fun x =>
      { x with quant := (x.quant.1 + cs.1, x.quant.2.1 + cs.2.1, x.quant.2.2 + cs.2.2) }
    if status = 1 then (s1.startShards slot).finishLoad slot
    else
      let w := shardFailWord (shardEnt (s.ctx slot).manifest i) h1
      (s1.modCtx slot fun x => { x with
        shardFail := w
        shards := Tab.map (fun _ g => if g.status = 0 then { g with status := 8, active := false } else g) x.shards }).failLoad slot 12 w

/-- The shard is in progress in a load's intake. -/
def State.inIntake (s : State) (slot i : Nat) : Bool :=
  let x := s.ctx slot
  decide (slot < 4) && x.st == .loading && x.phase == .intake && x.shards.any fun h => h.1 == i && h.2.active

/-! The steps of a load (R423). -/

/-- A region map entry of an image, owned by a slot (R94, R95). -/
def regionOfEnt (slot e : Nat) : Region :=
  { valid := true, ctx := slot, kind := bits e 60 58, cr := bit e 57, cw := bit e 56, sw := bit e 55, sa := bit e 54, hr := bit e 53
    hw := bit e 52, limit := bits e 48 32, base := bits e 16 0 }

/-- Lines take zero with valid check bytes, and their fill bits clear (R97, R99, R427). -/
def Core.clearLines (c : Core) (base limit : Nat) : Core :=
  { c with
    sram := Mem.clear c.sram (64 * base) (64 * (limit + 1))
    ecc := c.ecc.filter fun e => e.1 < base || limit < e.1
    writeback := c.writeback.filter fun l => l < base || limit < l
    fill := c.fill.filter fun l => l < base || limit < l }

/-- The context's valid entries take the core's lowest free entries, in order (R94, R95). -/
def Core.takeRegions (c : Core) (slot : Nat) (es : List Nat) : Core :=
  (es.filter (bit · 63)).foldl (fun (c : Core) e =>
    let r := regionOfEnt slot e
    match (List.range 16).find? fun i => !(Tab.get {} c.regions i).valid with
    | some i => { c.clearLines r.base r.limit with regions := Tab.put i r c.regions }
    | none => c) c

/-- The MC copies a core's segments, by WRITEs of its own (R181, R284). -/
def State.copySegs (s : State) (slot n : Nat) (b : Bytes) (ss : List (Nat × Nat × Nat × Nat)) : State :=
  ss.foldl (fun (s : State) g =>
    (if g.2.2.2 = 0 then [] else windowPackets (64 * g.2.2.1) (slice b g.2.1 (64 * g.2.2.2))).foldl (fun (s : State) p =>
      s.agentAsk 2 n slot (3, slot, 0, 0) p) s) s

/-- The route table entry toward a module: SIDE, ESCP, PROD (R294, R299, R356). -/
def Img.route (b : Bytes) (m d : Nat) : Nat × Nat × Nat :=
  if d = m then (0, 0x3F, 0)
  else
    let ps := Img.productives b m d
    let lo := ps.any (· < 16)
    let hi := ps.any (16 ≤ ·)
    (if lo && hi then d % 2 else if hi then 1 else 0, (Img.escape b m d).getD 0x3F, sumNat (ps.map (2 ^ ·)))

/-- Step 3: region maps, tier region, routes and KV descriptors are written, and the MC begins to copy the segments (R94, R109, R181, R294,
R423, R431). -/
def State.writeImage (s : State) (slot m : Nat) (kv : List Nat) : State :=
  let b := (s.ctx slot).image
  let t := Img.tierEntry b m
  let s1 := (List.range (Img.cores b m)).foldl (fun (s : State) n =>
    (s.modCore n fun c => c.takeRegions slot (Img.regions b m n)).copySegs slot n b (Img.segs b m n)) s
  s1.modCtx slot fun x => { x with
    digest := slice b 96 32
    tierRegion := if bit t 63 then some (bits t 17 9, bits t 8 0) else none
    routes := (List.range (Img.nmod b)).map fun d => (d, Img.route b m d)
    kv := kv.foldl (fun t e => Tab.put (16 * bits e 63 53 + bits e 52 49) { base := bits e 16 0, cap := bits e 47 32 } t) [] }

/-- Bytes of the CPB to read: its header, then its KV table (R400). -/
def cpbNeed (cpb : Bytes) : Nat := if cpb.length < 128 then 128 else 128 + 8 * cpbNkv cpb

/-- Bytes of the CPB arrive (R400, R401, R600). -/
def State.gotCpb (s : State) (slot : Nat) (d : Bytes) : State :=
  let x := s.ctx slot
  let b := x.cpb ++ d.take (cpbNeed x.cpb - x.cpb.length)
  if b.length < 128 then (s.setCtx slot { x with cpb := b }).emit (.hostRead 0 (x.loadAddr + b.length) (128 - b.length))
  else match cpbCheck b with
    | some (st, dt) => s.failLoad slot st dt
    | none =>
      if b.length < cpbNeed b then
        (s.setCtx slot { x with cpb := b }).emit (.hostRead 0 (x.loadAddr + b.length) (cpbNeed b - b.length))
      else
        (s.setCtx slot { x with
          cpb := b.take 40 ++ List.replicate 88 0, phase := .image, image := []
          seeds := (List.range 4).map fun j => slice b (40 + 16 * j) 16
          kvTable := (List.range (cpbNkv b)).map fun i => field b (128 + 8 * i) 8 }).emit (.hostRead 0 (cpbImg b).1 (cpbImg b).2)

/-- Step 3 is done once every segment is copied: the manifest is asked for (R423). -/
def State.segmentsDone (s : State) (slot : Nat) : State :=
  let x := s.ctx slot
  if x.st = .loading ∧ x.phase = .segments ∧ s.loadsLeft slot = false then
    (s.modCtx slot fun x => { x with phase := .manifest, manifest := [] }).emit (.hostRead 0 (cpbMan x.cpb).1 (cpbMan x.cpb).2)
  else s

/-- An answer to one of the MC's WRITEs: one that was not performed is asked again while its load goes on (R292, R423; DESIGN CHOICE, log
43: the spec does not say what becomes of a segment's WRITE that fails). -/
def State.segmentAnswer (s : State) (slot : Nat) (q r : Packet) : State :=
  let x := s.ctx slot
  if r.status ≠ 0 ∧ x.st = .loading ∧ x.phase = .segments then s.agentAsk 2 q.dest slot (3, slot, 0, 0) q else s.segmentsDone slot

/-- Bytes of the image arrive; once whole it is checked and written (R423, R600). -/
def State.gotImage (s : State) (slot : Nat) (d : Bytes) : State :=
  let x := s.ctx slot
  let (a, n) := cpbImg x.cpb
  let b := (x.image ++ d).take n
  let s1 := s.setCtx slot { x with image := b, pen := if 256 ≤ b.length then some (Img.pen b) else none }
  if 256 ≤ b.length ∧ Img.len b ≠ n then s1.failLoad slot 1 16
  else if b.length < n then s1.emit (.hostRead 0 (a + b.length) (n - b.length))
  else match Img.find b s.fuse.modid, s1.imageCheck b x.cpb with
    | some m, none => match kvCheck b m x.kvTable with
      | some (st, dt) => s1.failLoad slot st dt
      | none => ((s1.writeImage slot m x.kvTable).modCtx slot fun x => { x with phase := .segments }).segmentsDone slot
    | _, some (st, dt) => s1.failLoad slot st dt
    | none, none => s1.failLoad slot 3 (Img.modOff b)

/-- Bytes of the manifest arrive; once whole it is checked and intake begins (R423, R600, R601). -/
def State.gotManifest (s : State) (slot : Nat) (d : Bytes) : State :=
  let x := s.ctx slot
  let (a, n) := cpbMan x.cpb
  let b := (x.manifest ++ d).take n
  let s1 := s.setCtx slot { x with manifest := b }
  if 32 ≤ b.length ∧ field b 24 8 ≠ n then s1.failLoad slot 1 32
  else if b.length < n then s1.emit (.hostRead 0 (a + b.length) (n - b.length))
  else match s1.manifestCheck b x.cpb x.image with
    | some (st, dt) => s1.failLoad slot st dt
    | none =>
      let m := (Img.find x.image s.fuse.modid).getD 0
      ((s1.modCtx slot fun x => { x with phase := .intake, shards := (ownShards b m).map fun i => (i, ({} : Shard)) }).startShards slot).finishLoad slot

/-- A read of the CPB, the image or the manifest fails: the load ends with its host address (R600). -/
def State.loadReadFailed (s : State) (slot : Nat) : State :=
  let x := s.ctx slot
  s.failLoad slot 2 (match x.phase with
    | .cpb => x.loadAddr + x.cpb.length
    | .image => (cpbImg x.cpb).1 + x.image.length
    | .manifest => (cpbMan x.cpb).1 + x.manifest.length
    | _ => 0)

/-- A completion of a load's read (R400, R423, R454, R600). -/
def State.loadRead (s : State) (slot : Nat) (phase : LoadPhase) (data : Option Bytes) : State :=
  let x := s.ctx slot
  if 4 ≤ slot ∨ x.st ≠ .loading ∨ x.phase ≠ phase then s
  else match data with
    | none => s.loadReadFailed slot
    | some d => match phase with
      | .cpb => s.gotCpb slot d
      | .image => s.gotImage slot d
      | .manifest => s.gotManifest slot d
      | _ => s

/-! Unloading (R427). -/

/-- A core gives up a context's regions: its lines are zero, their fill bits clear, the entries not valid (R97, R427). -/
def Core.giveUp (c : Core) (slot : Nat) : Core :=
  let mine := c.regions.filter fun r => r.2.valid && r.2.ctx == slot
  let c1 := mine.foldl (fun (c : Core) r => c.clearLines r.2.base r.2.limit) c
  { c1 with regions := c1.regions.filter fun r => !(r.2.valid && r.2.ctx == slot) }

/-- The tier region of a context takes zeros, its host-held bits clear, and held lines are back-invalidated (R427, R457, R458). -/
def State.zeroTier (s : State) (lo n : Nat) : State :=
  let out := fun (b : Nat) => b < lo / 64 || (lo + n) / 64 ≤ b
  let mine := s.tier.hostHeld.filter fun k => lo ≤ k / 2 * 65536 && k / 2 * 65536 < lo + n
  let lines := mine.flatMap fun k => ((List.range 1024).map (k / 2 * 1024 + ·)).filter fun b => s.heldKey (64 * b) == k
  let t : Tier := { s.tier with
    mem := Mem.clear s.tier.mem lo (lo + n), errs := s.tier.errs.filter (fun e => out e.1), inverted := s.tier.inverted.filter out
    superseded := if s.hdmPort.isSome then lines ++ s.tier.superseded.filter (fun b => !lines.contains b) else s.tier.superseded
    hostHeld := s.tier.hostHeld.filter fun k => !mine.contains k }
  lines.foldl State.backInvalidate { s with tier := t }

/-- Steps 2 to 5 of R427: the slot holds nothing more of its context. -/
def State.clearCtx (s : State) (slot : Nat) : State :=
  let x := s.ctx slot
  let s1 := { s with cores := Tab.map (fun _ c => c.giveUp slot) s.cores }
  let s2 : State := match x.tierRange with | some r => s1.zeroTier r.1 r.2 | none => s1
  let s3 : State := if s2.diag.lastSlot = some slot then { s2.clearRecords with diag := { s2.clearRecords.diag with lastSlot := none } } else s2
  let s4 : State := { s3 with time := if s3.time.mustered.head? = some slot then s3.time.reparent s3.time.mustered.tail
                                     else { s3.time with mustered := s3.time.mustered.erase slot } }
  s4.setCtx slot { st := x.st, cpbAddr := x.cpbAddr, loadAddr := x.loadAddr, status := x.status, detail := x.detail, shards := x.shards
                   shardFail := x.shardFail, quant := x.quant, attempt := x.attempt, kvStatus := x.kvStatus, epoch := x.epoch
                   musterReason := x.musterReason, musterFmodid := x.musterFmodid, musterRx := x.musterRx }

/-! CTX_CMD (R422). -/

/-- A CTX_CMD value is refused with BUSY in the slot's state, in keeper mode, in recovery, after a breach, or before
start-up is through (R422, R529, R538, R548, R566). -/
def State.cmdBusy (s : State) (slot cmd : Nat) : Bool :=
  let st := (s.ctx slot).st
  let one := (List.range 4).any fun k => (s.ctx k).st == .mustering || (s.ctx k).st == .running
  if (s.pw.keeper && (cmd == 1 || cmd == 2 || cmd == 3)) || ((s.pw.recovery || !s.sec.meshOk || s.sec.breach) && (cmd == 1 || cmd == 3)) then true
  else match cmd with
    | 1 => s.pw.stage != 6 || s.pw.compute != 2 || s.pw.startFail != 0 || !s.tier.usable
        || !(st == .unloading || (st == .empty && !s.loading))
    | 2 => !(st == .loading || st == .loaded || st == .suspended || st == .stopped || st == .ended || st == .failed || st == .pending)
    | 3 => !(st == .failed || ((st == .loaded || st == .suspended) && !one))
    | 4 => !(st == .mustering)
    | _ => !(st == .mustering || st == .running)

/-- The slot exists and takes the command. -/
def State.cmdTaken (s : State) (slot cmd : Nat) : Bool := decide (slot < 4) && !s.cmdBusy slot cmd

/-- LOAD: a slot in EMPTY starts its load, one in UNLOADING waits (R422, R423). -/
def State.cmdLoad (s : State) (slot : Nat) : State :=
  let s1 := s.modCtx slot fun x => { x with loadAddr := x.cpbAddr, unloaded := false }
  if (s.ctx slot).st = .unloading then s1.ctxState slot .pending else s1.startLoad slot

/-- UNLOAD: intake is cancelled, its writes in flight completed, and unloading begins; a pending LOAD is dropped (R422, R425, R427). -/
def State.cmdUnload (s : State) (slot : Nat) : State :=
  let x := s.ctx slot
  if x.st = .pending then (s.modCtx slot fun x => { x with unloaded := false }).ctxState slot (if x.unloaded then .empty else .unloading)
  else if x.st = .loading then
    (((s.flushLoads slot).modCtx slot fun x => { x with
      phase := .none, status := 14, detail := 0
      shards := Tab.map (fun _ g => if g.status = 0 then { g with status := 8, active := false } else g) x.shards }).ctxState slot .unloading).startPending
  else s.ctxState slot .unloading

/-- MUSTER: the slot musters; on a slot in FAILED the module sends FAIL (R359, R422, R599). -/
def State.cmdMuster (s : State) (slot : Nat) : State :=
  let x := s.ctx slot
  if x.st = .failed then
    (s.modCtx slot fun x => { x with musterReason := 12, musterFmodid := s.fuse.modid }).bareFail slot x.attempt (x.pen.getD 0xFFFF) s.activePorts
  else s.startMuster slot x.attempt

/-- KILL: as ABORT in a muster; a running context stops at the next fold (R422, R426). -/
def State.cmdKill (s : State) (slot : Nat) : State :=
  if (s.ctx slot).st = .mustering then s.musterFail 15 else s.modCtx slot fun x => { x with killed := true }

/-! KV requests (R432, R433). -/

/-- KV_STATUS of a KV_REQ write (R428, R432, R433): 0 accepted, 1 out of range, 2 queue full, 3 state. -/
def State.kvStatusOf (s : State) (slot op kvs core reserved toff : Nat) : Nat :=
  let x := s.ctx slot
  if x.st = .empty ∨ x.st = .loading ∨ x.st = .failed ∨ x.st = .unloading ∨ x.st = .pending then 3
  else if (op ≠ 1 ∧ op ≠ 2) ∨ 16 ≤ kvs ∨ reserved ≠ 0 ∨ !(core < s.nCores || (core == 0xFFFF && op == 1))
      ∨ (op = 1 ∧ toff ≠ 0) then 1
  else if op = 2 ∧ (toff % 256 ≠ 0 ∨ !(match x.tierRange with
      | some r => decide (toff + 256 * (x.kvDesc core kvs).cap ≤ r.2)
      | none => false)) then 1
  else if 64 ≤ x.kvQueue.length then 2
  else 0

/-- A KV_REQ write: queued, and applied at once when the slot is not running or mustering (R432, R433). -/
def State.kvReq (s : State) (slot op kvs core reserved toff : Nat) : State :=
  let st := s.kvStatusOf slot op kvs core reserved toff
  let s1 := s.modCtx slot fun x => { x with kvStatus := st, kvQueue := if st = 0 then x.kvQueue ++ [(op, kvs, core, toff)] else x.kvQueue }
  if st = 0 ∧ (s.ctx slot).st ≠ .running ∧ (s.ctx slot).st ≠ .mustering then s1.applyKvQueue slot else s1

end Sys2Proof.Machine
end

