-- ==== Sys2Proof/Machine/HostOps.lean ====
section
/-! DEFINITION. The host attachment: agent requests and their responses, the core window, command rings and descriptors, the reset of a
CXL port (R435 to R467). -/

namespace Sys2Proof.Machine

/-! When a port takes host traffic (R435, R438). -/

/-- The port's link is up. -/
def Cxl.up (c : Cxl) : Bool := c.link == 1 && !c.perst
/-- R438, or a link without 256-byte flit mode (R435), keeps host traffic out. -/
def State.hostBlocked (s : State) (port : Nat) : Bool :=
  (s.cxl port).flit256 == 0 || (s.nv.ideRequired == 1 && (s.cxl port).ide != 3)
/-- The port exists, its link is up and nothing keeps traffic out. -/
def State.hostOpen (s : State) (port : Nat) : Bool := decide (port < 2) && (s.cxl port).up && !s.hostBlocked port

/-- AER logs an error of a port by its status bit; the first one also logs the request (R440, R443, R465). -/
def Cxl.logAer (c : Cxl) (b offset : Nat) : Cxl :=
  { c with aer := setBit c.aer b true, aerHeader := if c.aer = 0 then offset else c.aerHeader }
/-- A request to a port is an Unsupported Request, logged in AER (R438, R440, R441, R443, R459). -/
def State.unsupported (s : State) (port offset : Nat) : State := (s.modCxl port (·.logAer 20 offset)).emit (.unsupported port offset)
/-- A read of a port completes with Completer Abort, logged in AER (R440, R441, R443). -/
def State.abortRead (s : State) (port offset : Nat) : State := (s.modCxl port (·.logAer 15 offset)).emit (.completerAbort port)

/-! The core window (R441 to R444). -/

/-- A window access names one core of the grade (R441). -/
def State.windowOk (s : State) (offset len : Nat) : Bool :=
  decide (offset / 2 ^ 23 < s.nCores) && decide (offset % 2 ^ 23 + len ≤ 2 ^ 23)

/-- The port has window writes without their COMPLETION (R444). -/
def State.windowBusy (s : State) (port : Nat) : Bool :=
  (s.net.agents.any fun e => e.2.serve.1 == 0 && e.1 / 65536 == port) || s.net.agentQ.any fun e => e.1 == port && e.2.serve.1 == 0

/-- A window read becomes one READ, or two for 17 lines (R443). -/
def State.issueRead (s : State) (port offset len : Nat) : State :=
  let addr := offset % 2 ^ 23
  let core := offset / 2 ^ 23
  let n := (addr + len - 1) / 64 + 1 - addr / 64
  let k := (s.cxl port).nextRead
  let slot := (s.cxl port).winSlot
  let s1 := s.modCxl port fun c => { c with
    nextRead := k + 1, reads := c.reads ++ [{ num := k, core, addr, len, left := if n = 17 then 2 else 1, lines := [] }] }
  let s2 := s1.agentAsk port core slot (1, port, k, 0) { type := 3, addr := 64 * (addr / 64), opx := min n 16 }
  if n = 17 then s2.agentAsk port core slot (1, port, k, 0) { type := 3, addr := 64 * (addr / 64 + 16), opx := 1 } else s2

/-- Reads that waited for earlier writes go out once none is outstanding (R444). -/
def State.startReads (s : State) (port : Nat) : State :=
  if s.windowBusy port || (s.cxl port).readsWaiting.isEmpty then s
  else (s.cxl port).readsWaiting.foldl (fun (s : State) r => s.issueRead port r.1 r.2) (s.modCxl port fun c => { c with readsWaiting := [] })

/-- One response of a window read (R443). -/
def State.windowAnswer (s : State) (port num : Nat) (q r : Packet) : State :=
  match (s.cxl port).reads.find? (·.num == num) with
  | none => s
  | some w =>
    let ls := (List.range (q.opx % 32)).map fun i => (q.addr / 64 + i, lineOf (r.datas.getD (i / 4) 0) (i % 4))
    let w1 : WinRead := { w with left := w.left - 1, lines := w.lines ++ ls, failed := w.failed || r.status != 0 }
    let rest := (s.cxl port).reads.filter (·.num != num)
    if w1.left ≠ 0 then s.modCxl port fun c => { c with reads := rest ++ [w1] }
    else
      let byte := fun (a : Nat) => ((Tab.get 0 w1.lines (a / 64)).extractLsb' (8 * (a % 64)) 8 : Byte)
      let s1 := s.modCxl port fun c => { c with reads := rest }
      if w1.failed then s1.abortRead port (w.core * 2 ^ 23 + w.addr)
      else s1.emit (.windowData port ((List.range w.len).map fun i => byte (w.addr + i)))

/-! Rings and descriptors (R445 to R453). -/

/-- A ring of a port. -/
def State.ring (s : State) (port ring : Nat) : Ring := Tab.get {} (s.cxl port).rings ring
/-- Change a ring. -/
def State.modRing (s : State) (port ring : Nat) (f : Ring → Ring) : State :=
  s.modCxl port fun c => { c with rings := Tab.put ring (f (Tab.get {} c.rings ring)) c.rings }
/-- Entries of the SQ and of the CQ (R446). -/
def Ring.sqSize (r : Ring) : Nat := 2 ^ (r.sqsz + 4)
def Ring.cqSize (r : Ring) : Nat := 2 ^ (r.cqsz + 4)

/-- A ring holds this line as its SQ_TAIL mirror (R451). -/
def Cxl.mirrors (c : Cxl) (a : Nat) : Bool := c.rings.any fun r => r.2.st != 0 && r.2.snoop && r.2.tailAddr / 64 * 64 == a
/-- The device cache takes a line; above its 1,024 lines the oldest that mirrors no SQ_TAIL leaves it (R436, R451; DESIGN CHOICE which
one, log 45). -/
def Cxl.hold (c : Cxl) (a : Nat) : Cxl :=
  let l := c.cache.filter (· != a) ++ [a]
  { c with cache := if l.length ≤ 1024 then l else l.eraseP fun x => !c.mirrors x }
/-- The module reads a host line through the device cache (R436, R451). -/
def State.cacheRead (s : State) (port a : Nat) : State := (s.modCxl port (·.hold a)).emit (.cacheRead port a)

/-- The next SQ entry is read through the device cache while there are new ones and R438 lets the port read (R438, R445, R448, R451). -/
def State.fillRing (s : State) (port ring : Nat) : State :=
  let r := s.ring port ring
  if r.st = 1 ∧ r.reading = false ∧ r.sqHead ≠ r.sqTail ∧ r.fetched.length < 4 ∧ s.hostBlocked port = false then
    (s.modRing port ring fun r => { r with reading := true }).cacheRead port (r.sqBase + 64 * r.sqHead)
  else s

/-- A ring enables as from OFF (R447); with SNOOP the line at TAIL_ADDR is held Shared (R451). -/
def State.enableRing (s : State) (port ring : Nat) : State :=
  let r := s.ring port ring
  if r.sqsz ≤ 12 ∧ r.cqsz ≤ 12 ∧ r.sqsz ≤ r.cqsz ∧ r.sqBase % 4096 = 0 ∧ r.cqBase % 4096 = 0 ∧ s.hostBlocked port = false then
    let s1 := s.modRing port ring fun r => { r with
      st := 1, sqHead := 0, sqTail := 0, cqTail := 0, phase := true, cqUsed := 0, cfgErr := false, fetched := [], descs := []
      reading := false, waitLeft := false }
    if r.snoop then s1.cacheRead port (r.tailAddr / 64 * 64) else s1
  else s.modRing port ring fun r => { r with st := 0, cfgErr := true }

/-- A drained ring is OFF, or enables again when that is pending (R447). -/
def State.endDrain (s : State) (port ring : Nat) : State :=
  let r := s.ring port ring
  if r.descs ≠ [] ∨ !(r.st == 2 || r.st == 3) then s
  else
    let s1 := (s.modRing port ring fun r => { r with st := 0, fetched := [], reading := false, waitLeft := false }).modCxl port
      fun c => { c with cache := c.cache.filter (· != r.tailAddr / 64 * 64) }
    if r.st = 3 then s1.enableRing port ring else s1

/-- EN := 1 (R447). -/
def State.ringOn (s : State) (port ring : Nat) : State :=
  match (s.ring port ring).st with
  | 0 => s.enableRing port ring
  | 2 => s.modRing port ring fun r => { r with st := 3 }
  | 3 => s.modRing port ring fun r => { r with busy := true }
  | _ => s

/-- EN := 0: the ring drains, a waiting descriptor that has not started ends with ABORTED (R447, R452). -/
def State.ringOff (s : State) (port ring : Nat) : State :=
  match (s.ring port ring).st with
  | 1 => (s.modRing port ring fun r => { r with
      st := 2, fetched := [], waitLeft := false
      descs := r.descs ++ r.fetched.filterMap fun e => match e.2 with
        | some b => if bit (field b 1 1) 1 then some (e.1, ({ raw := b, status := 6, ran := true } : Desc)) else none
        | none => none }).endDrain port ring
  | 3 => s.modRing port ring fun r => { r with st := 2 }
  | _ => s

/-- SQ_TAIL takes a value; one at or above the SQ size is refused (R447). -/
def State.tailTo (s : State) (port ring v : Nat) : State :=
  if v < (s.ring port ring).sqSize then (s.modRing port ring fun r => { r with sqTail := v, cfgErr := false }).fillRing port ring
  else s.modRing port ring fun r => { r with cfgErr := true }

/-- Fields of a descriptor (R448). -/
def dscOp (b : Bytes) : Nat := field b 0 1
def dscSlot (b : Bytes) : Nat := field b 2 1
def dscLen (b : Bytes) : Nat := field b 4 4
def dscHost (b : Bytes) : Nat := field b 8 8
def dscDev (b : Bytes) : Nat := field b 16 8
def dscTier (b : Bytes) : Bool := bit (dscDev b) 63
def dscCore (b : Bytes) : Nat := bits (dscDev b) 33 23
def dscAddr (b : Bytes) : Nat := if dscTier b then bits (dscDev b) 38 0 else bits (dscDev b) 22 0

/-- A field breaks R448 or R449. -/
def State.badDesc (s : State) (b : Bytes) : Bool :=
  let op := dscOp b
  let dev := dscDev b
  let len := dscLen b
  op < 1 || 5 < op || 8 ≤ field b 1 1 || 4 ≤ dscSlot b || !zeroAt b 3 1 || !zeroAt b 30 2 || !zeroAt b 36 28
    || (if op = 5 then len != 0 || dscHost b != 0 || dev != 0
      else len % 64 != 0 || len < 64 || 2 ^ 24 < len || dscHost b % 64 != 0 || dev % 64 != 0
        || (if dscTier b then bits dev 62 39 != 0 else bits dev 62 34 != 0 || s.nCores ≤ dscCore b || 2 ^ 23 < dscAddr b + len)
        || ((op == 3 || op == 4) && dscHost b != 0)
        || (op == 4 && (!dscTier b || dev % 65536 != 0 || len % 65536 != 0 || s.tierBytes < dscAddr b + len)))

/-- The error with which a sound descriptor starts, 0 for none: its slot's state, its tier range (R442, R449, R452). -/
def State.startError (s : State) (b : Bytes) : Nat :=
  if 4 ≤ dscOp b then 0
  else if !s.hostSlot (dscSlot b) then 5
  else if !dscTier b then 0
  else match (s.ctx (dscSlot b)).tierRange with
    | some r => if r.1 ≤ dscAddr b ∧ dscAddr b + dscLen b ≤ r.1 + r.2 then 0 else 3
    | none => 3

/-- The first fetched descriptor becomes a started one. -/
def State.takeDesc (s : State) (port ring i : Nat) (d : Desc) : State :=
  (s.modRing port ring fun r => { r with fetched := r.fetched.drop 1, waitLeft := false, descs := r.descs ++ [(i, d)] }).fillRing port ring

/-- The fold a descriptor waits for has come (R450). -/
def State.waitMet (s : State) (b : Bytes) : Bool :=
  match (s.ctx (dscSlot b)).lastFold with
  | some t => atOrAfter 48 t (field b 24 6)
  | none => false

/-- The next descriptor of a ring starts, in ring order, four in progress at most, while R438 lets the port work (R438, R448, R450, R452,
R453). -/
def State.startDesc (s : State) (port ring : Nat) : State :=
  let r := s.ring port ring
  if r.st ≠ 1 ∨ 4 ≤ r.descs.length ∨ s.hostBlocked port = true then s
  else match r.fetched with
    | [] => s.fillRing port ring
    | (i, none) :: _ => s.takeDesc port ring i { raw := List.replicate 64 0, status := 2, ran := true }
    | (i, some b) :: _ =>
      let flags := field b 1 1
      if s.badDesc b then s.takeDesc port ring i { raw := b, status := 1, ran := true }
      else if bit flags 2 && !r.descs.isEmpty then s
      else if bit flags 1 && r.waitLeft then s.takeDesc port ring i { raw := b, status := 5, ran := true }
      else if bit flags 1 && !s.waitMet b then s
      else
        let e := s.startError b
        let t := (s.ctx (dscSlot b)).lastFold
        let s1 := s.takeDesc port ring i { raw := b, status := e, ran := e != 0, startTally := t, tally := t }
        if e = 0 ∧ dscOp b = 1 then s1.emit (.hostRead port (dscHost b) (dscLen b)) else s1

/-- A started descriptor of an operation that has not run. -/
def State.readyDesc (s : State) (port ring i op : Nat) : Option Desc :=
  match (s.ring port ring).descs.find? (·.1 == i) with
  | some e => if e.2.ran = false ∧ dscOp e.2.raw = op then some e.2 else none
  | none => none

/-- WRITE packets of a copy: up to four data flits each, a last part of a flit by itself under its MASK (R449). -/
def copyPackets (addr : Nat) (d : Bytes) : List Packet :=
  let full := d.length / 256
  let tail := d.length % 256
  ((List.range (ceilDiv full 4)).map fun k =>
    { type := 1, addr := addr + 1024 * k, mask := 2 ^ 64 - 1
      datas := (List.range (min 4 (full - 4 * k))).map fun f => bytesBv 2048 (slice d (1024 * k + 256 * f) 256) })
    ++ if tail = 0 then [] else
      [{ type := 1, addr := addr + 256 * full, mask := 2 ^ (tail / 4) - 1, datas := [bytesBv 2048 (d.drop (256 * full))] }]

/-- The agent sends a descriptor's requests. -/
def State.sendAll (s : State) (port ring i core slot : Nat) (ps : List Packet) : State :=
  ps.foldl (fun (s : State) p => s.agentAsk port core slot (2, port, ring, i) p) (s.modDesc port ring i fun d => { d with ran := true, left := ps.length })

/-- A descriptor's tier access is refused, for its slot's state or its range has changed since it started (R442, R452). -/
def State.refuseTier (s : State) (port ring i : Nat) (b : Bytes) : State :=
  s.modDesc port ring i fun d => { d with ran := true, status := s.startError b }

/-- Bytes go into a descriptor's device range (R442, R449, R452). -/
def State.copyIn (s : State) (port ring i : Nat) (b d : Bytes) : State :=
  if dscTier b then
    if s.startError b ≠ 0 then s.refuseTier port ring i b
    else ((List.range (d.length / 64)).foldl (fun (s : State) k => s.tierWrite (dscAddr b + 64 * k) (bytesBv 512 (slice d (64 * k) 64)) false)
      (s.modDesc port ring i fun d => { d with ran := true })).touchDesc port ring i (dscSlot b)
  else s.sendAll port ring i (dscCore b) (dscSlot b) (copyPackets (dscAddr b) d)

/-- Reads of consecutive tier blocks until one is uncorrectable (R449, R452). -/
def State.tierReads (s : State) (ta : Nat) : Nat → List Line × Bool × State
  | 0 => ([], false, s)
  | k + 1 =>
    let r := s.tierRead ta 2
    if r.2.1 then ([], true, r.2.2)
    else let t := State.tierReads r.2.2 (ta + 64) k; (r.1 :: t.1, t.2.1, t.2.2)

/-- A descriptor's device range goes out to the host (R442, R449, R452). -/
def State.copyOut (s : State) (port ring i : Nat) (b : Bytes) : State :=
  if dscTier b then
    if s.startError b ≠ 0 then s.refuseTier port ring i b
    else
    let r := s.tierReads (dscAddr b) (dscLen b / 64)
    let s1 := (r.2.2.modDesc port ring i fun d => { d with ran := true, status := if r.2.1 then 4 else 0 }).touchDesc port ring i (dscSlot b)
    if r.2.1 then s1 else s1.emit (.hostWrite port (dscHost b) (r.1.flatMap (bvBytes 64)))
  else
    let n := dscLen b / 64
    s.sendAll port ring i (dscCore b) (dscSlot b) ((List.range (ceilDiv n 16)).map fun k =>
      { type := 3, addr := dscAddr b + 1024 * k, opx := min 16 (n - 16 * k) })

/-- Descriptor STATUS of a response's STATUS (R443, R452). -/
def dscStatus : Nat → Nat
  | 0 => 0 | 1 => 3 | 3 => 4 | _ => 7

/-- A response of a descriptor's request: after an error no further request is issued; the last data of a D2H goes out (R449, R452). -/
def State.descAnswer (s : State) (port ring i : Nat) (q r : Packet) : State :=
  match (s.ring port ring).descs.find? (·.1 == i) with
  | none => s
  | some e =>
    let bad := dscStatus r.status
    let base := dscAddr e.2.raw
    let ls := if q.type = 3 then (List.range (q.opx % 32)).map fun k => ((q.addr - base) / 64 + k, lineOf (r.datas.getD (k / 4) 0) (k % 4)) else []
    let mine := fun (x : Nat × OutReq) => x.2.serve == (2, port, ring, i)
    let held := if bad = 0 then 0 else (s.net.agentQ.filter mine).length
    let s1 : State := if bad = 0 then s else { s with net := { s.net with agentQ := s.net.agentQ.filter fun x => !mine x } }
    let d : Desc := { e.2 with left := e.2.left - 1 - held, status := if e.2.status = 0 then bad else e.2.status, got := e.2.got ++ ls }
    let s2 := s1.modDesc port ring i fun _ => d
    if d.left = 0 ∧ d.status = 0 ∧ dscOp d.raw = 2 then
      let lines := (List.range (dscLen d.raw / 64)).map fun k => match d.got.find? (·.1 == k) with | some l => l.2 | none => 0
      (s2.modDesc port ring i fun d => { d with got := [] }).emit (.hostWrite port (dscHost d.raw) (lines.flatMap (bvBytes 64)))
    else s2

/-- The CQ entry of a descriptor (R452). -/
def cqEntry (r : Ring) (i : Nat) (d : Desc) : Bytes :=
  slice d.raw 32 4 ++ leBytes 2 ((i + 1) % r.sqSize) ++ leBytes 1 d.status ++ leBytes 1 (r.phase.toNat + 2 * d.late.toNat)
    ++ leBytes 6 (d.tally.getD (2 ^ 48 - 1)) ++ leBytes 2 0

/-- A finished descriptor writes its CQ entry, where a slot is free, and then its MSI-X message (R447, R452, R460). -/
def State.completeDesc (s : State) (port ring i : Nat) : State :=
  let r := s.ring port ring
  match r.descs.find? (·.1 == i) with
  | none => s
  | some e =>
    if e.2.ran = false ∨ e.2.left ≠ 0 ∨ r.cqSize ≤ r.cqUsed then s
    else
      let last := decide (r.cqTail + 1 = r.cqSize)
      let s1 := (s.modRing port ring fun r => { r with
        descs := r.descs.filter (·.1 != i), cqUsed := r.cqUsed + 1, cqTail := if last then 0 else r.cqTail + 1
        phase := if last then !r.phase else r.phase }).emit (.hostWrite port (r.cqBase + 16 * r.cqTail) (cqEntry r i e.2))
      (if bit (field e.2.raw 1 1) 0 then s1.msix port ring else s1).endDrain port ring

/-- CQ_HEAD takes a value: the slots before it are free (R445, R452). -/
def State.cqHeadTo (s : State) (port ring v : Nat) : State :=
  s.modRing port ring fun r =>
    if v < r.cqSize then { r with cqHead := v, cqUsed := r.cqUsed - (v + r.cqSize - r.cqHead % r.cqSize) % r.cqSize } else r

/-! The HDM decoder (R438, R455). -/

/-- The decoder commits, or shows Error Not Committed: the other port's is committed, R438 refuses, or start-up failed (R438, R455,
R565). -/
def State.hdmCommit (s : State) (port : Nat) : State :=
  if (s.cxl (1 - port)).hdm || s.hostBlocked port || s.pw.startFail != 0 then s.modCxl port fun c => { c with hdmError := true }
  else s.modCxl port fun c => { c with hdm := true, hdmError := false }

/-- The host clears the decoder (R455). -/
def State.hdmClear (s : State) (port : Nat) : State := s.modCxl port fun c => { c with hdm := false, hdmError := false }

/-! Responses that reach an agent (R292, R302). -/

/-- An agent retires a request with its response and hands it to what issued it (R292, R423, R443, R466). -/
def State.agentRetire (s : State) (a : Nat) (o : OutReq) (r : Packet) : State :=
  let s1 : State := { s with net := { s.net with agents := Tab.del (65536 * a + o.packet.rtag) s.net.agents } }
  let v := o.serve
  let s2 := match v.1 with
    | 0 => (if r.status = 0 then s1 else s1.unsupported v.2.1 (o.packet.dest * 2 ^ 23 + o.packet.addr))
    | 1 => s1.windowAnswer v.2.1 v.2.2.1 o.packet r
    | 2 => s1.descAnswer v.2.1 v.2.2.1 v.2.2.2 o.packet r
    | 3 => s1.segmentAnswer v.2.1 o.packet r
    | _ => s1
  (s2.agentPump a s2.net.agentQ.length).startReads a

/-- A response that may land at an agent now: in order, or matching nothing; any number of others wait at the agent (R292, R302; DESIGN
CHOICE, log 41: the spec gives an agent no reorder store). -/
def State.agentReady (s : State) (a : Nat) (e : Nat × StrayAt) : Bool :=
  e.2.node == 12288 + a && (match matchOut s.net.agents (65536 * a) e.2.packet with
    | some o => inOrder (s.agentTab a) o
    | none => true)

/-- An agent takes the next response that has reached it (R292, R302). -/
def State.agentLand (s : State) (a : Nat) : State :=
  match s.net.packets.find? (s.agentReady a) with
  | none => s
  | some e =>
    let s1 := s.dropPacket e.1
    match matchOut s.net.agents (65536 * a) e.2.packet with
    | some o => s1.agentRetire a o e.2.packet
    | none => s1.modDiag fun d => { d with staleRsp := satAdd 64 d.staleRsp 1 }

/-! The reset of a CXL port (R466, R467). -/

/-- What a reset of a CXL port keeps of it: its link, its dictionary counts, logs and timestamp. -/
def Cxl.afterReset (c : Cxl) : Cxl :=
  { link := c.link, width := c.width, rate := c.rate, flit256 := c.flit256, downs := c.downs, perst := c.perst, logs := c.logs
    nextHandle := c.nextHandle, stamp := c.stamp, stampAt := c.stampAt, aer := c.aer, aerHeader := c.aerHeader, nextRead := c.nextRead }

/-- Requests of a port that are out are performed and their responses discarded; those still waiting go no more (R466). -/
def StrayNet.portGone (n : StrayNet) (port : Nat) : StrayNet :=
  { n with agents := n.agents.map fun e => if e.1 / 65536 = port then (e.1, { e.2 with serve := (9, 0, 0, 0) }) else e
           agentQ := n.agentQ.filter (·.1 != port) }

/-- Outstanding back-invalidations of a port are taken as answered, and its host-held bits clear (R458, R466). -/
def Tier.portGone (t : Tier) (port : Nat) (committed : Bool) : Tier :=
  let mine := (t.backInv.filter (·.1 == port)).map (·.2)
  { t with
    backInv := t.backInv.filter (·.1 != port)
    answered := t.answered ++ mine.filter fun b => !(t.superseded.contains b || t.rewrites.contains b)
    backQ := if committed then [] else t.backQ, superseded := if committed then [] else t.superseded
    hostHeld := if committed then [] else t.hostHeld }

/-- Loads and shard fetches that read over a port fail (R466, R600). -/
def State.portLoads (s : State) (port : Nat) : State :=
  (List.range 4).foldl (fun (s : State) k =>
    let x := s.ctx k
    if x.st ≠ .loading then s
    else if x.phase = .intake then
      x.shards.foldl (fun (s : State) (h : Nat × Shard) =>
        if h.2.active && (shardEnt x.manifest h.1).srck % 2 == port && s.inIntake k h.1 then s.endAttempt k h.1 2 (0, 0, 0) else s) s
    else if port = 0 then s.loadReadFailed k else s) s

/-- A port resets as by a conventional reset (R458, R466, R467). -/
def State.resetCxl (s : State) (port : Nat) : State :=
  let c := s.cxl port
  let s1 := s.setCxl port c.afterReset
  let s2 : State := { s1 with net := s1.net.portGone port, tier := s1.tier.portGone port c.hdm }
  ((s.tier.rewrites.filter fun b => s.tier.backInv.contains (port, b)).foldl State.endRewrite s2).portLoads port

end Sys2Proof.Machine
end

