-- ==== Sys2Proof/Machine/Host.lean ====
section
/-! DEFINITION. The commands of the core window, of the command rings and of the module's reads of host memory (R438 to R454, R459). A
command whose event cannot happen leaves the state as it is (log 2). -/

namespace Sys2Proof.Machine

/-- A request to a BAR of a port whose link is up: refused while R438 or R435 keeps it out, else served. -/
def State.barGate (s : State) (port offset : Nat) (f : State → State) : State :=
  if 2 ≤ port ∨ !(s.cxl port).up then s
  else if s.hostBlocked port then s.unsupported port offset
  else f s

/-- HOST_WINDOW_WRITE: a BAR2 write becomes WRITE requests to one core, checked against WIN_CTL.SLOT (R441 to R443). -/
def execHostWindowWrite (port offset : Nat) (data : Bytes) (s : State) : Out :=
  .next (if data = [] then s else s.barGate port offset fun s =>
    if !s.windowOk offset data.length || offset % 4 != 0 || data.length % 4 != 0 then s.unsupported port offset
    else
      let slot := (s.cxl port).winSlot
      (windowPackets (offset % 2 ^ 23) data).foldl (fun (t : State) p => t.agentAsk port (offset / 2 ^ 23) slot (0, port, 0, 0) p) s)

/-- HOST_WINDOW_READ: a BAR2 read becomes READ requests once the port's earlier writes have completed (R441 to R444). -/
def execHostWindowRead (port offset length : Nat) (s : State) : Out :=
  .next (if length = 0 ∨ 1024 < length then s else s.barGate port offset fun s =>
    if !s.windowOk offset length then s.abortRead port offset
    else (s.modCxl port fun c => { c with readsWaiting := c.readsWaiting ++ [(offset, length)] }).startReads port)

/-- BAR0 offset of a ring's registers (R439). -/
def ringOffset (ring : Nat) : Nat := 0x1000 + 0x40 * ring

/-- RING_ENABLE: EN := 1; while R438 refuses it, CFGERR is set (R438, R446, R447). -/
def execRingEnable (port ring : Nat) (s : State) : Out :=
  .next (if port < 2 ∧ ring < 16 ∧ (s.cxl port).up = true then s.ringOn port ring else s)

/-- RING_DISABLE: EN := 0 (R446, R447). -/
def execRingDisable (port ring : Nat) (s : State) : Out :=
  .next (if ring < 16 then s.barGate port (ringOffset ring + 0x10) fun s => s.ringOff port ring else s)

/-- SQ_TAIL: the doorbell (R445, R447). -/
def execSqTail (port ring value : Nat) (s : State) : Out :=
  .next (if ring < 16 then s.barGate port (ringOffset ring + 0x18) fun s => s.tailTo port ring value else s)

/-- TAIL_LINE_SNOOP: the host wrote the mirror line, and R438 lets its snoop in; the module reads the line again and takes bytes 0 and 1 as
SQ_TAIL (R438, R451). -/
def execTailLineSnoop (port ring value : Nat) (s : State) : Out :=
  let line := (s.ring port ring).tailAddr / 64 * 64
  .next (if ring < 16 ∧ s.hostOpen port = true ∧ (s.ring port ring).snoop = true ∧ (s.cxl port).cache.contains line = true then
    (s.cacheRead port line).tailTo port ring (value % 65536)
  else s)

/-- DESCRIPTOR_START: the next descriptor of the ring, once ring order, FENCE and WAIT allow (R448 to R450). -/
def execDescriptorStart (port ring : Nat) (s : State) : Out := .next (s.startDesc port ring)

/-- H2D: the host's data, or a host read error, for a started copy into the device; data comes only while R438 lets the port accept it
(R438, R449, R452). -/
def execH2d (port ring index : Nat) (data : Option Bytes) (s : State) : Out :=
  .next (match s.readyDesc port ring index 1 with
    | none => s
    | some d => match data with
      | some b => if s.hostBlocked port then s
        else if b.length = dscLen d.raw then s.copyIn port ring index d.raw b
        else s.modDesc port ring index fun d => { d with ran := true, status := 2 }
      | none => s.modDesc port ring index fun d => { d with ran := true, status := 2 })

/-- D2H: a started copy out of the device, while R438 lets the port work (R438, R449, R452). -/
def execD2h (port ring index : Nat) (s : State) : Out :=
  .next (match s.readyDesc port ring index 2 with
    | some d => if s.hostBlocked port then s else s.copyOut port ring index d.raw
    | none => s)

/-- ZERO: zeros into the device range, while R438 lets the port work (R438, R449, R452). -/
def execZero (port ring index : Nat) (s : State) : Out :=
  .next (match s.readyDesc port ring index 3 with
    | some d => if s.hostBlocked port then s else s.copyIn port ring index d.raw (List.replicate (dscLen d.raw) 0)
    | none => s)

/-- TIER_RELEASE: the host-held bits of the range clear (R449, R458). -/
def execTierRelease (port ring index : Nat) (s : State) : Out :=
  .next (match s.readyDesc port ring index 4 with
    | some d =>
      let lo := dscAddr d.raw
      let s1 := { s with tier := { s.tier with
        hostHeld := s.tier.hostHeld.filter fun k => !(lo ≤ k / 2 * 65536 && k / 2 * 65536 < lo + dscLen d.raw) } }
      s1.modDesc port ring index fun d => { d with ran := true }
    | none => s)

/-- DESC_NOP: a completion only (R449). -/
def execDescNop (port ring index : Nat) (s : State) : Out :=
  .next (match s.readyDesc port ring index 5 with
    | some _ => s.modDesc port ring index fun d => { d with ran := true }
    | none => s)

/-- DESCRIPTOR_COMPLETE: the CQ entry and, with IRQ, the MSI-X message (R447, R452, R453, R460). -/
def execDescriptorComplete (port ring index : Nat) (s : State) : Out := .next (s.completeDesc port ring index)

/-- A ring's read of an SQ entry completes: the entry is fetched, SQ_HEAD moves; its data comes only while R438 lets the port accept it
(R438, R445, R448, R454). -/
def State.gotDesc (s : State) (port ring : Nat) (data : Option Bytes) : State :=
  let r := s.ring port ring
  if r.reading = false ∨ (data.isSome = true ∧ s.hostBlocked port = true) then s
  else if r.st ≠ 1 then s.modRing port ring fun r => { r with reading := false }
  else
    let d := match data with | some b => if b.length = 64 then some b else none | none => none
    (s.modRing port ring fun r => { r with
      reading := false, fetched := r.fetched ++ [(r.sqHead, d)], sqHead := (r.sqHead + 1) % r.sqSize }).fillRing port ring

/-- HOST_READ_COMPLETION: data, or none for an error or a timeout, of the module's read of the CPB, the image, the manifest or a
descriptor (R400, R423, R454, R600). -/
def execHostReadCompletion (what : HostRd) (data : Option Bytes) (s : State) : Out :=
  .next (match what with
    | .cpb slot => s.loadRead slot .cpb data
    | .image slot => s.loadRead slot .image data
    | .manifest slot => s.loadRead slot .manifest data
    | .descriptor port ring => s.gotDesc port ring data)

/-- UIO_REQUEST_RECEIVE: a UIO request to the module is answered with Unsupported Request (R436, R459). -/
def execUioRequestReceive (port : Nat) (s : State) : Out :=
  .next (if port < 2 ∧ (s.cxl port).up = true then s.unsupported port 0 else s)

end Sys2Proof.Machine
end

