-- ==== Sys2Proof/Machine/CxlMem.lean ====
section
/-! DEFINITION. The commands of CXL.mem, of a CXL port's link, resets and IDE streams (R436, R438, R455 to R458, R465 to R467, R528,
R538, R577). A command whose event cannot happen leaves the state as it is (log 2). -/

namespace Sys2Proof.Machine

/-- The I/O die of a tier address is the one that keeper mode's cause names (R526, R528). -/
def State.tierDead (s : State) (ta : Nat) : Bool :=
  s.pw.keeper && s.pw.keeperCause / 256 % 256 == 13 + channelDie (s.tierChannel ta)

/-- CXL.mem reaches the tier over this port: its decoder is committed and covers the address (R438, R455). -/
def State.memOpen (s : State) (port ta : Nat) : Bool := s.hostOpen port && (s.cxl port).hdm && decide (ta < s.tierBytes)

/-- The slot whose region holds the address keeps CXL.mem from its bytes (R456). -/
def State.memHidden (s : State) (ta : Nat) : Bool :=
  match s.tierSlot ta with
  | some k => let st := (s.ctx k).st; st == .loading || st == .unloading || st == .pending
  | none => false

/-- An event record enters a log of a port's mailbox; its bytes and its log are what CXL 3.1 defines (R461, R465, log 5). -/
def State.eventRecord (s : State) (port : Nat) : State :=
  let c := s.cxl port
  let log := Config.choice s.free % 4
  ({ s with free := s.free + 1 } : State).setCxl port { c with
    nextHandle := c.nextHandle + 1, logs := Tab.put log (Tab.get [] c.logs log ++ [(c.nextHandle, Config.externalBytes s.free)]) c.logs }

/-- CXL_MEM_READ: data, zeros or poison by the slot whose region holds the address; `keep` when the host takes the line with MetaValue
Any or Shared (R456, R457, R465, R528). -/
def execCxlMemRead (port ta : Nat) (keep : Bool) (s : State) : Out :=
  .next (if !s.memOpen port ta then s
  else
    let s1 : State := if keep then { s with tier := { s.tier with
      hostHeld := s.heldKey ta :: s.tier.hostHeld.filter (· != s.heldKey ta) } } else s
    if s.tierDead ta then (s1.assertEvent port 130).emit (.memData port ta 0 true)
    else if s.memHidden ta then s1.emit (.memData port ta 0 false)
    else
      let r := s1.tierRead ta 2
      (if r.2.1 then (r.2.2.eventRecord port).assertEvent port 130 else r.2.2).emit (.memData port ta r.1 r.2.1))

/-- CXL_MEM_WRITE: performed, or discarded while the slot loads or unloads; poison is stored with inverted check bytes (R394, R456,
R528). -/
def execCxlMemWrite (port ta : Nat) (data : Line) (poison : Bool) (s : State) : Out :=
  .next (if !s.memOpen port ta then s
  else
    let s1 : State := if s.tierDead ta then s
      else if s.memHidden ta then s.modDiag fun d => { d with memDiscarded := satAdd 64 d.memDiscarded 1 }
      else
        let t := s.tierWrite ta data poison
        if s.runSlot.isSome && s.tierSlot ta == s.runSlot then t.modDiag fun d => { d with memWrites := satAdd 32 d.memWrites 1 } else t
    s1.emit (.memDone port ta))

/-- Back-invalidations that waited go out while fewer than 64 are outstanding (R457). -/
def State.pumpBack (s : State) : State :=
  match s.tier.backQ with
  | [] => s
  | b :: t => ({ s with tier := { s.tier with backQ := t } } : State).backInvalidate b

/-- BISNPINV_RESPONSE: the write-back that it brings is performed first, unless a device-side write has overwritten the line; the access
or the rewrite that waits may go on (R111, R457). -/
def execBisnpinvResponse (port line : Nat) (writeback : Option Line) (s : State) : Out :=
  .next (if !(s.tier.backInv.contains (port, line)) then s
  else
    let old := s.tier.superseded.contains line
    let s1 := match writeback with
      | some d => if old then s else s.tierWrite (64 * line) d false
      | none => s
    let own := old || s.tier.rewrites.contains line
    (({ s1 with tier := { s1.tier with
      backInv := s1.tier.backInv.filter (· != (port, line))
      superseded := s1.tier.superseded.filter (· != line)
      answered := if own then s1.tier.answered else s1.tier.answered ++ [line] } } : State).endRewrite line).pumpBack)

/-- HDM_COMMIT (R438, R455, R565). -/
def execHdmCommit (port : Nat) (s : State) : Out :=
  .next (if 2 ≤ port ∨ !(s.cxl port).up then s else s.hdmCommit port)

/-- The event source of a CXL port (R503). -/
def State.cxlEvent (s : State) (port : Nat) : State := s.assertEvent port 128

/-- CXL_LINK_DOWN: the port resets, and its link is down (R466, R492, R503). -/
def execCxlLinkDown (port : Nat) (s : State) : Out :=
  .next (if 2 ≤ port ∨ !(s.cxl port).up then s
  else
    ((s.resetCxl port).modCxl port fun c => { c with
      link := 0, width := 0, rate := 0, flit256 := 0, downs := satAdd 32 c.downs 1 }).cxlEvent port)

/-- FUNCTION_LEVEL_RESET: the port resets, its link stays up (R467). -/
def execFunctionLevelReset (port : Nat) (s : State) : Out :=
  .next (if 2 ≤ port ∨ !(s.cxl port).up then s else s.resetCxl port)

/-- PERST_ASSERT: the port is held in conventional reset (R466, R492, R503, R577). -/
def execPerstAssert (port : Nat) (s : State) : Out :=
  .next (if 2 ≤ port then s
  else
    let was := (s.cxl port).up
    let s1 := (s.resetCxl port).modCxl port fun c => { c with
      perst := true, link := 0, width := 0, rate := 0, flit256 := 0, downs := if was then satAdd 32 c.downs 1 else c.downs }
    if was then s1.cxlEvent port else s1)

/-- PERST_DEASSERT: the port leaves conventional reset (R577). -/
def execPerstDeassert (port : Nat) (s : State) : Out :=
  .next (if 2 ≤ port then s else s.modCxl port fun c => { c with perst := false })

/-- A CXL port may train: start-up is through, and in recovery only C0 (R538, R564, R565, R577). -/
def State.mayTrainCxl (s : State) (port : Nat) : Bool :=
  s.pw.on && !s.pw.failWait && (s.pw.stage == 6 || (s.pw.recovery && port == 0)) && !s.pw.railsOff.contains (4 + port) && !(s.cxl port).perst

/-- CXL_LINK_UP: the link trains at a width and rate of R435 and negotiates its flit mode; the SVN floor takes the MC image's SVN
(R435, R492, R538). -/
def execCxlLinkUp (port width rate : Nat) (flit256 : Bool) (s : State) : Out :=
  .next (if port < 2 ∧ (s.cxl port).link = 0 ∧ s.mayTrainCxl port = true ∧ width ∈ [8, 4, 2] ∧ rate ∈ [64, 32] then
    let s1 := s.modCxl port fun c => { c with link := 1, width, rate, flit256 := flit256.toNat }
    { s1 with sec := { s1.sec with svnFloor := max s1.sec.svnFloor s1.sec.bootSvn } }
  else s)

/-- IDE_STREAM_INSECURE: a stream, 0 CXL.io or 1 CXL.cachemem, leaves the secure state (R438, R492, R503). -/
def execIdeStreamInsecure (port stream : Nat) (s : State) : Out :=
  .next (if port < 2 ∧ stream < 2 ∧ bit (s.cxl port).ide stream = true then
    (s.modCxl port fun c => { c with ide := setBit c.ide stream false }).assertEvent port 129
  else s)

/-- IDE_KM_REQUEST: in a finished session, IDE_KM programs a stream's keys and makes it secure (R436, R463, R492). -/
def execIdeKmRequest (port stream : Nat) (s : State) : Out :=
  .next (if port < 2 ∧ stream < 2 ∧ (s.cxl port).up = true ∧ (s.cxl port).sessions.any (·.finished) = true then
    s.modCxl port fun c => { c with ide := setBit c.ide stream true }
  else s)

end Sys2Proof.Machine
end

