-- ==== Sys2Proof/Machine/Stray.lean ====
section
/-! DEFINITION. The commands of the stray network (R284 to R307). Nodes: a logical core, 4,096 + I/O die, 8,192 + port receive side,
12,288 + agent. A command whose event cannot happen leaves the state as it is (log 2). -/

namespace Sys2Proof.Machine

/-- STRAY_ROUTE: one slot time of a node: a core router or an I/O die serves its packets, a port's receive side passes one on (R285, R287,
R293 to R299, R336). -/
def execStrayRoute (x : StraySlot) (s : State) : Out :=
  let node := x.node
  .next (if node < s.nCores ∨ node = 4096 ∨ node = 4097 then s.strayServe node x.bad
  else if 8192 ≤ node ∧ node < 8224 then s.strayFromPort (node - 8192)
  else s)

/-- STRAY_AGE_TICK: a packet that has waited 16 slot times in one buffer ages by one (R296). -/
def execStrayAgeTick (packet : Nat) (s : State) : Out :=
  .next (s.mapPacket packet fun z => if 16 ≤ z.waited then
    { z with waited := z.waited - 16, packet := { z.packet with age := min 255 (z.packet.age + 1) } } else z)

/-- STRAY_EJECT: one slot time of a core's eject output: the packet that departs on it goes on, or the next one for this core begins, and
with its last flit enters the ejection queue (R285, R291, R294, R295). -/
def execStrayEject (core : Nat) (s : State) : Out :=
  let out := routerOut core 4
  .next (if s.nCores ≤ core then s
  else match s.net.sending.find? (·.out == out) with
    | some x => s.sendFlit [] x
    | none => match (s.serveOrder core).find? fun e => s.isHere e.2.packet && e.2.packet.dag == 0 && e.2.packet.dest == core
        && !e.2.packet.bounced && !(s.net.sending.any fun x => x.packet == e.1) && s.strayFree out e.2.packet.ch e.2.packet.isReq with
      | some e => s.strayStart [] e.1 e.2 out false
      | none => s)

/-- The bank of an access is free this cycle for priority 4 (R85, R86). -/
def State.bankForStray (s : State) (core bank : Nat) : Bool :=
  s.bankFree core bank && !(s.mayFetch core && bankOf ((s.core core).fetchAt / 64) == bank) && !((s.core core).inbound.any fun x => bankOf x.line == bank)

/-- No HURDLE of the core keeps a request back (R231, R234). -/
def Core.mayPerform (c : Core) (q : Packet) : Bool :=
  let key := (q.srcKey, q.pseq)
  if 2048 ≤ q.src then c.mayServe 3 fun h => h.host.contains key || h.strays.contains key
  else c.mayServe 2 fun h => h.strays.contains key

/-- The next access of the request in progress, in its line's bank; the write of a read-modify-write at least three core cycles after its
read (R85, R86, R91). -/
def State.performAccess (s : State) (core : Nat) : State :=
  let wait := match (s.core core).work with
    | some { old := some (_, t), .. } => t + 3 - s.now
    | _ => 0
  let s1 := (List.range wait).foldl (fun (s : State) _ => s.tick) s
  match (s1.core core).work with
  | some w => if s1.bankForStray core (bankOf w.line) then s1.workAccess core w else s1
  | none => s1

/-- The request that a core turns to: a stored one whose turn has come, else the first of the ejection queue that no HURDLE keeps back
(R231, R301). -/
def Core.nextReq (c : Core) : Option Packet :=
  match c.storedReq with
  | some q => if c.mayPerform q then some q else none
  | none => c.ejectQ.find? fun q => q.isReq && c.mayPerform q

/-- A request taken from where it waited. -/
def Core.takeReq (c : Core) (q : Packet) : Core :=
  if c.reorder.contains q then { c with reorder := c.reorder.erase q } else { c with ejectQ := c.ejectQ.erase q }

/-- A load write takes its bank and is made; with the last of them its load may be done (R85, R89, R416). -/
def State.performLoad (s : State) (core : Nat) (l : Nat × Nat × Line) : State :=
  let s1 := s.modCore core fun c => { c.writeLine l.2.1 l.2.2 with loads := c.loads.erase l, banks := bankOf l.2.1 :: c.banks }
  (((if s.loads l.1 then s1 else s.modCore core fun c => { c with loads := c.loads.erase l }).hostServed core (loadKey l)).refresh core).finishLoad l.1

/-- STRAY_REQUEST_PERFORM: the next access of the request that a core performs; with none in progress a load write whose
bank is free is made (DESIGN CHOICE, log 43: the spec does not order load writes and strays at one core), or else the next request is taken,
once the response queue has room, and handled (R85, R89, R91, R231, R290, R291, R301, R307, R416). -/
def execStrayRequestPerform (core : Nat) (s : State) : Out :=
  let c := s.core core
  .next (match c.work with
    | some w => if s.pw.keeper then (s.modCore core fun c => { c with work := none }).handleReq core w.req else s.performAccess core
    | none => match c.loads.find? (fun l => s.bankForStray core (bankOf l.2.1)), c.nextReq with
      | some l, _ => s.performLoad core l
      | none, none => s
      | none, some q =>
        if 4 ≤ c.respQ.length ∨ (c.mustBounce q && !s.injectFree core) = true then s
        else ((s.setCore core (c.takeReq q)).handleReq core q).performAccess core)

/-- A response may land in this core cycle: the bank of the line that it writes is free, and no HURDLE keeps it back (R85, R231, R243,
R292). -/
def State.mayLand (s : State) (core : Nat) (o : OutReq) : Bool :=
  match o.sp with
  | some sp => s.pw.keeper || (s.bankForStray core (bankOf (sp / 64)) && (s.core core).mayServe 2 fun h => h.own.contains o.packet.rtag)
  | none => true

/-- STRAY_RESPONSE_LAND: the next response at a requester lands: a core below 2,048, else 2,048 + agent (R85, R231, R292, R302). -/
def execStrayResponseLand (dest : Nat) (s : State) : Out :=
  .next (if 2048 ≤ dest then (if dest < 2051 then s.agentLand (dest - 2048) else s)
  else match (s.core dest).nextRsp with
    | none => s
    | some q =>
      let s1 := s.modCore dest fun c => c.takeRsp q
      match matchOut (s.core dest).outs 0 q with
      | none => (s1.modDiag fun d => { d with staleRsp := satAdd 64 d.staleRsp 1 }).refresh dest
      | some o =>
        if inOrder (s.core dest).outs o then (if s.mayLand dest o then s1.retire dest o q else s)
        else if (s.core dest).reorder.length < 256 then (s1.modCore dest fun c => { c with reorder := c.reorder ++ [q] }).refresh dest
        else if s.injectFree dest then (s1.putInjected dest { q with bounced := true }).refresh dest
        else s)

/-- STRAY_RESPONSE_TIMEOUT: a request without its response goes out once more; after that it is retired with STATUS 4, whose line lands as
any response's does, and a SKIP goes to its destination (R292, R304). -/
def execStrayResponseTimeout (source rtag : Nat) (s : State) : Out :=
  let agent := decide (2048 ≤ source)
  let a := source - 2048
  let node := if agent then 4096 + agentDie a else source
  .next (match (if agent then s.net.agents.find? (·.1 == 65536 * a + rtag) else (s.core source).outs.find? (·.1 == rtag)) with
    | none => s
    | some e =>
      if e.2.resent then
        if !agent && !s.mayLand source e.2 then s else
        let s1 := if agent then s.agentRetire a e.2 e.2.packet.unknown else s.retire source e.2 e.2.packet.unknown
        s1.injectAt node e.2.packet.skip
      else
        let o : OutReq := { e.2 with resent := true }
        let s1 : State := if agent then { s with net := { s.net with agents := Tab.put (65536 * a + rtag) o s.net.agents } }
          else s.modCore source fun c => { c with outs := Tab.put rtag o c.outs }
        s1.injectAt node e.2.packet)

end Sys2Proof.Machine
end

