-- ==== Sys2Proof/Machine/PowerOps.lean ====
section
/-! DEFINITION. Keeper mode, what loss of power and a module reset leave, zeroization, start-up and firmware images (R75, R76, R106,
R117, R365, R472, R501, R502, R526 to R530, R533 to R539, R545 to R548, R550 to R565, R580). -/

namespace Sys2Proof.Machine

/-- MOD_OK (R580). -/
def State.showOk (s : State) : State :=
  { s with pw := { s.pw with
    modOk := s.pw.on && s.pw.stage == 6 && !s.pw.keeper && !s.pw.recovery && s.pw.startFail == 0 && !s.sec.breach } }

/-- Group M is powered, so the MC and the dictionary run (R553, R557, R564, R571). -/
def State.mcUp (s : State) : Bool := s.pw.on && s.pw.step != 1 && !s.pw.mrstWait
/-- The other groups may be powered too: no wait after a power-fail (R553). -/
def State.powered (s : State) : Bool := s.mcUp && !s.pw.failWait

/-! Keeper mode (R526 to R530). -/

/-- A core in keeper mode issues no more, and nothing in flight at it has an effect (R527). -/
def Core.halt (c : Core) : Core :=
  { c with run := if c.run == .run then .silent else c.run, stopping := false, holds := [], hostHold := none, hurdles := [], work := none, flights := [], resv := []
           busy := [], issued := [], cleared := false, shadow := none, target := [], fetchPoison := [], staging := [], staged := []
           inbound := [], writeback := [] }

/-- Rails of a die by its sub-index of R496 (R554). -/
def dieRails (die : Nat) : List Nat :=
  if 1 ≤ die ∧ die ≤ 12 then [13 + die] else if die = 13 then [4, 6, 8] else if die = 14 then [5, 7, 9] else []

/-- An I/O die without power: its fabric ports are OFF and its CXL port is down (R361, R466, R527, R554). -/
def State.iodDark (s : State) (iod : Nat) : State :=
  let s1 := (List.range 16).foldl (fun (s : State) k =>
    if (s.port (16 * iod + k)).st = .off then s
    else ((s.resetPort (16 * iod + k) 3 false true).modPort (16 * iod + k) fun p => { p with func := 0 }).checkLeft (16 * iod + k)) s
  if (s1.cxl iod).up then
    (((s1.resetCxl iod).modCxl iod fun c => { c with link := 0, width := 0, rate := 0, flit256 := 0, downs := satAdd 32 c.downs 1 }).assertEvent iod 128)
  else s1

/-- The rails of a die that is too hot or whose rail failed are switched off, in whatever state the module is (R7, R527, R556, R571). -/
def State.railsDown (s : State) (off : List Nat) : State :=
  let s1 : State := { s with pw := { s.pw with railsOff := s.pw.railsOff ++ off } }
  if off.contains 4 then s1.iodDark 0 else if off.contains 5 then s1.iodDark 1 else s1

/-- Keeper mode begins with its first cause; a later cause records nothing, but a further die's rails still go off, for power and thermal
protection stay active wherever a rail is powered (R7, R467, R526, R527, R528). -/
def State.enterKeeper (s : State) (code die detail : Nat) : State :=
  let off := if code = 1 ∨ code = 2 then (dieRails die).filter fun r => !s.pw.railsOff.contains r else []
  if !s.pw.on then s
  else if s.pw.keeper then s.railsDown off
  else
    let s1 : State := { s with
      cores := Tab.map (fun _ c => c.halt) s.cores
      pw := { s.pw with keeper := true, keeperCause := code + 256 * die + 65536 * detail } }
    let s2 := ((s1.showOk.assertEvent 0 0).assertEvent 1 0)
    ([0, 1].foldl (fun (s : State) p => if (s.cxl p).up && (s.cxl p).viral then s.emit (.viral p) else s) s2).railsDown off

/-! Loss of power and resets. -/

/-- RWS entries as the module leaves manufacture (R472, R496). -/
def nvDefault (grade : Nat) : Nv := { powerLimit := if grade = 0 then 2200 else 2000 }

/-- What the loss of every rail but group M's takes: cores, fabric, ports, tier, contexts, time and CXL links (R365, R547, R553, R563). -/
def State.groupsOff (s : State) : State :=
  { s with
    cores := [], fab := {}, net := {}, ports := [], tier := {}, strm := {}, ctxs := [], switchTo := 0xFF, switchAttempt := 0
    switchRefused := 0, must := {}, time := {}, cxls := Tab.map (fun _ c => { perst := c.perst, stampAt := s.now }) s.cxls
    pw := { s.pw with railsOff := (List.range 22).map (· + 4), compute := 0, sramScrub := 0, tierScrub := 0, duty := 0
                      dutyDie := [0, 0, 0, 0], dutyGlobal := 0, frameE := [], pllLost := [] } }

/-- What a restart of the MC takes as well: every RO, RW and W1C entry is at its default; RWS entries, fuses, firmware banks and the
sequencer's record stay (R472, R530, R557, R563). -/
def State.restart (s : State) : State :=
  { s.groupsOff with
    evcs := [], diag := {}, mgmt := { plca := s.nv.plca.getD 0 0xFF }
    pw := { on := s.pw.on, vinOut := s.pw.vinOut, disconnected := s.pw.disconnected, shutdown := s.pw.shutdown, seqRec := s.pw.seqRec
            lastShutdown := s.pw.seqRec, mrst := s.pw.mrst, resetAt := s.now }
    sec := { s.sec with mgmtCtr := 0, storeKey := [], fwAddr := 0, fwLen := 0, fwStatus := 0, bootSvn := 0, mcVersion := 0, ioVersion := 0 } }

/-- Every boot draws a new BOOTID (R490, R563). -/
def State.boot (s : State) : State :=
  let d := s.draw
  { d.2 with sec := { s.sec with bootid := d.1.toNat % 2 ^ 64 } }

/-- What a module reset applies, and a power-on does not: the pending field map, the selected firmware bank (R75, R502, R539, R562, R563). -/
def State.applyPending (s : State) : State :=
  { s with
    nv := if s.nv.spareApply = 1 then { s.nv with spareField := s.nv.sparePending, spareApply := 0 } else s.nv
    sec := { s.sec with bank := s.sec.selected.getD s.sec.bank, selected := none } }

/-- Every port in ACTIVE or RETRAIN sends LINK-RESET with reason 3 (R563). -/
def State.sayReset (s : State) : State :=
  ((List.range 32).filter fun p => (s.port p).st == .active || (s.port p).st == .retrain).foldl
    (fun (s : State) p => s.emit (.flit p (flitBytes (s.port p).nextSeq 3 0 0 (flitBody (ctlTag 6 0) (BitVec.ofNat 2048 3))))) s

/-- A module reset: start-up runs from step 2 once MRST_N is high (R472, R530, R562, R563). -/
def State.resetModule (s : State) : State :=
  let s1 := s.restart.boot.applyPending
  let s2 : State := { s1 with pw := { s1.pw with on := true, mrstWait := s.pw.mrst, step := 2 } }
  (if s.pw.vinOut then s2.levelInput 0 8 true else s2).showOk

/-- The module is off (R547, R550, R557). -/
def State.turnOff (s : State) : State :=
  let s1 := s.restart
  { s1 with pw := { s1.pw with on := false, step := 0, vinOut := false, railsOff := (List.range 25).map (· + 1) }, sec := { s1.sec with zeroizing := false } }.showOk

/-- A power-on: start-up runs from step 1 (R550, R562, R564). -/
def State.turnOn (s : State) : State :=
  let s1 := s.restart.boot
  ({ s1 with pw := { s1.pw with on := true, step := 1, railsOff := (List.range 25).map (· + 1) } } : State).showOk

/-- A protective shutdown, with the record of its cause (R557, R573). -/
def State.protect (s : State) (cause which : Nat) : State :=
  let s1 : State := { s with pw := { s.pw with seqRec := cause + 256 * which, shutdown := true, failWait := false } }
  s1.turnOff

/-- Zeroization: everything stops, keys go, the store epoch advances, and a module reset follows with every RWS entry at its
manufacturing default (R535, R546). -/
def State.zeroize (s : State) : State :=
  ({ s with nv := nvDefault s.fuse.grade
            sec := { s.sec with zeroizing := true, storeEpoch := min 128 (s.sec.storeEpoch + 1) } } : State).resetModule

/-- A breach: zeroization, unless one is running (R545, R547). -/
def State.breachSeen (s : State) : State :=
  let s1 : State := { s with sec := { s.sec with breach := true } }
  if s.sec.zeroizing then s1.showOk else s1.zeroize

/-! Firmware (R536 to R539). -/

/-- The image at the front of bank contents, and what follows it (R536, R538). -/
def fwSplit (b : Bytes) : Bytes × Bytes := (b.take (192 + field b 16 8), b.drop (192 + field b 16 8))
/-- SVN, VERSION of an image (R536). -/
def fwSvn (img : Bytes) : Nat := field img 12 2
def fwVersion (img : Bytes) : Nat := field img 8 4
/-- MAGIC, KIND, key, signature and body digest verify (R537). -/
def fwSigned (kind : Nat) (img : Bytes) : Bool :=
  field img 0 4 == 0x57464E5A && field img 4 1 == kind && beNat (sha256 (slice img 64 64)) == Config.firmwareKeyDigest.toNat
    && ecdsaVerify (pointOf (slice img 64 64)) (slice img 0 128) (slice img 128 64)
    && sha256 (img.drop 192) == slice img 24 32 && (img.drop 192).length == field img 16 8
/-- SVN is at least the floor and at most 64 (R537). -/
def fwFresh (floor : Nat) (img : Bytes) : Bool := decide (floor ≤ fwSvn img) && decide (fwSvn img ≤ 64)
/-- Verification of bank contents: 2 verified, 3 signature or digest failed, 4 SVN (R537, R539). -/
def fwCheck (floor : Nat) (b : Bytes) : Nat :=
  let i := fwSplit b
  let j := fwSplit i.2
  if !fwSigned 0 i.1 || !fwSigned 1 j.1 then 3 else if fwFresh floor i.1 && fwFresh floor j.1 then 2 else 4

/-- Contents of a bank that something has staged. -/
def Security.bankBytes (x : Security) (k : Nat) : Option Bytes := (x.banks.find? fun (b : Nat × Bytes) => b.1 == k).map (·.2)
/-- A bank verifies at boot; the images of manufacture do (R537, R538). -/
def Security.bankGood (x : Security) (k : Nat) : Bool :=
  match x.bankBytes k with | some b => fwCheck x.svnFloor b == 2 | none => true
/-- The bank that boots: the selected one, or else the other (R538). -/
def Security.bootBank (x : Security) : Option Nat := [x.bank, 1 - x.bank].find? fun k => x.bankGood k

/-! Start-up (R564, R565). -/

/-- Every channel is trained and the tier is written with zeros under new keys (R112, R117, R533). -/
def State.initTier (s : State) : State :=
  let a := s.draw
  let b := a.2.draw
  let c := b.2.draw
  let d := c.2.draw
  let k := fun (x : BitVec 256) => bvBytes 32 x
  { d.2 with tier := { usable := true, keys := [(0, k a.1, k b.1), (1, k c.1, k d.1)] } }

/-- A core as the built-in test leaves it; counts and the result of the site test are kept (R71, R106, R473). -/
def Core.tested (c : Core) : Core :=
  { agentSeq := c.agentSeq, strayHist := c.strayHist, holdCycles := c.holdCycles, closureWait := c.closureWait, runahead := c.runahead
    corrected := c.corrected, badStatus := c.badStatus, stallRec := c.stallRec, siteBad := c.siteBad }

/-- Compute is on after its tests (R106, R572). -/
def State.computeOn (s : State) : State :=
  { s with cores := Tab.map (fun _ c => c.tested) s.cores
           pw := { s.pw with compute := 2, railsOff := s.pw.railsOff.filter fun r => r < 14 } }
/-- Groups S and C are off: what the cores held is lost (R555, R572). -/
def State.computeOff (s : State) : State :=
  { s with cores := Tab.map (fun _ c => c.tested) s.cores
           pw := { s.pw with compute := 0, frameE := [], railsOff := (s.pw.railsOff.filter fun r => r < 14) ++ (List.range 12).map (· + 14) } }

/-- The step 5 of start-up: tier and, when compute is enabled, the cores (R106, R117, R564). -/
def State.initAll (s : State) : State := let s1 := s.initTier; if s.pw.compute = 1 then s1.computeOn else s1

/-- START_STAGE becomes 6: scrubbing starts, and ports with PORT_EN = 1 enter DETECT unless start-up failed (R489, R564, R565). -/
def State.ready (s : State) : State :=
  let on := s.pw.startFail = 0
  let s1 : State := { s with pw := { s.pw with
    stage := 6, step := if on then 6 else 0, sramScrub := if s.nv.sramScrub = 1 then 1 else 0
    tierScrub := if s.nv.tierScrub = 1 then 1 else 0 } }
  (if on then (List.range 32).foldl (fun (s : State) p =>
      if (Tab.get {} s.nv.ports p).en = 1 then s.modPort p fun q => { q with st := .detect, func := 2 } else s) s1
    else s1).showOk

/-- Start-up ends in a failure: the record, and what still works (R565). -/
def State.startFailed (s : State) (step code detail : Nat) (tier compute : Bool) (off : List Nat) : State :=
  let s1 : State := { s with
    time := if s.time.lock.isSome then s.time else { s.time with lock := some s.now }
    pw := { s.pw with startFail := step + 256 * code + 65536 * detail, railsOff := off } }
  let s2 := if tier then s1.initTier else s1
  (if compute && s.pw.compute == 1 then s2.computeOn else ({ s2 with pw := { s2.pw with compute := 0, railsOff := off } } : State)).ready

/-- A rail fails during start-up (R556, R565). -/
def State.railFailed (s : State) (rail : Nat) : State :=
  if rail = 0 ∨ 25 < rail then s
  else if rail < 10 then s.protect 3 rail
  else
    let lo := if rail < 14 then 10 else if rail < 18 then 14 else 18
    s.startFailed 3 1 rail (decide (14 ≤ rail)) false ((List.range (26 - lo)).map (· + lo))

/-- A PLL fails during start-up, by the die's sub-index of R496 (R561, R565). -/
def State.pllFailed (s : State) (die : Nat) : State :=
  if die = 13 ∨ die = 14 then s.protect 4 die
  else if 1 ≤ die ∧ die ≤ 4 then s.startFailed 4 2 die true false ((List.range 12).map (· + 14))
  else s

/-- The site that carries a logical core fails its test: it is reported, and start-up goes on. A second failing core of one group would
need a second spare (R74, R76, R502). -/
def State.siteFailed (s : State) (n : Nat) : State :=
  if s.nCores ≤ n then s
  else
    let d := s.dieOf n
    let g := groupOf (s.siteW n)
    let old := s.diag.spareTest.getD d 0
    let more := (List.range s.nCores).any fun k => (s.core k).siteBad && k != n && s.dieOf k == d && groupOf (s.siteW k) == g
    let rec_ := if old = 0 then 2 ^ 63 + g * 2 ^ 40 + n else old
    let rec2 := if more && !bit rec_ 62 then rec_ + 2 ^ 62 else rec_
    (s.modCore n fun c => { c with siteBad := true }).modDiag fun x => { x with
      badSites := s.siteOf n :: x.badSites.filter (· != s.siteOf n), spareTest := updAt (fun _ => rec2) x.spareTest d }

/-- Recovery: C0 and the management port only; no rail of a compute die, an SRAM die or the tier is on, the I/O dies' are (R535, R538,
R565; DEDUCED, log 46). -/
def State.toRecovery (s : State) : State :=
  ({ s with pw := { s.pw with recovery := true, step := 0, startFail := 2, compute := 0, railsOff := (List.range 16).map (· + 10) }, sec := { s.sec with zeroizing := false } } : State).showOk

/-- Step 2: the tamper mesh, then the firmware of the bank that boots, whose store key follows (R533, R535, R538, R545). -/
def State.bootMc (s : State) : State :=
  if !s.sec.meshOk && !s.sec.zeroizing then s.breachSeen
  else if 128 ≤ s.sec.storeEpoch then s.toRecovery
  else match s.sec.bootBank with
  | none => s.toRecovery
  | some k =>
    let img := (s.sec.bankBytes k).map fwSplit
    { s with
      pw := { s.pw with stage := 2, step := 3, compute := if s.nv.computeEn = 1 then 1 else 0 }
      sec := { s.sec with
        zeroizing := false, bank := k
        storeKey := hkdfExpand (hmac [] (beBytes 32 s.fuse.deviceSecret)) (ascii "ZNSTORE" ++ leBytes 1 s.sec.storeEpoch) 1
        bootSvn := match img with | some i => fwSvn i.1 | none => 0
        mcVersion := match img with | some i => fwVersion i.1 | none => 0
        ioVersion := match img with | some i => fwVersion (fwSplit i.2).1 | none => 0 } }

/-- Rails that stay off while COMPUTE_EN is 0 (R564). -/
def State.railsUp (s : State) : List Nat := if s.pw.compute = 1 then [] else (List.range 12).map (· + 14)

/-- The start-up step in progress completes, or fails (R564, R565). -/
def State.startStep (s : State) (f : Option StartFailure) : State :=
  if !s.pw.on || s.pw.failWait || s.pw.mrstWait || s.pw.stage == 6 then s
  else match s.pw.step, f with
  | 1, none => { s with pw := { s.pw with stage := 1, step := 2, railsOff := (List.range 22).map (· + 4) } }
  | 2, none => s.bootMc
  | 2, some .noBank => s.toRecovery
  | 3, none => { s with pw := { s.pw with stage := 3, step := 4, railsOff := s.railsUp } }
  | 4, none => { s with pw := { s.pw with stage := 4, step := 5 }, time := { s.time with lock := some s.now } }
  | 5, none => let s1 := s.initAll; { s1 with pw := { s1.pw with stage := 5, step := 6 } }
  | 6, none => s.ready
  | 3, some (.rail r) => s.railFailed r
  | 4, some (.pll d) => s.pllFailed d
  | 5, some (.channel n) => if s.channels.contains n then s.startFailed 5 3 n false true s.railsUp else s
  | 5, some .tierSlow => s.startFailed 5 4 0 false true s.railsUp
  | 5, some (.site n) => s.siteFailed n
  | _, _ => s

end Sys2Proof.Machine
end

