-- ==== Sys2Proof/Machine/Functions.lean ====
section
/-! DEFINITION. The functions that are enabled and disabled while power is present: fabric ports, the patrol scrubs, compute (R323,
R344, R488, R489, R572), and the commands on them. Their writes are shared with the dictionary. -/

namespace Sys2Proof.Machine

/-- The MC answers for an index: it runs, and in recovery only for identity and firmware update (R538). -/
def State.serves (s : State) (index : Nat) : Bool :=
  s.mcUp && (!s.pw.recovery || (decide (0x1000 ≤ index) && decide (index ≤ 0x11FF)) || (decide (0x8030 ≤ index) && decide (index ≤ 0x8035)))

/-- The state of a function after a write of its enable entry; none when refused with BUSY (R488). States: 0 OFF, 1 STARTING, 2 ON,
3 STOPPING, 4 PENDING. -/
def funcWrite (st v : Nat) : Option Nat :=
  if v = 1 then (if st = 0 then some 1 else if st = 3 then some 4 else if st = 4 then none else some st)
  else if st = 0 ∨ st = 3 then some st else some 3

/-- State of a function after its shutdown completes: OFF, or STARTING from PENDING (R488). -/
def funcStopped (st : Nat) : Nat := if st = 4 then 1 else 0

/-- Change the RWS entries of a port. -/
def State.modPortNv (s : State) (p : Nat) (f : PortNv → PortNv) : State :=
  { s with nv := { s.nv with ports := Tab.put p (f (Tab.get {} s.nv.ports p)) s.nv.ports } }

/-- A write of PORT_EN; none when refused with BUSY. A port that stops goes through RESET with reason 4 (R323, R344,
R361, R488, R489). -/
def State.setPortEn (s : State) (p v : Nat) : Option State :=
  match funcWrite (s.port p).func v with
  | none => none
  | some st =>
    let s1 := s.modPortNv p fun q => { q with en := v }
    if st = 3 ∧ (s.port p).func ≠ 3 ∧ (s.port p).func ≠ 4 then
      some (((s1.resetPort p 4 true true).modPort p fun q => { q with func := 3, st := .reset }).checkLeft p)
    else some (s1.modPort p fun q => { q with func := st })

/-- A write of SRAM_SCRUB_EN (R488, R489). -/
def State.setSramScrub (s : State) (v : Nat) : Option State :=
  (funcWrite s.pw.sramScrub v).map fun st => { s with nv := { s.nv with sramScrub := v }, pw := { s.pw with sramScrub := st } }
/-- A write of TIER_SCRUB_EN (R488, R489). -/
def State.setTierScrub (s : State) (v : Nat) : Option State :=
  (funcWrite s.pw.tierScrub v).map fun st => { s with nv := { s.nv with tierScrub := v }, pw := { s.pw with tierScrub := st } }

/-- A write of COMPUTE_EN is refused: keeper mode, start-up, or a context slot that is not EMPTY (R572). -/
def State.computeBusy (s : State) (v : Nat) : Bool :=
  s.pw.keeper || s.pw.stage != 6 || (v == 0 && (List.range 4).any fun k => (s.ctx k).st != .empty)
/-- A write of COMPUTE_EN (R488, R572). -/
def State.setCompute (s : State) (v : Nat) : Option State :=
  if s.computeBusy v then none
  else (funcWrite s.pw.compute v).map fun st => { s with nv := { s.nv with computeEn := v }, pw := { s.pw with compute := st } }

/-- A value that an enable entry takes (R470). -/
def enableValue (v : Byte) : Bool := v == 0 || v == 1

/-- PORT_EN: a write of a port's enable entry (R488, R491). -/
def execPortEn (port : Nat) (value : Byte) (s : State) : Out :=
  .next (if port < 32 ∧ enableValue value = true ∧ s.serves 0x2001 = true then (s.setPortEn port value.toNat).getD s else s)

/-- SRAM_SCRUB_EN (R489, R493). -/
def execSramScrubEn (value : Byte) (s : State) : Out :=
  .next (if enableValue value = true ∧ s.serves 0x3010 = true then (s.setSramScrub value.toNat).getD s else s)

/-- TIER_SCRUB_EN (R489, R493). -/
def execTierScrubEn (value : Byte) (s : State) : Out :=
  .next (if enableValue value = true ∧ s.serves 0x3012 = true then (s.setTierScrub value.toNat).getD s else s)

/-- COMPUTE_EN (R572, R573). -/
def execComputeEn (value : Byte) (s : State) : Out :=
  .next (if enableValue value = true ∧ s.serves 0x6010 = true then (s.setCompute value.toNat).getD s else s)

/-- A port's I/O die has power. -/
def State.portPower (s : State) (p : Nat) : Bool := s.powered && !s.pw.railsOff.contains (4 + p / 16)

/-- FUNCTION_START_COMPLETE: a function in STARTING is ON: a port enters DETECT, compute has passed its tests (R323, R488, R489,
R572). Ports stay OFF after a failed start-up (R565). -/
def execFunctionStartComplete (f : Func) (s : State) : Out :=
  .next (match f with
  | .port p =>
    if p < 32 ∧ (s.port p).func = 1 ∧ s.portPower p = true ∧ s.pw.startFail = 0 then s.modPort p fun q => { q with func := 2, st := .detect }
    else s
  | .sramScrub => if s.pw.sramScrub = 1 then { s with pw := { s.pw with sramScrub := 2 } } else s
  | .tierScrub => if s.pw.tierScrub = 1 then { s with pw := { s.pw with tierScrub := 2 } } else s
  | .compute => if s.pw.compute = 1 ∧ s.pw.stage = 6 then s.computeOn else s)

/-- FUNCTION_SHUTDOWN_COMPLETE: a function in STOPPING is OFF, one in PENDING starts (R323, R488, R572). -/
def execFunctionShutdownComplete (f : Func) (s : State) : Out :=
  let stops := fun (st : Nat) => decide (st = 3) || decide (st = 4)
  .next (match f with
  | .port p =>
    if p < 32 ∧ stops (s.port p).func = true then s.modPort p fun q => { q with func := funcStopped q.func, st := .off } else s
  | .sramScrub => if stops s.pw.sramScrub then { s with pw := { s.pw with sramScrub := funcStopped s.pw.sramScrub } } else s
  | .tierScrub => if stops s.pw.tierScrub then { s with pw := { s.pw with tierScrub := funcStopped s.pw.tierScrub } } else s
  | .compute =>
    if stops s.pw.compute then
      let s1 := s.computeOff
      { s1 with pw := { s1.pw with compute := funcStopped s.pw.compute } }
    else s)

end Sys2Proof.Machine
end

