-- ==== Sys2Proof/Machine/Keeper.lean ====
section
/-! DEFINITION. The commands of keeper mode, resets by the dictionary, zeroization and firmware update (R517, R526, R534, R537 to R539,
R545 to R547, R563). Their writes are shared with the dictionary. -/

namespace Sys2Proof.Machine

/-- MODULE_RESET: 0xA5 performs a module reset; every port says so first. Other values: RANGE, no change (R563, R573). -/
def execModuleReset (value : Byte) (s : State) : Out :=
  .next (if value = 0xA5 ∧ s.serves 0x6012 = true ∧ s.pw.failWait = false then s.sayReset.resetModule else s)

/-- KEEPER_ENTER: 0xA5 enters keeper mode with cause 8. Other values: RANGE, no change (R517, R526). -/
def execKeeperEnter (value : Byte) (s : State) : Out :=
  .next (if value = 0xA5 ∧ s.serves 0x5004 = true then s.enterKeeper 8 0 0 else s)

/-- A zeroization by the owner clears TAMPER [1] when the mesh is intact (R547). -/
def State.ownerZeroize (s : State) : State :=
  ({ s with sec := { s.sec with breach := s.sec.breach && !s.sec.meshOk } } : State).zeroize

/-- ZEROIZE: 0x5A zeroizes and resets the module. Other values: RANGE, no change (R498, R546, R547). -/
def execZeroize (value : Byte) (s : State) : Out :=
  .next (if value = 0x5A ∧ s.serves 0x8017 = true then s.ownerZeroize else s)

/-- A start of staging: the image is read through C0 (R539). -/
def State.startStage (s : State) : State :=
  let s1 : State := { s with sec := { s.sec with fwStatus := 1 } }
  if (s.cxl 0).up then s1.emit (.hostRead 0 s.sec.fwAddr s.sec.fwLen) else s1

/-- STAGE: BUSY while staging is in progress (R539). -/
def execStage (s : State) : Out := .next (if s.sec.fwStatus ≠ 1 ∧ s.serves 0x8032 = true then s.startStage else s)

/-- SELECT: the staged bank boots at the next module reset; RANGE unless one is staged (R539). -/
def execSelect (s : State) : Out :=
  .next (if s.sec.fwStatus = 2 ∧ s.serves 0x8032 = true then { s with sec := { s.sec with selected := some (1 - s.sec.bank) } } else s)

/-- FW_STAGE_COMPLETE: the image has been read into the bank not in use and verified, or its read failed (R537, R539). -/
def execFwStageComplete (image : Option Bytes) (s : State) : Out :=
  .next (if s.sec.fwStatus ≠ 1 then s
  else match image with
    | none => { s with sec := { s.sec with fwStatus := 5 } }
    | some b =>
      let img := b.take s.sec.fwLen
      let k := 1 - s.sec.bank
      { s with sec := { s.sec with
        banks := (k, img) :: s.sec.banks.filter fun (x : Nat × Bytes) => x.1 != k, fwStatus := fwCheck s.sec.svnFloor img } })

/-- MC_WATCHDOG_EXPIRE: keeper mode with cause 7 (R526). -/
def execMcWatchdogExpire (s : State) : Out := .next (if s.mcUp then s.enterKeeper 7 0 0 else s)

/-- ENTROPY_HEALTH_FAIL: keeper mode with cause 9, which names the I/O die (R496, R526, R534). -/
def execEntropyHealthFail (iod : Nat) (s : State) : Out := .next (if iod < 2 ∧ s.powered = true then s.enterKeeper 9 (13 + iod) 0 else s)

/-- TAMPER_BREACH: the mesh is open; while group M is in regulation that zeroizes the module, and otherwise the check at the next
power-up finds it (R545 to R547). -/
def execTamperBreach (s : State) : Out :=
  let s1 : State := { s with sec := { s.sec with meshOk := false } }
  .next (if s.pw.on ∧ s.pw.step ≠ 1 then s1.breachSeen else s1)

end Sys2Proof.Machine
end

