-- ==== Sys2Proof/Machine/DictTable.lean ====
section
/-! DEFINITION. The entries of the Jendy dictionary: index, sub-indices, access and size of each (R387, R428, R468 to R502, R517, R539,
R573, R584). -/

namespace Sys2Proof.Machine

/-- Access codes (R12, R470). -/
inductive DAcc where
  | ro | rw | rws | wo | w1c
  deriving DecidableEq, Repr

/-- An entry: its access, its bytes, and whether only a mailbox writes it (R468, R498). -/
structure DEnt where
  acc : DAcc
  size : Nat
  mailbox : Bool := false
  deriving DecidableEq, Repr

/-- A row of the tables: index, first and last sub-index, entry. -/
abbrev DRow := Nat × Nat × Nat × DEnt

/-- Identity, CXL ports, management port (R477, R490, R492). -/
def dictIdentity : List DRow := [
  (0x1000, 0, 0, ⟨.ro, 8, false⟩), (0x1001, 0, 0, ⟨.ro, 1, false⟩), (0x1002, 0, 0, ⟨.ro, 16, false⟩), (0x1003, 0, 0, ⟨.ro, 16, false⟩),
  (0x1004, 0, 0, ⟨.ro, 16, false⟩), (0x1005, 0, 0, ⟨.ro, 2, false⟩), (0x1006, 1, 3, ⟨.ro, 4, false⟩), (0x1007, 0, 0, ⟨.ro, 8, false⟩),
  (0x1008, 0, 0, ⟨.ro, 6, false⟩), (0x1009, 0, 0, ⟨.ro, 2, false⟩), (0x100A, 0, 0, ⟨.ro, 2, false⟩), (0x1100, 0, 0, ⟨.ro, 1, false⟩),
  (0x1100, 1, 13, ⟨.ro, 8, false⟩),
  (0x2400, 0, 0, ⟨.ro, 1, false⟩), (0x2401, 1, 2, ⟨.ro, 1, false⟩), (0x2402, 0, 0, ⟨.ro, 1, false⟩), (0x2403, 0, 0, ⟨.ro, 1, false⟩),
  (0x2404, 0, 0, ⟨.ro, 4, false⟩),
  (0x2420, 0, 0, ⟨.ro, 1, false⟩), (0x2421, 1, 2, ⟨.ro, 1, false⟩), (0x2422, 0, 0, ⟨.ro, 1, false⟩), (0x2423, 0, 0, ⟨.ro, 1, false⟩),
  (0x2424, 0, 0, ⟨.ro, 4, false⟩),
  (0x2440, 0, 0, ⟨.rws, 1, false⟩), (0x2441, 0, 0, ⟨.rws, 1, false⟩), (0x2442, 0, 0, ⟨.rws, 1, false⟩), (0x2443, 1, 4, ⟨.ro, 8, false⟩)]

/-- Memory and time (R387, R493). -/
def dictMemory : List DRow := [
  (0x3000, 0, 0, ⟨.ro, 8, false⟩), (0x3001, 0, 0, ⟨.ro, 8, false⟩), (0x3002, 0, 0, ⟨.ro, 8, false⟩), (0x3003, 0, 0, ⟨.ro, 2, false⟩),
  (0x3004, 0, 63, ⟨.ro, 8, false⟩), (0x3005, 0, 0, ⟨.ro, 8, false⟩), (0x3006, 0, 63, ⟨.ro, 1, false⟩), (0x3007, 0, 63, ⟨.ro, 1, false⟩),
  (0x3010, 0, 0, ⟨.rws, 1, false⟩), (0x3011, 0, 0, ⟨.ro, 1, false⟩), (0x3012, 0, 0, ⟨.rws, 1, false⟩), (0x3013, 0, 0, ⟨.ro, 1, false⟩),
  (0x3014, 0, 0, ⟨.ro, 4, false⟩),
  (0x4000, 0, 0, ⟨.ro, 8, false⟩), (0x4001, 1, 1, ⟨.ro, 8, false⟩), (0x4001, 2, 2, ⟨.ro, 4, false⟩), (0x4001, 3, 3, ⟨.ro, 8, false⟩),
  (0x4002, 0, 0, ⟨.ro, 1, false⟩), (0x4003, 0, 0, ⟨.ro, 4, false⟩), (0x4004, 0, 0, ⟨.ro, 4, false⟩), (0x4005, 0, 0, ⟨.rws, 8, false⟩),
  (0x4006, 0, 0, ⟨.rws, 4, false⟩), (0x4007, 0, 0, ⟨.rws, 4, false⟩), (0x4008, 0, 0, ⟨.rws, 4, false⟩), (0x4009, 0, 0, ⟨.wo, 1, false⟩),
  (0x400A, 0, 0, ⟨.wo, 8, false⟩), (0x400B, 1, 2, ⟨.ro, 1, false⟩), (0x400C, 1, 1, ⟨.ro, 8, false⟩), (0x400C, 2, 2, ⟨.ro, 4, false⟩),
  (0x400D, 1, 1, ⟨.ro, 4, false⟩), (0x400D, 2, 2, ⟨.ro, 8, false⟩), (0x400E, 0, 0, ⟨.ro, 8, false⟩), (0x4010, 0, 3, ⟨.ro, 8, false⟩),
  (0x4011, 0, 0, ⟨.ro, 8, false⟩), (0x4012, 1, 16, ⟨.ro, 32, false⟩), (0x4013, 1, 16, ⟨.ro, 16, false⟩), (0x4014, 0, 0, ⟨.rw, 1, false⟩)]

/-- Events, power and thermal (R495, R496, R517, R573). -/
def dictPower : List DRow := [
  (0x5000, 0, 1, ⟨.ro, 2, false⟩), (0x5001, 0, 0, ⟨.ro, 1, false⟩), (0x5002, 0, 0, ⟨.ro, 4, false⟩), (0x5003, 0, 0, ⟨.ro, 8, false⟩),
  (0x5004, 0, 0, ⟨.wo, 1, true⟩), (0x5010, 1, 16, ⟨.ro, 24, false⟩), (0x5011, 1, 16, ⟨.ro, 24, false⟩), (0x5012, 1, 8, ⟨.ro, 24, false⟩),
  (0x5013, 0, 0, ⟨.ro, 8, false⟩),
  (0x6000, 0, 0, ⟨.ro, 4, false⟩), (0x6001, 0, 0, ⟨.ro, 4, false⟩), (0x6002, 0, 0, ⟨.ro, 4, false⟩), (0x6003, 0, 0, ⟨.rws, 2, false⟩),
  (0x6004, 1, 14, ⟨.ro, 2, false⟩), (0x6005, 1, 14, ⟨.ro, 2, false⟩), (0x6006, 1, 16, ⟨.ro, 2, false⟩), (0x6007, 1, 2, ⟨.ro, 2, false⟩),
  (0x6008, 0, 0, ⟨.rws, 2, false⟩), (0x6009, 0, 0, ⟨.ro, 2, false⟩), (0x600A, 0, 0, ⟨.ro, 1, false⟩), (0x600B, 0, 0, ⟨.ro, 8, false⟩),
  (0x6010, 0, 0, ⟨.rws, 1, false⟩), (0x6011, 0, 0, ⟨.ro, 1, false⟩), (0x6012, 0, 0, ⟨.wo, 1, true⟩), (0x6013, 0, 0, ⟨.ro, 1, false⟩),
  (0x6014, 0, 0, ⟨.ro, 4, false⟩), (0x6015, 1, 25, ⟨.ro, 2, false⟩), (0x6016, 0, 0, ⟨.ro, 4, false⟩), (0x6017, 0, 5, ⟨.ro, 1, false⟩)]

/-- Contexts, muster and security (R428, R497, R498, R539). -/
def dictContexts : List DRow := [
  (0x7000, 0, 3, ⟨.ro, 1, false⟩), (0x7001, 0, 3, ⟨.rw, 8, false⟩), (0x7002, 0, 3, ⟨.wo, 1, false⟩), (0x7003, 0, 3, ⟨.ro, 2, false⟩),
  (0x7004, 0, 3, ⟨.ro, 8, false⟩), (0x7005, 0, 3, ⟨.ro, 4, false⟩), (0x7006, 0, 3, ⟨.ro, 8, false⟩), (0x7007, 0, 3, ⟨.ro, 24, false⟩),
  (0x7008, 0, 3, ⟨.ro, 32, false⟩), (0x7009, 0, 3, ⟨.rw, 4, false⟩), (0x7010, 0, 0, ⟨.rw, 1, false⟩), (0x7011, 0, 0, ⟨.rw, 4, false⟩),
  (0x7012, 0, 0, ⟨.ro, 4, false⟩), (0x7013, 0, 0, ⟨.rws, 4, false⟩), (0x7020, 0, 3, ⟨.wo, 16, false⟩), (0x7021, 0, 3, ⟨.ro, 1, false⟩),
  (0x7022, 0, 3, ⟨.ro, 1, false⟩), (0x7030, 0, 3, ⟨.ro, 1, false⟩), (0x7031, 0, 3, ⟨.ro, 8, false⟩), (0x7032, 0, 3, ⟨.ro, 1, false⟩),
  (0x7033, 0, 0, ⟨.rws, 4, false⟩),
  (0x8000, 0, 7, ⟨.rws, 64, true⟩), (0x8001, 0, 7, ⟨.ro, 1, false⟩), (0x8010, 0, 0, ⟨.rws, 1, true⟩), (0x8011, 0, 0, ⟨.wo, 32, true⟩),
  (0x8012, 0, 0, ⟨.ro, 1, false⟩), (0x8013, 0, 0, ⟨.ro, 8, false⟩), (0x8014, 0, 0, ⟨.ro, 64, false⟩), (0x8015, 0, 0, ⟨.ro, 64, false⟩),
  (0x8016, 0, 0, ⟨.ro, 1, false⟩), (0x8017, 0, 0, ⟨.wo, 1, true⟩), (0x8020, 1, 6, ⟨.ro, 32, false⟩), (0x8020, 16, 19, ⟨.ro, 32, false⟩),
  (0x8030, 0, 0, ⟨.rw, 8, true⟩), (0x8031, 0, 0, ⟨.rw, 4, true⟩), (0x8032, 0, 0, ⟨.wo, 1, true⟩), (0x8033, 0, 0, ⟨.ro, 1, false⟩),
  (0x8034, 0, 0, ⟨.ro, 2, false⟩), (0x8035, 0, 0, ⟨.ro, 1, false⟩)]

/-- Diagnostics and the spare map (R499, R502, R584). -/
def dictDiag : List DRow := [
  (0xA000, 0, 0, ⟨.rws, 4, false⟩), (0xA001, 0, 0, ⟨.rws, 4, false⟩), (0xA002, 0, 0, ⟨.rws, 4, false⟩), (0xA003, 0, 0, ⟨.rws, 4, false⟩),
  (0xA010, 1, 9, ⟨.ro, 8, false⟩), (0xA011, 0, 0, ⟨.ro, 8, false⟩), (0xA020, 0, 0, ⟨.ro, 8, false⟩), (0xA021, 0, 0, ⟨.ro, 8, false⟩),
  (0xA022, 0, 0, ⟨.ro, 8, false⟩), (0xA023, 0, 0, ⟨.ro, 8, false⟩), (0xA024, 0, 0, ⟨.ro, 8, false⟩), (0xA025, 1, 3, ⟨.ro, 8, false⟩),
  (0xA026, 0, 0, ⟨.ro, 8, false⟩), (0xA027, 1, 2, ⟨.ro, 8, false⟩), (0xA028, 0, 0, ⟨.ro, 8, false⟩), (0xA030, 1, 16, ⟨.ro, 24, false⟩),
  (0xA031, 0, 0, ⟨.ro, 16, false⟩), (0xA040, 1, 1, ⟨.ro, 1, false⟩), (0xA040, 2, 3, ⟨.ro, 8, false⟩), (0xA060, 1, 16, ⟨.ro, 16, false⟩),
  (0xA100, 1, 4, ⟨.ro, 8, false⟩), (0xA101, 1, 4, ⟨.ro, 8, false⟩), (0xA102, 1, 4, ⟨.rws, 8, false⟩), (0xA103, 0, 0, ⟨.rws, 1, false⟩),
  (0xA104, 1, 4, ⟨.ro, 8, false⟩), (0xA105, 1, 4, ⟨.ro, 8, false⟩)]

/-- Entries of a fabric port, by offset (R491). -/
def dictPort : List DRow := [
  (0x00, 0, 0, ⟨.ro, 1, false⟩), (0x01, 0, 0, ⟨.rws, 1, false⟩), (0x02, 0, 0, ⟨.ro, 1, false⟩), (0x03, 0, 0, ⟨.wo, 1, false⟩),
  (0x04, 1, 2, ⟨.ro, 1, false⟩), (0x05, 1, 1, ⟨.rws, 2, false⟩), (0x05, 2, 2, ⟨.rws, 1, false⟩), (0x06, 1, 5, ⟨.rws, 4, false⟩),
  (0x07, 1, 1, ⟨.ro, 4, false⟩), (0x07, 2, 2, ⟨.ro, 1, false⟩), (0x08, 1, 1, ⟨.ro, 1, false⟩), (0x08, 2, 2, ⟨.ro, 8, false⟩),
  (0x09, 1, 1, ⟨.ro, 1, false⟩), (0x09, 2, 2, ⟨.ro, 8, false⟩), (0x09, 3, 3, ⟨.ro, 1, false⟩), (0x09, 4, 4, ⟨.ro, 2, false⟩),
  (0x09, 5, 5, ⟨.ro, 4, false⟩), (0x0A, 1, 10, ⟨.ro, 8, false⟩), (0x0B, 0, 3, ⟨.ro, 8, false⟩), (0x0C, 1, 1, ⟨.ro, 1, false⟩),
  (0x0C, 2, 2, ⟨.ro, 8, false⟩), (0x0D, 0, 0, ⟨.ro, 8, false⟩)]

/-- Entries of an event source, of a port's and of a core's diagnostics (R495, R500). -/
def dictSource : List DRow := [
  (0, 1, 1, ⟨.rw, 1, false⟩), (0, 2, 2, ⟨.w1c, 1, false⟩), (0, 3, 5, ⟨.rws, 4, false⟩), (0, 6, 6, ⟨.w1c, 1, false⟩)]
def dictPortDiag : List DRow := [(0, 1, 1, ⟨.ro, 8, false⟩), (0, 2, 2, ⟨.ro, 4, false⟩), (0, 3, 11, ⟨.ro, 8, false⟩)]
def dictCoreDiag : List DRow := [
  (0, 1, 13, ⟨.ro, 8, false⟩), (0, 14, 14, ⟨.ro, 4, false⟩), (0, 15, 15, ⟨.ro, 8, false⟩), (0, 17, 32, ⟨.ro, 8, false⟩)]

/-- The table that covers an index, and the index within it (R468). -/
def dictRows (s : State) (i : Nat) : List DRow × Nat :=
  if i < 0x2000 then (dictIdentity, i)
  else if i < 0x2400 then (dictPort, i % 0x20)
  else if i < 0x3000 then (dictIdentity, i)
  else if i < 0x5000 then (dictMemory, i)
  else if i < 0x5100 then (dictPower, i)
  else if i < 0x5900 then (dictSource, 0)
  else if i < 0x7000 then (dictPower, i)
  else if i < 0xA000 then (dictContexts, i)
  else if i < 0xA200 then (dictDiag, i)
  else if i < 0xA220 then (dictPortDiag, 0)
  else if 0xA400 ≤ i ∧ i < 0xA400 + s.nCores then (dictCoreDiag, 0)
  else ([], i)

/-- A sub-index names a channel or package that the grade lacks (R468). -/
def State.absentSub (s : State) (i sub : Nat) : Bool :=
  ((i == 0x3004 || i == 0x3006 || i == 0x3007) && !s.channels.contains sub) || (i == 0x6006 && s.fuse.grade != 0 && decide (8 < sub))

/-- An entry by index and sub-index, or the status that a request for it meets: NO_ENTRY or NO_SUB (R468, R475). -/
def State.dictFind (s : State) (i sub : Nat) : DEnt ⊕ Nat :=
  let t := dictRows s i
  let rows := t.1.filter fun r => r.1 == t.2
  if rows.isEmpty then .inr 1
  else match rows.find? fun r => decide (r.2.1 ≤ sub) && decide (sub ≤ r.2.2.1) with
  | some r => if s.absentSub i sub then .inr 2 else .inl r.2.2.2
  | none => .inr 2

end Sys2Proof.Machine
end

