-- ==== Sys2Proof/Machine/DictRead.lean ====
section
/-! DEFINITION. What a read of a dictionary entry returns (R469 to R471, R477, R478, R490 to R502, R517, R540, R573, R584). -/

namespace Sys2Proof.Machine

/-- Text padded with zeros (R469). -/
def padText (n : Nat) (s : String) : Bytes := ((ascii s) ++ List.replicate n 0).take n

/-- BASE of each capability, in ascending order of CAPID (R478). -/
def capBases : List Nat := [0x1000, 0x2000, 0x2400, 0x2440, 0x3000, 0x4000, 0x5000, 0x6000, 0x7000, 0x8000, 0xA000, 0xA100, 0x0000]

/-- SHA-256 of the firmware image as booted: 0 MC, 1 I/O die (R540). -/
def State.fwDigest (s : State) (k : Nat) : Bytes :=
  match s.sec.bankBytes s.sec.bank with
  | some b => let i := fwSplit b; sha256 (if k = 0 then i.1 else (fwSplit i.2).1)
  | none => beBytes 32 (Config.factoryDigest k).toNat

/-- A manifest key, zeros for an empty slot (R498). -/
def State.manifestKey (s : State) (k : Nat) : Bytes := Tab.get (List.replicate 64 0) s.nv.manifestKeys k

/-- A measurement (R463, R540). -/
def State.measurement (s : State) (k : Nat) : Bytes :=
  match k with
  | 1 => beBytes 32 Config.romDigest.toNat
  | 2 => s.fwDigest 0
  | 3 => s.fwDigest 1
  | 4 => sha256 (leBytes 1 s.fuse.grade ++ (List.range 4).flatMap fun d => leBytes 8 (s.fuse.spareMfg.getD d 0))
  | 5 => sha256 ((List.range 8).flatMap s.manifestKey)
  | 6 => sha256 (leBytes 1 s.nv.ideRequired ++ leBytes 1 s.nv.mgmtKey.isSome.toNat ++ leBytes 2 s.sec.svnFloor ++ leBytes 1 s.sec.storeEpoch)
  | n => (s.ctx (n - 16)).digest

/-- A record of a list that holds the newest first, sub-index 1 the newest; zeros where there is none (R517). -/
def recordAt (n : Nat) (l : List Bytes) (sub : Nat) : Bytes := l.getD (sub - 1) (List.replicate n 0)

/-- Identity (R477, R490). -/
def State.readIdentity (s : State) (i sub : Nat) : Nat :=
  match i with
  | 0x1000 => s.fuse.modid
  | 0x1001 => s.fuse.grade
  | 0x1002 => leNat s.fuse.part
  | 0x1003 => leNat s.fuse.serial
  | 0x1004 => leNat (padText 16 "Mehrivo")
  | 0x1005 => s.fuse.board
  | 0x1006 => if sub = 1 then s.fuse.romVersion else if sub = 2 then s.sec.mcVersion else s.sec.ioVersion
  | 0x1007 => s.sec.bootid
  | 0x1008 => leNat (2 :: beBytes 5 (s.fuse.modid % 2 ^ 40))
  | 0x1009 => s.nCores
  | 0x100A => 1
  | _ => if sub = 0 then 13 else sub * 2 ^ 32 + 2 ^ 24 + capBases.getD (sub - 1) 0

/-- A fabric port (R491). -/
def State.readPort (s : State) (p o sub : Nat) : Nat :=
  let q := s.port p
  let nv : PortNv := Tab.get {} s.nv.ports p
  match o with
  | 0x00 => match q.st with | .off => 0 | .detect => 1 | .equalize => 2 | .lock => 3 | .seal => 4 | .active => 5 | .retrain => 6 | .reset => 7
  | 0x01 => nv.en
  | 0x02 => q.func
  | 0x04 => if sub = 1 then q.txLanes.toNat else q.rxLanes.toNat
  | 0x05 => if sub = 1 then nv.drop else nv.autoAdd
  | 0x06 => nv.timers.getD (sub - 1) 0
  | 0x07 => if sub = 1 then q.sealRun else q.persistent
  | 0x08 => if sub = 1 then q.refuse else q.refusePeer
  | 0x09 => if sub = 1 then q.cls else if sub = 2 then q.peerRec.1 else if sub = 3 then q.peerRec.2.1
      else if sub = 4 then q.peerRec.2.2 else q.latency
  | 0x0A => Tab.get 0 q.counts sub
  | 0x0B => Tab.get 0 q.laneCorrected sub
  | 0x0C => if sub = 1 then q.resetReason else q.resetTally
  | 0x0D => q.holdDiscarded
  | _ => 0

/-- A CXL port and the management port (R492). -/
def State.readHost (s : State) (i sub : Nat) : Nat :=
  let c := s.cxl ((i - 0x2400) / 0x20)
  match i % 0x40, i with
  | 0x00, 0x2440 => s.nv.plca.getD 0 0
  | _, 0x2441 => s.nv.plca.getD 1 0
  | _, 0x2442 => s.nv.plca.getD 2 0
  | _, 0x2443 => if sub = 1 then s.mgmt.performed else if sub = 2 then s.mgmt.refused else if sub = 3 then s.mgmt.dropped else s.mgmt.malformed
  | _, _ => match i % 0x20 with
    | 0 => c.link
    | 1 => if sub = 1 then c.width else c.rate
    | 2 => c.flit256
    | 3 => c.ide
    | _ => c.downs

/-- Memory (R493). -/
def State.readMemory (s : State) (i sub : Nat) : Nat :=
  match i with
  | 0x3000 => s.diag.sramCorrected
  | 0x3001 => s.diag.sramPoison
  | 0x3002 => s.channels.foldl (fun v c => v + 2 ^ c) 0
  | 0x3003 => s.tierGiB
  | 0x3004 => Tab.get 0 s.tier.corrected sub
  | 0x3005 => s.tier.uncorrectable
  | 0x3010 => s.nv.sramScrub
  | 0x3011 => s.pw.sramScrub
  | 0x3012 => s.nv.tierScrub
  | 0x3013 => s.pw.tierScrub
  | _ => s.tier.passes

/-- TALLY of a slot (R387). -/
def State.slotTally (s : State) (k : Nat) : Nat := if (s.ctx k).st = .running then s.moduleTally else (s.ctx k).tally

/-- Time and tally (R384, R387); the entries of 0x4001 latch together. -/
def State.readTime (s : State) (i sub : Nat) : Nat :=
  let t := s.time
  match i with
  | 0x4000 => s.counter
  | 0x4001 => if sub = 1 then t.nt s.stamp / 2 ^ 32 else if sub = 2 then t.latchFrac else t.latchStamp
  | 0x4002 => match t.st with | .unset => 0 | .ref => 1 | .net => 2 | .coast => 3
  | 0x4003 => unsigned 32 t.rate
  | 0x4004 => unsigned 32 t.freq
  | 0x4005 => s.nv.bell
  | 0x4006 => s.nv.tepoch
  | 0x4007 => s.nv.jump
  | 0x4008 => s.nv.interval
  | 0x400B => if sub = 1 then s.parentPort else s.hopsNow
  | 0x400C => if sub = 1 then unsigned 64 t.lastTheta else t.lastPath
  | 0x400D => if sub = 1 then t.refusals else unsigned 64 t.refusedTheta
  | 0x400E => unsigned 64 t.syncMon
  | 0x4010 => s.slotTally sub
  | 0x4011 => s.moduleTally
  | 0x4012 => match t.foldTime[sub - 1]? with | some f => f.1 % 65536 + (f.2.1 % 2 ^ 48) * 65536 + f.2.2 * 2 ^ 64 | none => 0
  | 0x4013 => match t.tallyMark[sub - 1]? with | some m => m.1 % 2 ^ 64 + m.2 * 2 ^ 64 | none => 0
  | 0x4014 => t.gate
  | _ => 0

/-- Events (R495, R517). -/
def State.readEvents (s : State) (i sub : Nat) : Nat :=
  match i with
  | 0x5000 => 1024
  | 0x5001 => s.pw.keeper.toNat
  | 0x5002 => s.pw.keeperCause
  | 0x5003 => s.diag.events
  | 0x5010 => leNat (recordAt 24 s.diag.faults sub)
  | 0x5011 => leNat (recordAt 24 s.diag.poisons sub)
  | 0x5012 => leNat (recordAt 24 s.diag.foldFails sub)
  | 0x5013 => s.diag.faultCount
  | _ => 0

/-- An event source (R495, R508). -/
def State.readSource (s : State) (die src sub : Nat) : Nat :=
  let e := s.evc die
  let g : GuardNv := Tab.get {} s.nv.guards (1024 * die + src)
  match sub with
  | 1 => (bankBit e.mask src).toNat
  | 2 => (bankBit e.pend src).toNat
  | 3 => g.count
  | 4 => g.window
  | 5 => g.stuck
  | _ => (bankBit e.storm src).toNat + 2 * (bankBit e.stuck src).toNat

/-- Power and thermal (R496, R573). -/
def State.readPower (s : State) (i sub : Nat) : Nat :=
  let w := s.pw
  match i with
  | 0x6003 => s.nv.powerLimit
  | 0x6004 => unsigned 16 (Tab.get 0 w.dieTemp sub)
  | 0x6006 => unsigned 16 (Tab.get 0 w.pkgTemp sub)
  | 0x6008 => unsigned 16 s.nv.throttleTemp
  | 0x6009 => 1100
  | 0x600A => (decide (0 < w.duty)).toNat + 2 * (decide (0 < w.dutyGlobal) || w.dutyDie.any fun d => decide (0 < d)).toNat
  | 0x6010 => s.nv.computeEn
  | 0x6011 => w.compute
  | 0x6013 => w.stage
  | 0x6014 => w.startFail
  | 0x6016 => w.lastShutdown
  | 0x6017 => if sub = 0 then w.duty else if sub = 5 then w.dutyGlobal else w.dutyDie.getD (sub - 1) 0
  | _ => 0

/-- Code of a context state (R421). -/
def ctxCode : CtxSt → Nat
  | .empty => 0 | .loading => 1 | .loaded => 2 | .mustering => 3 | .running => 4 | .suspended => 5 | .stopped => 6 | .ended => 7
  | .failed => 8 | .unloading => 9 | .pending => 10

/-- Contexts and muster (R428, R497). -/
def State.readCtx (s : State) (i sub : Nat) : Nat :=
  let x := s.ctx sub
  match i with
  | 0x7000 => ctxCode x.st
  | 0x7001 => x.cpbAddr
  | 0x7003 => x.status
  | 0x7004 => x.detail
  | 0x7005 => (x.shards.filter fun (h : Nat × Shard) => h.2.status == 1).length
  | 0x7006 => x.shardFail
  | 0x7007 => x.quant.1 + x.quant.2.1 * 2 ^ 64 + x.quant.2.2 * 2 ^ 128
  | 0x7008 => leNat x.digest
  | 0x7009 => x.attempt
  | 0x7010 => s.switchTo
  | 0x7011 => s.switchAttempt
  | 0x7012 => s.switchRefused
  | 0x7013 => s.nv.intakeTimeout
  | 0x7021 => x.kvQueue.length
  | 0x7022 => x.kvStatus
  | 0x7030 => x.musterReason
  | 0x7031 => x.musterFmodid
  | 0x7032 => x.musterRx
  | 0x7033 => s.nv.musterTimeout
  | _ => 0

/-- Security (R498, R539, R540). No path reads MGMT_KEY back. -/
def State.readSecurity (s : State) (i sub : Nat) : Nat :=
  match i with
  | 0x8000 => leNat (s.manifestKey sub)
  | 0x8001 => ((s.manifestKey sub).any (· != 0)).toNat
  | 0x8010 => s.nv.ideRequired
  | 0x8012 => s.nv.mgmtKey.isSome.toNat
  | 0x8013 => s.sec.mgmtCtr
  | 0x8014 => leNat (pointBytes s.fuse.idPub)
  | 0x8015 => leNat s.fuse.endorse
  | 0x8016 => (s.sec.meshOk && s.now != s.pw.resetAt).toNat + 2 * s.sec.breach.toNat
  | 0x8020 => leNat (s.measurement sub)
  | 0x8030 => s.sec.fwAddr
  | 0x8031 => s.sec.fwLen
  | 0x8033 => s.sec.fwStatus
  | 0x8034 => s.sec.svnFloor
  | 0x8035 => s.sec.storeEpoch
  | _ => 0

/-- Diagnostics and the spare map (R499, R502, R584). -/
def State.readDiag (s : State) (i sub : Nat) : Nat :=
  let d := s.diag
  match i with
  | 0xA000 => s.nv.bankOvr
  | 0xA001 => s.nv.stallLimit
  | 0xA002 => s.nv.foldTimeout
  | 0xA003 => s.nv.strayTimeout
  | 0xA010 => Tab.get 0 d.holdCycles sub
  | 0xA011 => d.closureWait
  | 0xA020 => d.droveOrder
  | 0xA021 => d.framing
  | 0xA022 => d.staleRsp
  | 0xA023 => d.staleReq
  | 0xA024 => d.bounces
  | 0xA025 => if sub = 1 then s.strm.requests else if sub = 2 then s.strm.withdrawals else s.strm.drops
  | 0xA026 => d.satSuppressed
  | 0xA027 => if sub = 1 then d.holdDiscard else d.unexplained
  | 0xA028 => d.memDiscarded
  | 0xA030 => leNat (recordAt 24 d.strayStatus sub)
  | 0xA031 => s.tier.lastBad.1 + s.tier.lastBad.2 * 2 ^ 64
  | 0xA040 => if sub = 1 then s.time.present else if sub = 2 then s.time.rejected else s.time.losses
  | 0xA060 => leNat (recordAt 16 d.foldRecs sub)
  | 0xA100 => s.fuse.spareMfg.getD (sub - 1) 0
  | 0xA101 => s.nv.spareField.getD (sub - 1) 0
  | 0xA102 => s.nv.sparePending.getD (sub - 1) 0
  | 0xA103 => s.nv.spareApply
  | 0xA104 => s.spareMap (sub - 1)
  | 0xA105 => d.spareTest.getD (sub - 1) 0
  | _ => 0

/-- Diagnostics of a port and of a core (R500). -/
def State.readPortDiag (s : State) (p sub : Nat) : Nat :=
  if sub = 1 then (s.port p).foreign else if sub = 2 then (s.port p).foreignFirst else Tab.get 0 (s.port p).holdCycles (sub - 2)
def State.readCoreDiag (s : State) (n sub : Nat) : Nat :=
  let c := s.core n
  if sub ≤ 9 then Tab.get 0 c.holdCycles sub
  else if sub = 10 then c.closureWait
  else if sub = 11 then c.runahead.1
  else if sub = 12 then c.runahead.2
  else if sub = 13 then c.corrected
  else if sub = 14 then c.badStatus
  else if sub = 15 then c.stallRec
  else match c.strayHist[sub - 17]? with | some h => h.1 % 2 ^ 32 + h.2 * 2 ^ 32 | none => 0

/-- Entries that report a measured analog quantity: VIN, IIN, PIN, die power, plate temperature, energy, rail voltage, and what the
LPDDR5X dies report (R493, R496, R573, log 7). -/
def isMeasured (i : Nat) : Bool := [0x3006, 0x3007, 0x6000, 0x6001, 0x6002, 0x6005, 0x6007, 0x600B, 0x6015].contains i
/-- A measured quantity; REFRESH_RATE is 1 or 2. In the core cycle of the module reset nothing has been measured: the default (R14, R114,
R472, R493). -/
def State.readMeasured (s : State) (i sub : Nat) : Nat :=
  let v := Config.measured (256 * i + sub) s.free
  if s.now = s.pw.resetAt then (if i = 0x3007 then 1 else 0)
  else if i = 0x3007 then 1 + v % 2 else v

/-- The value of an entry that exists. -/
def State.dictValue (s : State) (i sub : Nat) : Nat :=
  if isMeasured i then s.readMeasured i sub
  else if i < 0x2000 then s.readIdentity i sub
  else if i < 0x2400 then s.readPort ((i - 0x2000) / 0x20) (i % 0x20) sub
  else if i < 0x3000 then s.readHost i sub
  else if i < 0x4000 then s.readMemory i sub
  else if i < 0x5000 then s.readTime i sub
  else if i < 0x5100 then s.readEvents i sub
  else if i < 0x5900 then s.readSource ((i - 0x5100) / 0x400) ((i - 0x5100) % 0x400) sub
  else if i < 0x7000 then s.readPower i sub
  else if i < 0x8000 then s.readCtx i sub
  else if i < 0xA000 then s.readSecurity i sub
  else if i < 0xA200 then s.readDiag i sub
  else if i < 0xA400 then s.readPortDiag (i - 0xA200) sub
  else s.readCoreDiag (i - 0xA400) sub

/-- What a read changes: NT_NS latches, a measured quantity is read (R387, R471). -/
def State.afterRead (s : State) (i sub : Nat) : State :=
  if i = 0x4001 ∧ sub = 1 then { s with time := { s.time with latchFrac := s.time.nt s.stamp % 2 ^ 32, latchStamp := s.stamp } }
  else if isMeasured i then { s with free := s.free + 1 }
  else s

/-- Status of a read: LOCKED, NO_ENTRY, NO_SUB or OK; BUSY for what recovery does not serve (R470, R475, R476, R538). -/
def State.readStatus (s : State) (i sub : Nat) : Nat :=
  if 0xF000 ≤ i then 9
  else match s.dictFind i sub with
  | .inr e => e
  | .inl _ => if s.serves i then 0 else 6

/-- Data of a read with status OK: the whole entry, zeros for a WO entry (R470, R471). -/
def State.readData (s : State) (i sub : Nat) : Bytes :=
  match s.dictFind i sub with
  | .inl e => if e.acc = .wo then List.replicate e.size 0 else leBytes e.size (s.dictValue i sub)
  | .inr _ => []

/-- A read: status, data, and the state after it (R470, R471). -/
def State.dictRead (s : State) (i sub : Nat) : Nat × Bytes × State :=
  if s.readStatus i sub = 0 then (0, s.readData i sub, s.afterRead i sub) else (s.readStatus i sub, [], s)

end Sys2Proof.Machine
end

