-- ==== Sys2Proof/Machine/Drove.lean ====
section
/-! DEFINITION. The drove fabric's commands (R251 to R275, R282, R347) and the folds' (R235, R236, R279 to R281, R602). A command
whose event cannot happen in the state leaves the state as it is (log 2). -/

namespace Sys2Proof.Machine

/-! Departure and arrival. -/

/-- A core's router delivers at most one flit per core cycle: where it has delivered one in this cycle, the cycle passes first (R87). -/
def State.slotTime (s : State) (out : Nat) : State :=
  if outKind out = 0 ∧ out % 8 = 4 ∧ (s.core (out / 8)).ejectedAt = some s.now then s.tick else s

/-- DROVE_FLIT_DEPART: an output departs its next position once the flit is present and there is room (R87, R251, R253, R263, R276, R283,
R347); a fold flit that has left may let its fold be carried out (R36, R280). -/
def execDroveFlitDepart (out : Nat) (s : State) : Out :=
  .next (if outKind out = 1 then (s.depart out).finishFold else (s.slotTime out).depart out)

/-- A port's receive side discards a flit of another pen, or any flit while no context runs: counted, the first of the interval
recorded (R282). -/
def Port.foreignFlit (p : Port) (pen stray kind : Nat) : Port :=
  { p with
    foreign := satAdd 64 p.foreign 1
    foreignFirst := if p.foreignFirst = 0 then pen * 65536 + stray * 8 + kind % 8 else p.foreignFirst }

/-- The credit of a drove flit that leaves the receive side's buffer is freed (R337). -/
def Port.freeDrove (p : Port) : Port := { p with rFreed := (p.rFreed + 1) % 1024, dHeld := p.dHeld - 1 }

/-- The kinds that a position's flit may have: data, fold arrival, fold outcome, NULL (R254). -/
def positionKind (k : Nat) : Bool := k == 0 || k == 2 || k == 3 || k == 4

/-- A flit takes the position that its input expects: accepted where STEP, POS and KIND agree and its CRC-32 is right, else counted and
replaced by a NULL (R254, R255, R314). -/
def State.arrive (s : State) (link : Nat) (i : InSt) (f : DFlit) (crcBad : Bool) : State :=
  let good := f.step % 256 == i.step % 256 && f.pos == i.pos && positionKind f.kind && !crcBad
  let g : DFlit := if good then { f with step := i.step, gone := [] } else { pen := f.pen, kind := 4, step := i.step, pos := i.pos, payload := 0 }
  let s1 := s.setIn link { i with buf := i.buf ++ [g], pos := i.pos + 1, gen := i.gen - 1 }
  let s2 := if good then s1 else s1.modDiag fun d => { d with droveOrder := satAdd 64 d.droveOrder 1 }
  (takers s.width (s.tabs i.desc) link i.pos).foldl (fun s t => s.blockedAt t.1) s2

/-- DROVE_FLIT_ARRIVE: an input checks the oldest flit on its link; a port has checked its CRC-32 before (R254, R255, R264, R276, R282,
R314). -/
def execDroveFlitArrive (x : LinkFlit) (s : State) : Out :=
  let input := x.link
  .next (match (s.rawIn input).wire with
    | [] => s
    | f :: rest =>
      let i := { s.inSt input with wire := rest }
      let port := decide (0x10000 ≤ input)
      if port && s.pen != some f.pen then
        (s.setIn input i).modPort (input % 32) fun p => (p.foreignFlit f.pen 0 f.kind).freeDrove
      else match s.prog with
        | none => s.setIn input i
        | some (b, m, _) =>
          if i.pos < linkCount b m input i.desc then s.arrive input i f (x.crcBad && !port)
          else
            let s1 := (s.setIn input i).modDiag fun d => { d with droveOrder := satAdd 64 d.droveOrder 1 }
            if port then s1.modPort (input % 32) Port.freeDrove else s1)

/-! Positions that fall due, and HOLD flits. -/

/-- The first local position of an output that is due, not staged and not held yet (R261). -/
def State.duePosition (s : State) (out : Nat) : Option (Nat × Ent) :=
  match s.prog with
  | none => none
  | some (b, m, _) =>
    let o := s.outSt out
    let c := s.core (out / 8)
    let es := Img.ents b m o.desc out
    ((List.range es.length).filterMap fun i => (es[i]?).map fun e => (i, e)).find? fun x =>
      decide (o.pos ≤ x.1) && isLocal out x.2 && c.isDue s.now o.step x.2 && !(o.held.any fun h => h.isFor o.step x.1)
        && (match c.stagedFor out o.step x.2 with | some { payload := some _, .. } => false | _ => true)

/-- The cause that a core has recorded for a step: that of the hold it is in, else that of its latest held core cycle of the step; none
where it was not held in the step (R48, R59, R261). -/
def State.recordedCause (s : State) (n step : Nat) : Option Nat :=
  let c := s.core n
  (if c.tally == step && (!c.ended || c.holds.any (·.2.2 == 6)) && s.heldNow n then s.holdCause n else none)
    <|> (c.heldSteps.find? (·.1 == step)).map (·.2)

/-- POSITION_DUE: a core's own position falls due unstaged: a NULL of a core that issues nothing, a HOLD with the recorded cause,
or a late send fault (R48, R59, R261, R274, R276); at a port that holds its full number of flits, a HOLD of cause 1 (R333). -/
def execPositionDue (out : Nat) (s : State) : Out :=
  .next (if outKind out = 1 then
      match s.nextEnt out with
      | some e =>
        let o := s.outSt out
        if 8212 ≤ (s.port (out % 32)).replay.length ∧ (s.flitAt out o e).isSome = true ∧ (o.held.any fun h => h.isFor o.step o.pos) = false then
          s.ownHold out o.pos 1 s.modNum (0x8000 + out % 32)
        else s
      | none => s
    else match s.duePosition out with
      | none => s
      | some (i, _) =>
        let n := out / 8
        let c := s.core n
        if c.run == .silent || s.pw.keeper then s.depart out
        else match s.recordedCause n (s.outSt out).step with
          | some k => s.ownHold out i k s.modNum n
          | none => s.faultOutside n 12)

/-- The descriptor of a step, found from the steps that a link's input and the outputs have reached (R183). -/
def State.descAt (s : State) (b : Bytes) (link t : Nat) : Option Nat :=
  (((s.inSt link).step, (s.inSt link).desc) :: s.fab.outs.map fun o => (o.2.step, o.2.desc)).findSome? fun k =>
    (stepsAhead t k.1).bind (Img.ahead b k.2)

/-- HOLD_FLIT_ARRIVE: a HOLD flit comes in on a link for one of its positions: at each output that takes the position it is queued, marked
or discarded; a port discards one of another pen (R24, R263, R266, R282, R338). -/
def execHoldFlitArrive (x : LinkHold) (cause step pos omod osite : Nat) (s : State) : Out :=
  let input := x.link
  let port := decide (0x10000 ≤ input)
  .next (if port && s.pen != some x.pen then s.modPort (input % 32) fun p => p.foreignFlit x.pen 0 1
    else match s.prog with
    | none => s
    | some (b, _, _) =>
      let t := extendTally 8 (step % 256) (s.inSt input).step
      let s1 := if port && readCause cause != cause then s.modPort (input % 32) fun q => q.count 10 1 else s
      match s.descAt b input t with
      | some d => s1.holdOnLink input { pen := x.pen, cause := readCause cause, step := t, pos, omod, osite, desc := d }
      | none => s1.dropHold)

/-- HOLD_FLIT_DEPART: the oldest queued HOLD flit of an output departs once the next HOLD queue has room (R263, R318, R347). -/
def execHoldFlitDepart (out : Nat) (s : State) : Out :=
  let o := s.outSt out
  .next (match o.holdQ with
    | [] => s
    | h :: rest =>
      let s1 := s.setOut out { o with holdQ := rest }
      if outKind out = 1 then
        let p := s.port (out % 32)
        if p.drain then s1
        else if p.st == .active && p.holdQ.isEmpty then s1.modPort (out % 32) fun q => { q with holdQ := [h] }
        else s
      else if s.holdRoom out h then s1.holdOnLink out h else s)

/-- PORT_HOLD_GENERATE: a port's receive side generates a HOLD for the next inbound position not received (R265, R276). -/
def execPortHoldGenerate (port : Nat) (s : State) : Out :=
  let i := s.inSt (rxLink port)
  let k := i.pos + i.gen
  .next (match s.prog, (s.port port).holdCause with
    | some (b, m, _), some cause =>
      if k < linkCount b m (rxLink port) i.desc then
        (s.setIn (rxLink port) { i with gen := i.gen + 1 }).holdOnLink (rxLink port)
          { pen := Img.pen b, cause, step := i.step, pos := k, omod := s.modNum, osite := 0x8000 + port, desc := i.desc }
      else s
    | _, _ => s)

/-- The core holds on a pending mark of the flow, or waits for closure (flow 0xFFFF) and not for its fold, as DROVE_STALL needs (R60,
R236, R266, R275). -/
def Core.stalls (c : Core) (flow : Nat) : Bool :=
  c.run == .run && (if flow = 0xFFFF then c.ended && !(c.holds.any (·.2.2 == 6))
    else c.marks.any fun k => k.1 % 1024 == flow && c.holds.any fun h => h.2.2 == 1 && h.1 == k.2.1)

/-- DROVE_STALL: a hold on a pending mark or a closure wait exceeds the limit; the core goes on without issuing (R274, R275, R386,
R503, R523). -/
def execDroveStall (core flow : Nat) (s : State) : Out :=
  let c := s.core core
  .next (if c.stalls flow then
    (s.setCore core { (c.failed 7 core).goSilent s.now with stallRec := flow * 2 ^ 48 + c.tally % 2 ^ 48 }).coreEvent core 18
  else s)

/-- RESET_DRAIN_NULL_SUPPLY: a draining port's receive side supplies a NULL for the next inbound position (R347). -/
def execResetDrainNullSupply (port : Nat) (s : State) : Out :=
  let l := rxLink port
  let i := s.inSt l
  .next (match s.prog with
    | some (b, m, _) =>
      if (s.port port).drain = true ∧ i.pos < linkCount b m l i.desc ∧ i.wire.length + i.buf.length < bufSize s.width l then
        s.setIn l { i with
          buf := i.buf ++ [{ pen := Img.pen b, kind := 4, step := i.step, pos := i.pos, payload := 0 }], pos := i.pos + 1, gen := i.gen - 1 }
      else s
    | none => s)

/-! Folds. -/

/-- FOLD_ARRIVAL_SEND: a core whose FOLD wait is over sends its arrival to the fold unit (R35, R235, R274, R279). -/
def execFoldArrivalSend (core : Nat) (s : State) : Out := .next (s.arriveCore core)

/-- FOLD_ARRIVAL_COMPLETE: every core and every child port has arrived: the module's arrival is formed and sent, or at the root
taken as the outcome (R276, R279, R280, R347, R384, R522). -/
def execFoldArrivalComplete (s : State) : Out :=
  .next (match s.foldNow with
    | some (f, t) =>
      if s.allArrived f && s.fab.fold.arrival.isNone && s.fab.fold.outcome.isNone then s.sendArrival f t else s
    | none => s)

/-- FOLD_UP_RECEIVE: a child's arrival reaches the fold unit (R279, R602). -/
def execFoldUpReceive (port : Nat) (m : FoldMsg) (s : State) : Out := .next (s.foldUp port m)

/-- FOLD_DOWN_RECEIVE: the outcome comes from the parent (R280, R384, R522, R602). -/
def execFoldDownReceive (port : Nat) (m : FoldMsg) (s : State) : Out := .next (s.foldDown port m)

/-- FOLD_OUTCOME_REACH_CORE: the outcome reaches a core, which goes on, or with the last core the context switches or stops (R36,
R230, R236, R300, R301, R424, R433, R596). -/
def execFoldOutcomeReachCore (core : Nat) (s : State) : Out := .next (s.outcomeAt core)

/-- FOLD_TIMEOUT: arrivals or the outcome are missing at the fold timeout (R281, R597). -/
def execFoldTimeout (s : State) : Out := .next s.foldTimedOut

end Sys2Proof.Machine
end

