-- ==== Sys2Proof/Machine/Xancel.lean ====
section
/-! DEFINITION. The Xancel link's commands: codewords, flits, link messages, lane operations, retrain and reset (R311 to R347). A
command whose event cannot happen in the port's state leaves the state as it is (log 2). -/

namespace Sys2Proof.Machine

/-- A port changes, and a MATCH port that thereby left ACTIVE fails the muster in progress (R361). -/
def State.link (s : State) (port : Nat) (f : State → State) : Out := .next ((f s).checkLeft port)

/-- The port accepts link messages (R319). -/
def Port.talks (p : Port) : Bool := p.st == .active || p.st == .retrain

/-- A protocol error resets the port (R344). -/
def State.protocolError (s : State) (port : Nat) : State := s.resetPort port 2 true false

/-! Link messages (R319 to R321, R332, R337, R339 to R343). Each comes as its own command, or in the slices of arriving flits. -/

/-- An ACK whose ACKSEQ lies `d` beyond the oldest buffered flit frees those before it, and with a new NAKID starts a replay
(R328, R332). -/
def Port.acked (p : Port) (d : Nat) (retry : Bool) (nakid : Nat) : Port :=
  let rest := p.replay.drop d
  let p1 := { p with replay := rest, proofRepeat := false
                     replayAt := match p.replayAt, rest with
                       | some e, f :: _ => some (max e f.1)
                       | _, _ => none }
  if retry ∧ nakid ≠ p.nakActed then
    { p1.count 4 1 with nakActed := nakid, replayAt := rest.head?.map (·.1) }
  else p1

/-- An ACK message (R328, R332, R344). -/
def State.ackMessage (s : State) (port ackseq : Nat) (retry : Bool) (nakid : Nat) : State :=
  let p := s.port port
  if !p.talks then s
  else
    let d := wrapDiff 16 ackseq ((p.eseq - p.replay.length) % 65536)
    if 0 ≤ d ∧ d ≤ p.replay.length then s.setPort port (p.acked d.toNat retry nakid) else s.protocolError port

/-- A CREDIT message: what the peer has freed; more than was sent is an overflow (R337, R344). -/
def State.creditMessage (s : State) (port dfree : Nat) (fr : List Nat) : State :=
  let p := s.port port
  if !p.talks then s
  else if 160 < (p.dSent + 1024 - dfree) % 1024
      ∨ ((List.range 4).any fun k => decide (2 < (Tab.get 0 p.sSent k + 4 - fr.getD k 0) % 4)) = true then s.protocolError port
  else s.setPort port { p with
    dFreed := dfree, sFreed := (List.range 4).foldl (fun t k => Tab.put k (fr.getD k 0) t) p.sFreed }

/-- A port's STEP report reaches the cores whose flows use the port (R15, R268, R269, R321). -/
def State.stepReport (s : State) (port t : Nat) : State :=
  match s.prog with
  | none => s
  | some (b, m, _) =>
    let tabs := (List.range (Img.nset b m)).map (Img.tabs b m)
    s.activeCores.foldl (fun s n =>
      let flows := (tabs.flatMap fun ts => (flowsOf ts n).filter fun f => (flowReceivers s.width ts n f).contains (0x8000 + port)).eraseDups
      s.modCore n fun c => { c with reports := flows.foldl (fun r f =>
        let k := 65536 * f + (0x8000 + port)
        Tab.put k (laterReport (Tab.get 0 r k) (t + 1)) r) c.reports }) s
/-- A STEP message: the peer's receiving cores have begun a step (R268, R321). -/
def State.stepMessage (s : State) (port tally : Nat) : State :=
  if (s.port port).talks then s.stepReport port (extendTally 16 tally s.moduleTally) else s

/-- A message of the peer that starts an operation: handled unless the port's own operation wins over it (R342). -/
def State.peerStarts (s : State) (port : Nat) (f : State → Port → State) : State :=
  match s.yieldLane port with
  | some p => f s p
  | none => s.modPort port fun p => { p with ignored := true }

/-- A SWITCH at the transmitter (R339, R344). -/
def State.takeSwitch (s : State) (port mask cw : Nat) (p : Port) : State :=
  let may := match p.laneOp with | .addIn m => p.txLanes.toNat ||| m | _ => p.txLanes.toNat
  if mask = 0 ∨ mask &&& may ≠ mask then s.protocolError port
  else if isAfter 16 cw p.cwSent then s.setPort port { p with laneOp := .switchIn mask cw }
  else s.setPort port ({ p with laneOp := .none }.lane 3 0 0)
/-- A SWITCH message: the peer names its new inbound lane set and the codeword at which it takes effect (R339, R342, R344). -/
def State.switchMessage (s : State) (port mask cw : Nat) : State :=
  if (s.port port).st = .active then s.peerStarts port fun s p => s.takeSwitch port mask cw p else s
/-- An ADD-REQ message: the peer asks for training frames on a lane (R341, R342). -/
def State.addMessage (s : State) (port mask : Nat) : State :=
  if (s.port port).st = .active then s.peerStarts port fun s p => s.setPort port { p with laneOp := .addIn mask } else s
/-- A WITHDRAW message: the operation in progress ends without change, or the peer's that was ignored (R339, R341, R342). -/
def State.withdrawMessage (s : State) (port : Nat) : State :=
  if (s.port port).talks then
    s.modPort port fun p => if p.ignored then { p with ignored := false } else if p.deskew = 0 then { p with laneOp := .none } else p
  else s
/-- A RETRAIN-REQ message: accepted unless the port's own operation wins (R342, R343). -/
def State.retrainMessage (s : State) (port : Nat) : State :=
  if (s.port port).st = .active then s.peerStarts port fun s p => (s.setPort port p).enterRetrain port else s

/-- A link message of 26 bits that has arrived whole; NONE and reserved types and OPs have no effect (R319, R320). -/
def State.linkMessage (s : State) (port m : Nat) : State :=
  match bits m 25 23 with
  | 1 => s.ackMessage port (bits m 22 7) (bit m 6) (bits m 5 3)
  | 2 => s.creditMessage port (bits m 22 13) [bits m 12 11, bits m 10 9, bits m 8 7, bits m 6 5]
  | 3 => s.stepMessage port (bits m 22 7)
  | 4 => match bits m 22 20 with
    | 0 => s.switchMessage port (bits m 19 16) (bits m 15 0)
    | 1 => s.addMessage port (bits m 19 16)
    | 2 => s.retrainMessage port
    | 3 => s.withdrawMessage port
    | _ => s
  | _ => s

/-- The slice of a flit that has arrived whole: a first slice waits for the second; a second slice without a first is discarded (R319).
DEDUCED: SOM = 1 always begins a message, log 42. -/
def State.takeSlice (s : State) (port w : Nat) : State :=
  let p := s.port port
  if !p.talks then s
  else if bit w 13 then s.setPort port { p with rxSlice := some (bits w 12 0) }
  else match p.rxSlice with
    | some a => (s.setPort port { p with rxSlice := none }).linkMessage port (8192 * a + bits w 12 0)
    | none => s

/-! Codewords and flits. -/

/-- Core cycles in the window of R340, 1 ms. -/
def errWindow : Nat := 1000 * cyclesPerUs

/-- A codeword that decodes: its corrected symbols are counted by lane (R313, R340, R491). -/
def Port.decoded (p : Port) (now : Nat) (lanes : List Nat) : Port :=
  { p.count 1 lanes.length with
    badCws := 0, cwRecv := (p.cwRecv + 1) % 65536
    laneErrs := lanes.map (fun l => (now, l)) ++ p.laneErrs.filter fun e => decide (now < e.1 + errWindow)
    laneCorrected := lanes.foldl (fun t l => Tab.put l (satAdd 64 (Tab.get 0 t l) 1) t) p.laneCorrected }

/-- An uncorrectable codeword: its five flits are lost, with the message whose slices they carry (R313, R319, R324, R331). -/
def Port.undecoded (p : Port) : Port :=
  let p1 := { p.count 2 1 with badCws := p.badCws + 1, cwRecv := (p.cwRecv + 1) % 65536, trainRun := 0, rxSlice := none }
  if p.st == .active then p1.enterRetry else p1

/-- CODEWORD_RECEIVE: the receiver decodes a codeword with the given lanes of its wrong symbols; its lane set follows a SWITCH (R313,
R331, R339, R340). -/
def execCodewordReceive (port : Nat) (errorLanes : List Nat) (s : State) : Out :=
  .next (if (s.port port).st == .off || (s.port port).st == .detect then s
    else (s.modPort port fun p => if errorLanes.length ≤ 16 then p.decoded s.now errorLanes else p.undecoded).switchRx port)

/-- CODEWORD_LOCK_LOSS: eight consecutive uncorrectable codewords (R343). -/
def execCodewordLockLoss (port : Nat) (s : State) : Out :=
  s.link port fun s => if (s.port port).st = .active ∧ 8 ≤ (s.port port).badCws then s.enterRetrain port else s

/-- FLIT_TIME_TRANSMIT: the transmitter fills one flit time (R311, R312, R318, R319, R321, R323, R329, R333, R337, R339, R366). -/
def execFlitTimeTransmit (port : Nat) (s : State) : Out :=
  s.link port fun s => match (s.port port).st with
    | .active => s.activeFlit port
    | .retrain => if (s.port port).relock then s.sendTrain port else s.equalizeFrames port
    | .lock => s.sendTrain port
    | .seal => s.sealFlit port
    | .detect => s.sendFrames port
    | .equalize => s.equalizeFrames port
    | .off | .reset => s

/-- The credit of a stray packet's pool is freed at the receiver (R337). -/
def Port.freeStray (p : Port) (pool : Nat) : Port :=
  { p with rsFreed := Tab.put pool ((Tab.get 0 p.rsFreed pool + 1) % 4) p.rsFreed, sHeld := Tab.put pool (Tab.get 0 p.sHeld pool - 1) p.sHeld }

/-- A stray framing error is counted (R287). -/
def State.framingError (s : State) : State := s.modDiag fun d => { d with framing := satAdd 64 d.framing 1 }

/-- The packet in assembly is discarded and its credit freed; `left` data flits of it are still to come (R287, R337). -/
def State.dropPartial (s : State) (port left : Nat) : State :=
  match (s.port port).partial_ with
  | some q => (s.modPort port fun p => { p.freeStray (s.pool q.1.ch) with partial_ := none, skipData := left }).framingError
  | none => s

/-- A packet is complete at a port's receive side when it has all its data flits (R285, R287). -/
def State.packetDone (s : State) (port : Nat) : State :=
  match (s.port port).partial_ with
  | some q =>
    if q.1.datas.length < q.2 then s
    else { s.modPort port fun p => { p with partial_ := none } with net := { s.net with
      packets := s.net.packets ++ [(s.net.next, { node := 8192 + port, packet := q.1 })], next := s.net.next + 1 } }
  | none => s

/-- A stray head flit: its packet takes a buffer of its pool, which must be free (R287, R289, R336, R337). -/
def State.strayHead (s : State) (port tag : Nat) (b : Block) : State :=
  let s1 := s.dropPartial port 0
  let q := Packet.ofHead tag b
  let ndi := bits tag 35 33
  let k := s.pool q.ch
  if 2 ≤ Tab.get 0 (s1.port port).sHeld k then s1.protocolError port
  else if 4 < ndi ∨ (q.dag = 1 ∧ 2 < q.dest) ∨ bits tag 10 0 ≠ 0 ∨ q.consistent ndi = false then
    (s1.modPort port fun p => { p with rsFreed := Tab.put k ((Tab.get 0 p.rsFreed k + 1) % 4) p.rsFreed, skipData := ndi }).framingError
  else
    (s1.modPort port fun p => { p with partial_ := some (q, ndi), skipData := 0, sHeld := Tab.put k (Tab.get 0 p.sHeld k + 1) p.sHeld }).packetDone port

/-- A stray data flit joins the packet in assembly, whose fields and index it must carry; one left over of a packet already discarded and
counted goes with it (R287). -/
def State.strayData (s : State) (port tag : Nat) (b : Block) : State :=
  match (s.port port).partial_ with
  | none => if 0 < (s.port port).skipData then s.modPort port fun p => { p with skipData := p.skipData - 1 } else s.framingError
  | some q =>
    let i := q.1.datas.length
    if tag = { q.1 with age := 0 }.dataTag i then
      (s.modPort port fun p => { p with partial_ := some ({ q.1 with datas := q.1.datas ++ [b] }, q.2) }).packetDone port
    else s.dropPartial port (q.2 - i - 1)

/-- A sequenced flit that the pen check discards: counted, its credit freed (R282, R337). -/
def State.foreignSequenced (s : State) (port tag : Nat) : State :=
  let st := bits tag 47 47
  let s1 := s.modPort port fun p => p.foreignFlit (bits tag 63 48) st (bits tag 46 44)
  s1.modPort port fun p =>
    if st = 0 then { p with rFreed := (p.rFreed + 1) % 1024 }
    else if bit tag 44 then
      let k := s.pool (bits tag 46 45)
      { p with rsFreed := Tab.put k ((Tab.get 0 p.rsFreed k + 1) % 4) p.rsFreed }
    else p

/-- An FT 1 flit with tag KIND 1 or a reserved KIND: discarded and counted; the second of an interval resets the port (R317). -/
def State.badKindFlit (s : State) (port : Nat) : State :=
  let s1 := s.modPort port fun p => { p.count 10 1 with rFreed := (p.rFreed + 1) % 1024, badKind := p.badKind + 1 }
  if 2 ≤ (s1.port port).badKind then s1.protocolError port else s1

/-- What an accepted sequenced flit brings: its tag and opened payload (R254, R282, R286, R317, R336, R347). -/
def State.acceptFlit (s : State) (port tag : Nat) (b : Block) : State :=
  let stray := bit tag 47
  let kind := bits tag 46 44
  let p := s.port port
  if s.pen ≠ some (bits tag 63 48) then s.foreignSequenced port tag
  else if stray then (if bit tag 44 then s.strayHead port tag b else s.strayData port tag b)
  else if !positionKind kind then s.badKindFlit port
  else if 160 ≤ p.dHeld then s.protocolError port
  else if p.drain then s.modPort port fun p => { p with rFreed := (p.rFreed + 1) % 1024 }
  else
    let i := s.rawIn (rxLink port)
    let f : DFlit := { pen := bits tag 63 48, kind, step := bits tag 39 32, pos := bits tag 31 16, payload := b }
    (s.setIn (rxLink port) { i with wire := i.wire ++ [f] }).modPort port fun p => { p with dHeld := p.dHeld + 1 }

/-- The next expected sequenced flit is accepted: E advances and the payload is opened with its ESEQ (R329, R331). -/
def State.acceptNext (s : State) (port : Nat) (raw : Bytes) : State :=
  let p := s.port port
  let key := match p.keys with | some k => k.2 | none => []
  let b := sealPayload key p.expect (bytesBv 2048 (slice raw 12 256))
  (s.setPort port { p with expect := p.expect + 1, retry := false, retries := 0 }).acceptFlit port (field raw 4 8) b

/-- A flit whose CRC-32 holds (R314). -/
def goodFlit (raw : Bytes) : Bool := raw.length == 272 && crc32 (raw.take 268) == field raw 268 4

/-- A flit with a good CRC that is no flit of its type: FT 2 with a KIND other than 1, FT 3 with a reserved CTYPE (R317, R322). -/
def misfit (raw : Bytes) : Bool :=
  match bits (field raw 0 4) 15 14 with
  | 2 => bits (field raw 4 8) 46 44 != 1
  | 3 => decide (7 < (field raw 4 8) / 2 ^ 56) || (field raw 4 8) / 2 ^ 56 == 0
  | _ => false

/-- A flit with a good CRC is judged by its type and its SEQ (R316, R317, R322, R331). What a HOLD or link control flit brings comes as
that flit's own command. -/
def State.judgeFlit (s : State) (port : Nat) (raw : Bytes) : State :=
  let p := s.port port
  let w := field raw 0 4
  let d := wrapDiff 16 (bits w 31 16) (p.expect % 65536)
  if bits w 15 14 = 1 ∧ d = 0 then s.acceptNext port raw
  else
    let q := if misfit raw then p.count 10 1 else p
    s.setPort port (if 0 < d then q.enterRetry else q)

/-- A flit whose CRC fails is lost, with the message whose slice it carries; a NORMAL receiver enters RETRY, and a run of TRAIN flits
begins again (R314, R319, R324, R331). -/
def Port.lostFlit (p : Port) : Port :=
  let p1 := { p.count 3 1 with rxSlice := none, trainRun := 0 }
  if p.st == .active then p1.enterRetry else p1

/-- SEQUENCED_FLIT_RECEIVE: a flit of 272 bytes reaches the receiver (R282, R287, R314, R317, R319, R322, R329, R331, R336, R337, R344). -/
def execSequencedFlitReceive (port : Nat) (raw : Bytes) (s : State) : Out :=
  s.link port fun s =>
    if (s.port port).st ∈ [PortSt.lock, .seal, .active, .retrain] then
      if goodFlit raw then
        (if (s.port port).st = .active then s.judgeFlit port raw else s).takeSlice port (field raw 0 4)
      else s.modPort port Port.lostFlit
    else s

/-! Link messages as commands (R319 to R321, R332, R337). -/

/-- ACK_RECEIVE (R328, R332, R344). -/
def execAckReceive (port : Nat) (ackseq : BitVec 16) (retry : Bool) (nakid : BitVec 3) (s : State) : Out :=
  s.link port fun s => s.ackMessage port ackseq.toNat retry nakid.toNat

/-- CREDIT_RECEIVE (R337, R344). -/
def execCreditReceive (port : Nat) (dfree : BitVec 10) (req rsp ereq ersp : BitVec 2) (s : State) : Out :=
  s.link port fun s => s.creditMessage port dfree.toNat [req.toNat, rsp.toNat, ereq.toNat, ersp.toNat]

/-- STEP_MESSAGE_RECEIVE (R268, R321). -/
def execStepMessageReceive (port : Nat) (tally : BitVec 16) (s : State) : Out :=
  .next (s.stepMessage port tally.toNat)

/-- ACK_TIMEOUT: flits are held and no valid ACK has come for 10 µs (R335, R343). -/
def execAckTimeout (port : Nat) (s : State) : Out :=
  s.link port fun s => if (s.port port).st = .active ∧ (s.port port).replay ≠ [] then s.enterRetrain port else s

/-- REPLAY_RETRY_LIMIT: RETRY was entered 16 times without E advancing (R335, R343). -/
def execReplayRetryLimit (port : Nat) (s : State) : Out :=
  s.link port fun s => if (s.port port).st = .active ∧ 16 ≤ (s.port port).retries then s.enterRetrain port else s

/-! Lane operations (R339 to R343). -/

/-- SWITCH_RECEIVE (R339, R342, R344). -/
def execSwitchReceive (port : Nat) (mask : BitVec 4) (cw : BitVec 16) (s : State) : Out :=
  s.link port fun s => s.switchMessage port mask.toNat cw.toNat

/-- LANE_SWITCH_EFFECT: a SWITCH takes effect at the transmitter or the receiver, where its codeword has come (R339, R503). -/
def execLaneSwitchEffect (port : Nat) (s : State) : Out :=
  .next ((s.switchTx port).switchRx port)

/-- ADD_REQ_RECEIVE (R341, R342). -/
def execAddReqReceive (port : Nat) (mask : BitVec 4) (s : State) : Out :=
  .next (s.addMessage port mask.toNat)

/-- WITHDRAW_RECEIVE (R339, R341, R342). -/
def execWithdrawReceive (port : Nat) (s : State) : Out :=
  .next (s.withdrawMessage port)

/-- RETRAIN_REQ_RECEIVE (R342, R343). -/
def execRetrainReqReceive (port : Nat) (s : State) : Out :=
  s.link port fun s => s.retrainMessage port

/-- LANE_DROP_THRESHOLD: a lane's corrected symbols exceed the threshold: it is dropped by SWITCH; the last lane forces a retrain
(R340, R343). -/
def execLaneDropThreshold (port lane : Nat) (s : State) : Out :=
  s.link port fun s =>
    let p := s.port port
    let n := (p.laneErrs.filter fun e => e.2 == lane && decide (s.now < e.1 + errWindow)).length
    if p.st == .active && p.rxLanes.getLsbD lane && decide ((Tab.get ({} : PortNv) s.nv.ports port).drop < n) then
      (if laneCount p.rxLanes = 1 then s.enterRetrain port
       else if p.laneOp == .none then s.setPort port ({ p with laneSent := false }.sendSwitch (p.rxLanes.toNat - 2 ^ lane)) else s)
    else s

/-- LANE_ADD_LOCKED: the lane being added has locked: SWITCH is sent (R341). -/
def execLaneAddLocked (port : Nat) (s : State) : Out :=
  .next (match (s.port port).laneOp with
    | .addOut _ mask => s.modPort port fun p => p.sendSwitch mask
    | _ => s)

/-- LANE_ADD_TIMEOUT: the lane has not locked within 5 ms: WITHDRAW (R341). -/
def execLaneAddTimeout (port : Nat) (s : State) : Out :=
  .next (match (s.port port).laneOp with
    | .addOut .. => s.modPort port fun p => { p with laneOp := .none }.lane 3 0 0
    | _ => s)

/-- LANE_ADD_RETRY: a dropped lane is tried again while automatic lane add is enabled: ADD-REQ (R341). -/
def execLaneAddRetry (port lane : Nat) (s : State) : Out :=
  let p := s.port port
  let mask := p.rxLanes.toNat + 2 ^ lane
  .next (if p.st == .active && decide (lane < 4) && !p.rxLanes.getLsbD lane && p.laneOp == .none
      && (Tab.get ({} : PortNv) s.nv.ports port).autoAdd == 1 then
    s.setPort port { p.lane 1 mask 0 with laneOp := .addOut lane mask, laneSent := false }
  else s)

/-! Training and retrain (R323, R324, R343). -/

/-- PORT_SIGNAL_DETECT: signal is present on a lane: EQUALIZE (R323). -/
def execPortSignalDetect (port : Nat) (s : State) : Out :=
  .next (s.modPort port fun p => if p.st = .detect then { p with st := .equalize, converged := 0 } else p)

/-- The lanes that have converged: a lane whose frames carry another lane's number has not (R324). -/
def LaneFrames.lanes (f : LaneFrames) : BitVec 4 :=
  BitVec.ofNat 4 (((List.range 4).filter fun i => f.set.getLsbD i && f.numbers.getD i 4 == i).foldl (fun a i => a + 2 ^ i) 0)

/-- EQUALIZE_END: with a converged lane in each direction the lane sets are taken and LOCK begins, else DETECT; RETRAIN goes on to its
LOCK part (R323, R324). -/
def execEqualizeEnd (port : Nat) (rxSet : LaneFrames) (peerSet : BitVec 4) (s : State) : Out :=
  .next (s.modPort port fun p =>
    if p.st = .equalize then
      if (LaneFrames.lanes rxSet) = 0 ∨ peerSet = 0 then p.toDetect else { p.beginLock (LaneFrames.lanes rxSet) peerSet with st := .lock }
    else if p.st = .retrain ∧ p.relock = false ∧ (LaneFrames.lanes rxSet) ≠ 0 ∧ peerSet ≠ 0 then
      { p.beginLock (LaneFrames.lanes rxSet) peerSet with relock := true }
    else p)

/-- A TRAIN flit counts toward LOCKED and tells the peer's (R324). -/
def Port.train (p : Port) (b : Block) : Port :=
  if Block.field b 0 1 ≠ 1 then p
  else { p with trainRun := p.trainRun + 1, locked := p.locked || decide (16 ≤ p.trainRun + 1), peerLocked := bit (Block.field b 3 1) 0 }

/-- TRAIN_FLIT_RECEIVE: with both ends locked the port moves from LOCK to SEAL (R323, R324). -/
def execTrainFlitReceive (port : Nat) (payload : Block) (s : State) : Out :=
  let p := s.port port
  .next (if p.st = .lock ∨ (p.st = .retrain ∧ p.relock = true) then
    let q := p.train payload
    let s1 := s.setPort port q
    if p.st = .lock ∧ q.locked = true ∧ q.peerLocked = true then s1.enterSeal port else s1
  else s)

/-- LOCK_TIMEOUT: both ends are not locked in time: DETECT (R323). -/
def execLockTimeout (port : Nat) (s : State) : Out :=
  .next (s.modPort port fun p => if p.st = .lock then p.toDetect else p)

/-- RETRAIN_RELOCK: locked again at both ends on a lane in each direction: ACTIVE, the receiver in RETRY once more with a new NAKID
(R323, R324, R335). -/
def execRetrainRelock (port : Nat) (rxSet peerSet : BitVec 4) (s : State) : Out :=
  .next (s.modPort port fun p =>
    if p.st = .retrain ∧ p.relock = true ∧ p.locked = true ∧ p.peerLocked = true ∧ rxSet ≠ 0 ∧ peerSet ≠ 0 then
      { p with
        st := .active, converged := rxSet, rxLanes := rxSet, txLanes := peerSet, retry := true, nakid := (p.nakid + 1) % 8, nakNew := true
        retries := p.retries + 1, badCws := 0, cwSent := 0, cwRecv := 0 }
    else p)

/-- RETRAIN_TIMEOUT: RETRAIN exceeds its time: RESET (R323, R344 to R347). -/
def execRetrainTimeout (port : Nat) (s : State) : Out :=
  s.link port fun s => if (s.port port).st = .retrain then s.resetPort port 1 true false else s

/-- LINK_RESET_RECEIVE: the peer's LINK-RESET puts the port into RESET (R306, R344 to R347). -/
def execLinkResetReceive (port reason : Nat) (s : State) : Out :=
  s.link port fun s => match (s.port port).st with
    | .lock | .seal | .active | .retrain => s.resetPort port reason false false
    | _ => s

/-- PORT_CMD_RETRAIN: a retrain by command, sent as RETRAIN-REQ three times once no lane operation is in progress (R339, R343, R491). -/
def execPortCmdRetrain (port : Nat) (s : State) : Out :=
  .next (s.modPort port fun p =>
    if p.st = .active then { p with retrainCmd := true }.startRetrain else p)

/-- PORT_CMD_RESET: a reset by command (R344 to R347, R491). -/
def execPortCmdReset (port : Nat) (s : State) : Out :=
  s.link port fun s => if (s.port port).st = .active then s.resetPort port 3 true false else s

end Sys2Proof.Machine
end

