-- ==== Sys2Proof/Machine/Seal.lean ====
section
/-! DEFINITION. Sealing's commands (R323, R325 to R328). A command whose event cannot happen leaves the state as it is (log 2). -/

namespace Sys2Proof.Machine

/-- SEAL_HELLO_SEND: the attempt's SEAL-HELLO is sent again until the peer's has come (R325). -/
def execSealHelloSend (port : Nat) (s : State) : Out :=
  .next (s.modPort port fun p => if p.st = .seal ∧ p.peerHello = none then p.control 2 p.hello false else p)

/-- The peer's HELLO is accepted: keys are derived, the ephemeral key is erased, the own proof is signed and sent (R326, R327). -/
def State.acceptHello (s : State) (port : Nat) (h : Block) : State :=
  let p := s.port port
  let sig := ecdsaSign s.fuse.idKey (1 + Config.sigNonce s.free % (p256N - 1)) (proofText p.hello h)
  let proof := bytesBv 2048 sig
  ({ s with free := s.free + 1 } : State).setPort port
    { p.control 3 proof true with
      peerHello := some h, keys := some (sealKeys p.ephKey p.hello h), ephKey := 0, proof, proofRepeat := true, peerModid := Block.field h 0 8 }

/-- SEAL_HELLO_RECEIVE: the peer's SEAL-HELLO is checked, and refused or accepted (R326, R327, R491). -/
def execSealHelloReceive (port : Nat) (payload : Block) (s : State) : Out :=
  let p := s.port port
  .next (if p.st = .seal ∧ p.peerHello = none then
    match s.helloRefusal payload with
    | some r => s.setPort port (p.refused r (Block.field payload 0 8))
    | none => s.acceptHello port payload
  else s)

/-- SEAL_PROOF_RECEIVE: the peer's proof is verified under its IDPUB: ACTIVE, or a refusal (R323, R327, R328). -/
def execSealProofReceive (port : Nat) (payload : Block) (s : State) : Out :=
  let p := s.port port
  .next (match p.st, p.peerHello with
    | .seal, some h =>
      if ecdsaVerify (pointOf (helloBytes h 44 64)) (proofText p.hello h) (helloBytes payload 0 64) then s.setPort port p.toActive
      else s.setPort port (p.refused 3 (Block.field h 0 8))
    | _, _ => s)

/-- SEAL_PROOF_REPEAT: the own proof is sent again until an ACK of the peer has come (R328). -/
def execSealProofRepeat (port : Nat) (s : State) : Out :=
  .next (s.modPort port fun p =>
    if p.proofRepeat = true ∧ (p.st = .seal ∨ p.st = .active) then p.control 3 p.proof false else p)

/-- SEAL_TIMEOUT: no verified proof in time: DETECT (R323). -/
def execSealTimeout (port : Nat) (s : State) : Out :=
  .next (s.modPort port fun p => if p.st = .seal then p.toDetect else p)

end Sys2Proof.Machine
end

