-- ==== Sys2Proof/Machine/Muster.lean ====
section
/-! DEFINITION. The commands of discovery and muster (R357 to R363, R599). A command whose event cannot happen leaves the state as
it is (log 2). -/

namespace Sys2Proof.Machine

/-- DISCOVERY_PROBE_SEND: an ACTIVE port sends a probe (R357, R358). -/
def execDiscoveryProbeSend (port : Nat) (s : State) : Out :=
  .next (if (s.port port).st = .active then s.modPort port fun p => p.control 4 (s.discovery port 0 0 0) true else s)

/-- DISCOVERY_PROBE_RECEIVE: a probe is answered by one reply, with its stamps (R357). -/
def execDiscoveryProbeReceive (port : Nat) (payload : Block) (stamp : BitVec 64) (s : State) : Out :=
  .next (if (s.port port).st = .active ∧ Block.field payload 9 1 = 0 then
    s.modPort port fun p => p.control 4 (s.discovery port 1 (Block.field payload 40 8) stamp.toNat) true
  else s)

/-- DISCOVERY_REPLY_RECEIVE: a reply gives the neighbour and the link's latency (R357, R358). -/
def execDiscoveryReplyReceive (port : Nat) (payload : Block) (stamp : BitVec 64) (s : State) : Out :=
  .next (if (s.port port).st = .active ∧ Block.field payload 9 1 = 1 then s.recordReply port payload stamp.toNat else s)

/-- PORT_CLASSIFY: a port with USE = 1 is classed, with enough replies or at 500 ms (R358, R360, R361, R489). -/
def execPortClassify (port : Nat) (s : State) : Out := .next (s.classify port)

/-- The MUSTER flit belongs to the attempt in progress (R359). -/
def State.ofAttempt (s : State) (b : Block) : Bool := s.must.slot.isSome && Block.field b 12 4 == s.must.attempt

/-- A neighbour's RECORD or READY is kept for the comparison of R360. -/
def State.keepRecord (s : State) (port : Nat) (b : Block) : State :=
  { s with must := { s.must with recs := (port, b) :: s.must.recs.filter fun (r : Nat × Block) => r.1 != port } }

/-- MUSTER_RECORD_RECEIVE: a RECORD is compared with the module's own; in keeper mode it is answered with FAIL (R3, R360, R529,
R599). -/
def execMusterRecordReceive (port : Nat) (payload : Block) (s : State) : Out :=
  .next (if (s.port port).st ≠ .active ∨ Block.field payload 8 1 ≠ 0 then s
    else if s.pw.keeper then s.bareFail 4 (Block.field payload 12 4) (Block.field payload 10 2) [port]
    else if s.ofAttempt payload then (s.keepRecord port payload).musterGo
    else s)

/-- MUSTER_READY_RECEIVE: a READY, which carries the RECORD's fields too, lets the module go on; at ROUND DIAM the context starts
(R71, R360, R363, R497). -/
def execMusterReadyReceive (port : Nat) (payload : Block) (s : State) : Out :=
  .next (if (s.port port).st = .active ∧ Block.field payload 8 1 = 1 ∧ s.ofAttempt payload = true then
    let r := max (Tab.get 0 s.must.rounds port) (Block.field payload 9 1 + 1)
    let s1 := s.keepRecord port payload
    ({ s1 with must := { s1.must with rounds := Tab.put port r s1.must.rounds } } : State).musterGo
  else s)

/-- MUSTER_FAIL_RECEIVE: a FAIL of the attempt before completion fails the muster with REASON 14 and is forwarded unchanged (R359,
R361, R362, R599). -/
def execMusterFailReceive (port : Nat) (payload : Block) (s : State) : Out :=
  let pen := Block.field payload 10 2
  .next (match s.must.slot with
    | some slot =>
      if (s.port port).st = .active ∧ Block.field payload 8 1 = 2 ∧ s.ofAttempt payload = true
          ∧ (pen = Img.pen (s.ctx slot).image ∨ pen = 0xFFFF) then
        s.musterEnds 14 (Block.field payload 138 8) (Block.field payload 136 1) payload
      else s
    | none => s)

/-- MUSTER_REPEAT: the latest MUSTER flit is sent again on the MATCH ports, and a FAIL of R599 on its ports (R359, R361, R599). -/
def execMusterRepeat (s : State) : Out :=
  let s1 := match s.must.latest with
    | some b => s.sendMuster s.must.ports b false
    | none => s
  .next (s.must.fails.foldl (fun s f => s.sendMuster [f.1] f.2.2 false) s1)

/-- The muster's own MUSTER_TIMEOUT runs: it is not ready yet, or its FAIL is still repeated (R361, R362). -/
def Muster.timed (u : Muster) : Bool := if u.slot.isSome then !u.ready else u.failed && u.latest.isSome

/-- MUSTER_TIMEOUT: of the times that run, the oldest has passed: a module not ready fails with REASON 13, or the repetition of a FAIL ends
(R361, R362, R599). -/
def execMusterTimeout (s : State) : Out :=
  let u := s.must
  let oldest := minNat? (u.fails.map (·.2.1))
  .next (if u.timed && (match oldest with | some t => decide (u.timer ≤ t) | none => true) then
      (if u.slot.isSome then s.musterFail 13 else { s with must := { u with latest := none } })
    else match oldest with
      | some t => { s with must := { u with fails := u.fails.filter fun f => t < f.2.1 } }
      | none => s)

end Sys2Proof.Machine
end

