-- ==== Sys2Proof/Machine/Time.lean ====
section
/-! DEFINITION. The commands of the time unit (R365 to R387, R583). A command whose event cannot happen, or that the time state does
not allow, leaves the state as it is (log 2). -/

namespace Sys2Proof.Machine

/-- SYNC_EDGE: a SYNC edge at a RACKREF count: edge 0 of an arm, a later edge in REF, or a monitored one; any other count is
rejected (R371 to R374, R384 to R386, R583). -/
def execSyncEdge (count : Nat) (stamp : BitVec 64) (s : State) : Out :=
  let s1 : State := { s with time := { s.time with present := 1 } }
  .next (match s.time.armed with
    | some ts => s1.firstEdge ts stamp.toNat
    | none => s1.laterEdge count stamp.toNat)

/-- RACKREF_LOSS: no RACKREF edge for 100 ns: the count is lost and counted (R386, R583). -/
def execRackrefLoss (s : State) : Out :=
  .next { s with time := { s.time with
    present := 0, lastCount := none, losses := if s.time.lastCount.isSome then satAdd 64 s.time.losses 1 else s.time.losses } }

/-- SYNC_ARM: T_s is set and REF armed at the next SYNC edge (R371). -/
def execSyncArm (ts : BitVec 64) (s : State) : Out := .next { s with time := { s.time with armed := some ts.toNat } }

/-- NET_AT_EDGE: time is handed over to the links at a SYNC edge one microsecond or more from now; in REF only (R370, R373, R387). -/
def execNetAtEdge (s : State) : Out :=
  .next (if s.time.st = .ref then { s with time := { s.time with atEdge := some (1, s.now) } } else s)

/-- NET_NOW: NET is entered at once, from UNSET, REF or COAST; from UNSET and COAST the first usable reply is a step (R373, R380). -/
def execNetNow (s : State) : Out := .next (if s.time.st = .net then s else s.enterNet (s.time.st != .ref))

/-- REJOIN: COAST is left, and the next usable reply is a step (R380, R387). -/
def execRejoin (s : State) : Out := .next (if s.time.st = .coast then s.enterNet true else s)

/-- COAST (R370). -/
def execCoast (s : State) : Out := .next s.cmdCoast

/-- The state of time lets REF at edge be commanded: no context runs, the module is not in COAST, and T_s is armed or its count still runs
(R373, R380, R387). -/
def State.mayRef (s : State) : Bool := s.runSlot.isNone && s.time.st != .coast && (s.time.armed.isSome || (s.time.arm.isSome && s.time.lastCount.isSome))

/-- REF_AT_EDGE: REF discipline again at an armed SYNC edge, refused while a context runs (R370, R373). -/
def execRefAtEdge (s : State) : Out :=
  .next (if s.mayRef then { s with time := { s.time with atEdge := some (5, s.now) } } else s)

/-- TIME_REQUEST_SEND: in NET a module other than the bellwether asks its parent (R375, R377, R380). -/
def execTimeRequestSend (s : State) : Out :=
  .next (if s.time.st = .net ∧ s.isBell = false ∧ s.time.trying = [] then
    let s1 := if s.time.asked.isSome then { s with time := { s.time with misses := s.time.misses + 1 } } else s
    match s1.parentNow with
    | some p => if (s1.port p).st = .active then s1.askTime p else s1
    | none => s1
  else s)

/-- TIME_REQUEST_RECEIVE: an ACTIVE port answers every request with one reply, in every state (R376, R528). -/
def execTimeRequestReceive (port : Nat) (payload : Block) (stamp : BitVec 64) (s : State) : Out :=
  .next (if (s.port port).st = .active ∧ Block.field payload 9 1 = 0 then
    s.modPort port fun p => p.control 7 (s.timePayload port 1 s.hopsNow (Block.field payload 40 8) stamp.toNat (s.time.nt stamp.toNat)
      (Block.field payload 60 1)) true
  else s)

/-- A reply is usable: it answers the request in hand, its sender is in NET, and BELL and TEPOCH agree (R377). -/
def State.usable (s : State) (port : Nat) (b : Block) : Bool :=
  s.time.st == .net && s.time.asked == some port && Block.field b 60 1 == s.time.xseq && Block.field b 11 1 == 2
    && Block.field b 16 8 == s.nv.bell && Block.field b 12 4 == s.nv.tepoch

/-- TIME_REPLY_RECEIVE: a usable reply's θ is applied or refused (R377 to R380). -/
def execTimeReplyReceive (port : Nat) (payload : Block) (stamp : BitVec 64) (s : State) : Out :=
  .next (if Block.field payload 9 1 = 1 ∧ s.usable port payload = true then
    (s.modPort port fun p => { p with hops := Block.field payload 10 1 }).useReply port (Block.field payload 24 8) (Block.field payload 32 8)
      (Block.field payload 40 8) stamp.toNat (Block.field payload 48 12)
  else s)

/-- SLEW_END: one interval after a correction, with no newer one, the module re-anchors with RATE := FREQ (R379). -/
def execSlewEnd (s : State) : Out :=
  .next (if s.time.slewing then { s with time := { s.time.anchor s.stamp s.time.freq with slewing := false } } else s)

/-- The parent is lost: it left ACTIVE, eight requests brought no usable reply, or a port in trial gave none (R380). -/
def State.parentLost (s : State) : Bool :=
  s.time.trying != [] || decide (8 ≤ s.time.misses) || decide (s.time.parent < 32 ∧ (s.port s.time.parent).st ≠ .active)

/-- TIME_PARENT_LOST: each remaining port that R375 allows is tried once, in port order; with none left the module coasts (R380). -/
def execTimeParentLost (s : State) : Out :=
  .next (if s.time.st = .net ∧ s.isBell = false ∧ s.parentLost = true then
    let left := match s.time.trying with
      | _ :: t => t
      | [] => s.timePorts.filter fun p => p != s.time.parent
    match left.filter fun p => (s.port p).st == .active with
    | p :: t => ({ s with time := { s.time with trying := p :: t, misses := 0 } } : State).askTime p
    | [] => s.coast
  else s)

end Sys2Proof.Machine
end

