-- ==== Sys2Proof/Machine/DictWrite.lean ====
section
/-! DEFINITION. What a write of a dictionary entry does: its refusals in the order of R470, and its effect (R387, R428, R470 to R476,
R491 to R502, R517, R539, R573). -/

namespace Sys2Proof.Machine

/-- Every byte of a spare map lacks SUB or CLEAR (R501). -/
def spareMapOk (v : Nat) : Bool := (List.range 8).all fun g => !(bit v (8 * g + 7) && bit v (8 * g + 6))

/-- Ranges of TIMERS 1 to 5 (R491). -/
def timerRange (sub : Nat) : Nat × Nat := [(1, 1000), (1000, 100000), (500, 10000), (5000, 100000), (5000, 100000)].getD (sub - 1) (0, 0)

/-- A value lies in a range. -/
def within (v lo hi : Nat) : Bool := decide (lo ≤ v) && decide (v ≤ hi)

/-- The value lies in the entry's stated range and names a defined code (R470). -/
def State.inRange (s : State) (i sub v : Nat) : Bool :=
  if i < 0x2400 then
    match i % 0x20 with
    | 0x01 => v ≤ 1
    | 0x03 => within v 1 2
    | 0x05 => if sub = 1 then within v 16 4096 else v ≤ 1
    | _ => within v (timerRange sub).1 (timerRange sub).2
  else if 0x5100 ≤ i ∧ i < 0x5900 then
    match sub with
    | 1 => v ≤ 1
    | 3 | 4 => within v 1 1000000
    | 5 => within v 1 10000000
    | _ => true
  else match i with
  | 0x2441 => within v 2 254
  | 0x3010 | 0x3012 | 0x4014 | 0x6010 | 0x8010 | 0xA103 => v ≤ 1
  | 0x4007 => within v 1 1000
  | 0x4008 => within v 16 10000
  | 0x4009 | 0x7002 => within v 1 5
  | 0x5004 | 0x6012 => v == 0xA5
  | 0x6003 => within v 1000 (nvDefault s.fuse.grade).powerLimit
  | 0x6008 => within v 700 1000
  | 0x7010 => decide (v ≤ 3) || v == 0xFF
  | 0x7013 => within v 1 10000
  | 0x7033 => within v 100 60000
  | 0x8017 => v == 0x5A
  | 0x8031 => v ≤ 67108864
  | 0x8032 => v == 1 || (v == 2 && s.sec.fwStatus == 2)
  | 0xA000 => within v 1 1000000
  | 0xA001 | 0xA003 => within v 10 1000000
  | 0xA002 => within v 100 10000000
  | 0xA102 => spareMapOk v
  | _ => true

/-- A TIME_CMD that the state of time does not allow (R370, R373, R380, R387). -/
def State.timeBusy (s : State) (v : Nat) : Bool :=
  match v with
  | 1 => s.time.st != .ref
  | 2 => s.time.st == .net
  | 3 => s.time.st != .coast
  | 5 => !s.mayRef
  | _ => false

/-- The write is refused in the current state (R343, R344, R385, R387, R422, R488, R491, R539, R572). -/
def State.writeBusy (s : State) (i sub v : Nat) : Bool :=
  if !s.serves i then true
  else if i < 0x2400 then
    let p := (i - 0x2000) / 0x20
    (i % 0x20 == 1 && (funcWrite (s.port p).func v).isNone) || (i % 0x20 == 3 && (s.port p).st != .active)
  else match i with
  | 0x3010 => (funcWrite s.pw.sramScrub v).isNone
  | 0x3012 => (funcWrite s.pw.tierScrub v).isNone
  | 0x4009 => s.timeBusy v
  | 0x4014 => s.runSlot.isSome
  | 0x6010 => (s.setCompute v).isNone
  | 0x7002 => s.cmdBusy sub v
  | 0x8032 => s.sec.fwStatus == 1
  | _ => false

/-- Status of a write of bytes to an entry, over a mailbox or not (R470, R475, R476, R487). -/
def State.writeStatus (s : State) (mailbox : Bool) (i sub : Nat) (data : Bytes) : Nat :=
  if 0xF000 ≤ i then 9
  else match s.dictFind i sub with
  | .inr e => e
  | .inl e =>
    if e.acc = .ro then 3
    else if e.mailbox && !mailbox then 8
    else if data.length ≠ e.size then 4
    else if !s.inRange i sub (leNat data) then 5
    else if s.writeBusy i sub (leNat data) then 6 else 0

/-- An entry of a fabric port takes a value (R343, R344, R361, R488, R491). -/
def State.writePort (s : State) (p o sub v : Nat) : State :=
  match o with
  | 0x01 => (s.setPortEn p v).getD s
  | 0x03 =>
    if v = 1 then s.modPort p fun q => { q with retrainCmd := true }.startRetrain else (s.resetPort p 3 true false).checkLeft p
  | 0x05 => s.modPortNv p fun q => if sub = 1 then { q with drop := v } else { q with autoAdd := v }
  | _ => s.modPortNv p fun q => { q with timers := updAt (fun _ => v) q.timers (sub - 1) }

/-- An entry of an event source takes a value: single bits at the controller (R495, R510, R514, R515). -/
def State.writeSource (s : State) (die src sub v : Nat) : State :=
  let m : BitVec 64 := 1 <<< (src % 64)
  let key := 1024 * die + src
  let g : GuardNv := Tab.get {} s.nv.guards key
  match sub with
  | 1 =>
    let old := Tab.get 0 (s.evc die).mask (src / 64)
    s.maskWrite die (src / 64) (if v = 1 then old ||| m else old &&& ~~~m)
  | 2 => if bit v 0 then s.pendClear die (src / 64) m else s
  | 3 => { s with nv := { s.nv with guards := Tab.put key { g with count := v } s.nv.guards } }
  | 4 => { s with nv := { s.nv with guards := Tab.put key { g with window := v } s.nv.guards } }
  | 5 => { s with nv := { s.nv with guards := Tab.put key { g with stuck := v } s.nv.guards } }
  | _ =>
    let s1 := if bit v 0 then s.stormClear die (src / 64) m else s
    if bit v 1 then s1.stuckClear die (src / 64) m else s1

/-- TIME_CMD and SYNC_ARM (R370, R371, R373, R380, R387). -/
def State.timeCmd (s : State) (v : Nat) : State :=
  match v with
  | 1 => { s with time := { s.time with atEdge := some (1, s.now) } }
  | 2 => s.enterNet (s.time.st != .ref)
  | 3 => s.enterNet true
  | 4 => s.cmdCoast
  | _ => { s with time := { s.time with atEdge := some (5, s.now) } }

/-- CTX_CMD (R422). -/
def State.ctxCmd (s : State) (slot v : Nat) : State :=
  match v with
  | 1 => s.cmdLoad slot
  | 2 => s.cmdUnload slot
  | 3 => s.cmdMuster slot
  | 4 => s.musterFail 15
  | _ => s.cmdKill slot

/-- A context entry takes a value (R424, R428, R432, R497). -/
def State.writeCtx (s : State) (i sub : Nat) (data : Bytes) : State :=
  let v := leNat data
  match i with
  | 0x7001 => s.modCtx sub fun x => { x with cpbAddr := v }
  | 0x7002 => s.ctxCmd sub v
  | 0x7009 => s.modCtx sub fun x => { x with attempt := v }
  | 0x7010 => { s with switchTo := v }
  | 0x7011 => { s with switchAttempt := v }
  | 0x7013 => { s with nv := { s.nv with intakeTimeout := v } }
  | 0x7020 => s.kvReq sub (field data 0 1) (field data 1 1) (field data 2 2) (field data 4 4) (field data 8 8)
  | 0x7033 => { s with nv := { s.nv with musterTimeout := v } }
  | _ => s

/-- A security entry takes a value (R498, R539). -/
def State.writeSecurity (s : State) (i sub : Nat) (data : Bytes) : State :=
  let v := leNat data
  match i with
  | 0x8000 => { s with nv := { s.nv with manifestKeys := Tab.put sub data s.nv.manifestKeys } }
  | 0x8010 => { s with nv := { s.nv with ideRequired := v } }
  | 0x8011 => { s with nv := { s.nv with mgmtKey := if v = 0 then none else some data } }
  | 0x8017 => s.ownerZeroize
  | 0x8030 => { s with sec := { s.sec with fwAddr := v } }
  | 0x8031 => { s with sec := { s.sec with fwLen := v } }
  | 0x8032 => if v = 1 then s.startStage else { s with sec := { s.sec with selected := some (1 - s.sec.bank) } }
  | _ => s

/-- An entry of the rest takes a value (R387, R489, R492, R493, R496, R499, R502, R517, R573). -/
def State.writeRest (s : State) (i sub : Nat) (data : Bytes) : State :=
  let v := leNat data
  match i with
  | 0x2440 => { s with nv := { s.nv with plca := updAt (fun _ => v) s.nv.plca 0 } }
  | 0x2441 => { s with nv := { s.nv with plca := updAt (fun _ => v) s.nv.plca 1 } }
  | 0x2442 => { s with nv := { s.nv with plca := updAt (fun _ => v) s.nv.plca 2 } }
  | 0x3010 => (s.setSramScrub v).getD s
  | 0x3012 => (s.setTierScrub v).getD s
  | 0x4005 => { s with nv := { s.nv with bell := v } }
  | 0x4006 => { s with nv := { s.nv with tepoch := v } }
  | 0x4007 => { s with nv := { s.nv with jump := v } }
  | 0x4008 => { s with nv := { s.nv with interval := v } }
  | 0x4009 => s.timeCmd v
  | 0x400A => { s with time := { s.time with armed := some v } }
  | 0x4014 => { s with time := { s.time with gate := v } }
  | 0x5004 => s.enterKeeper 8 0 0
  | 0x6003 => { s with nv := { s.nv with powerLimit := v } }
  | 0x6008 => { s with nv := { s.nv with throttleTemp := v } }
  | 0x6010 => (s.setCompute v).getD s
  | 0x6012 => if s.pw.failWait then s else s.sayReset.resetModule
  | 0xA000 => { s with nv := { s.nv with bankOvr := v } }
  | 0xA001 => { s with nv := { s.nv with stallLimit := v } }
  | 0xA002 => { s with nv := { s.nv with foldTimeout := v } }
  | 0xA003 => { s with nv := { s.nv with strayTimeout := v } }
  | 0xA102 => { s with nv := { s.nv with sparePending := updAt (fun _ => v) s.nv.sparePending (sub - 1) } }
  | 0xA103 => { s with nv := { s.nv with spareApply := v } }
  | _ => s

/-- The effect of a write with status OK (R474). -/
def State.dictDo (s : State) (i sub : Nat) (data : Bytes) : State :=
  if 0x2000 ≤ i ∧ i < 0x2400 then s.writePort ((i - 0x2000) / 0x20) (i % 0x20) sub (leNat data)
  else if 0x5100 ≤ i ∧ i < 0x5900 then s.writeSource ((i - 0x5100) / 0x400) ((i - 0x5100) % 0x400) sub (leNat data)
  else if 0x7000 ≤ i ∧ i < 0x8000 then s.writeCtx i sub data
  else if 0x8000 ≤ i ∧ i < 0x9000 then s.writeSecurity i sub data
  else s.writeRest i sub data

/-- Writes that the MC answers before it performs them: MODULE_RESET and ZEROIZE (R498, R573). -/
def answersFirst (i : Nat) : Bool := i == 0x6012 || i == 0x8017

/-- A write and its answer: a refused one changes nothing (R470, R474). -/
def State.dictWrite (s : State) (mailbox : Bool) (i sub : Nat) (data : Bytes) (answer : Nat → State → State) : State :=
  let st := s.writeStatus mailbox i sub data
  if st ≠ 0 then answer st s
  else if answersFirst i then (answer 0 s).dictDo i sub data else answer 0 (s.dictDo i sub data)

end Sys2Proof.Machine
end

