-- ==== Sys2Proof/Machine/Manage.lean ====
section
/-! DEFINITION. The dictionary's paths: the management port, the mailbox commands DICT_READ and DICT_WRITE, and writes of registers
without a row of their own (R439 to R447, R460, R462, R474, R481 to R487, R506 to R509). -/

namespace Sys2Proof.Machine

/-! The management port (R481 to R486). -/

/-- A Jendy PDU (R481): status and data of a response, flags and counter by tag. -/
def jendyPdu (op tid index sub flags status ctr : Nat) (data : Bytes) : Bytes :=
  leBytes 1 1 ++ leBytes 1 op ++ leBytes 2 tid ++ leBytes 2 index ++ leBytes 1 sub ++ leBytes 1 flags ++ leBytes 2 status
    ++ leBytes 2 data.length ++ leBytes 8 ctr ++ List.replicate 16 0 ++ data

/-- TAG of a PDU in a direction: 0 request, 1 response (R482). -/
def jendyTag (key : Bytes) (bootid dir : Nat) (pdu : Bytes) : Bytes :=
  (hmac key (leBytes 8 bootid ++ leBytes 1 dir ++ pdu.take 20 ++ slice pdu 36 (field pdu 10 2))).take 16

/-- The response to a request (R481, R482): tagged as the request was when `tag` is set. -/
def State.jendyAnswer (s : State) (pdu : Bytes) (tag : Bool) (status : Nat) (data : Bytes) : Bytes :=
  let r := jendyPdu ((field pdu 1 1 + 0x80) % 256) (field pdu 2 2) (field pdu 4 2) (field pdu 6 1) tag.toNat status
    (if tag then field pdu 12 8 else 0) data
  match s.nv.mgmtKey with
  | some k => if tag then r.take 20 ++ jendyTag k s.sec.bootid 1 r ++ r.drop 36 else r
  | none => r

/-- A frame that gets no answer (R483): too short, a reserved bit, an undefined OP, or a LEN that the OP does not have. -/
def jendyMalformed (pdu : Bytes) : Bool :=
  let op := field pdu 1 1
  let len := field pdu 10 2
  decide (pdu.length < 36 + len) || decide (2 ≤ field pdu 7 1) || !within op 1 3 || (op != 2 && len != 0) || decide (1024 < len)

/-- The data of an IDENTIFY response (R486). -/
def State.identifyData (s : State) : Bytes :=
  leBytes 8 s.fuse.modid ++ leBytes 8 s.sec.bootid ++ leBytes 1 s.fuse.grade ++ leBytes 1 s.nv.mgmtKey.isSome.toNat ++ leBytes 2 0
    ++ leBytes 4 s.sec.mcVersion ++ leBytes 4 s.sec.ioVersion ++ leBytes 4 0

/-- Delay in microseconds of the answer to an IDENTIFY (R486). -/
def State.identifyDelay (s : State) (pdu : Bytes) : Nat :=
  if field pdu 1 1 = 3 ∧ s.mgmt.plca = 0xFF then s.fuse.modid % 32 * 200 else 0

/-- A request is counted as performed or refused (R483, R492). -/
def State.countJendy (s : State) (auth : Bool) : State :=
  { s with mgmt := if auth then { s.mgmt with refused := satAdd 64 s.mgmt.refused 1 }
                   else { s.mgmt with performed := satAdd 64 s.mgmt.performed 1 } }

/-- An answer leaves; one to an accepted tagged request is held among the last four (R482, R484). -/
def State.jendySend (s : State) (pdu : Bytes) (tag : Bool) (status : Nat) (data : Bytes) : State :=
  let r := s.jendyAnswer pdu tag status data
  let s1 : State := if tag then { s with
    mgmt := { s.mgmt with held := pushRecent 4 (field pdu 12 8, field pdu 2 2, r) s.mgmt.held }
    sec := { s.sec with mgmtCtr := field pdu 12 8 } } else s
  s1.emit (.jendy (s.identifyDelay pdu) r)

/-- A request that the port performs (R470, R474, R486). -/
def State.jendyPerform (s : State) (pdu : Bytes) (tag : Bool) : State :=
  let i := field pdu 4 2
  let sub := field pdu 6 1
  let s0 := s.countJendy false
  match field pdu 1 1 with
  | 1 => let r := s0.dictRead i sub; r.2.2.jendySend pdu tag r.1 r.2.1
  | 2 => s0.dictWrite false i sub (slice pdu 36 (field pdu 10 2)) fun st s => s.jendySend pdu tag st []
  | _ => s0.jendySend pdu tag 0 s.identifyData

/-- The entry is marked mailbox-only (R483, R498). -/
def State.mailboxOnly (s : State) (i sub : Nat) : Bool := match s.dictFind i sub with | .inl e => e.mailbox | .inr _ => false

/-- A request refused with AUTH (R483). -/
def State.jendyAuth (s : State) (pdu : Bytes) : State := ((s.countJendy true).emit (.jendy 0 (s.jendyAnswer pdu false 7 [])))

/-- A tagged request whose TAG verifies (R483, R484). -/
def State.jendyTagged (s : State) (pdu : Bytes) : State :=
  let ctr := field pdu 12 8
  match s.mgmt.held.find? fun h => h.1 == ctr && h.2.1 == field pdu 2 2 with
  | some h => s.emit (.jendy 0 h.2.2)
  | none =>
    if ctr ≤ s.sec.mgmtCtr then s.jendyAuth pdu
    else if field pdu 1 1 = 2 ∧ s.mailboxOnly (field pdu 4 2) (field pdu 6 1) = true then s.jendySend pdu true 8 []
    else s.jendyPerform pdu true

/-- A frame at the management port: the first matching row of R483 decides. -/
def State.manage (s : State) (pdu : Bytes) : State :=
  let tagged := bit (field pdu 7 1) 0
  if !s.mcUp then s
  else if field pdu 0 1 ≠ 1 then s.emit (.jendy 0 (s.jendyAnswer pdu false 10 []))
  else if jendyMalformed pdu then { s with mgmt := { s.mgmt with malformed := satAdd 64 s.mgmt.malformed 1 } }
  else if !tagged then
    (if field pdu 1 1 = 3 ∨ (s.nv.mgmtKey = none ∧ field pdu 1 1 = 1 ∧ within (field pdu 4 2) 0x1000 0x11FF = true) then s.jendyPerform pdu false
     else s.jendyAuth pdu)
  else match s.nv.mgmtKey with
  | some k => if jendyTag k s.sec.bootid 0 pdu = slice pdu 20 16 then s.jendyTagged pdu else s.jendyAuth pdu
  | none => s.jendyAuth pdu

/-- JENDY_READ: a frame that is no WRITE and no IDENTIFY (R481 to R485). -/
def execJendyRead (pdu : Bytes) (s : State) : Out := .next (if field pdu 1 1 = 2 ∨ field pdu 1 1 = 3 then s else s.manage pdu)
/-- JENDY_WRITE (R481 to R485). -/
def execJendyWrite (pdu : Bytes) (s : State) : Out := .next (if field pdu 1 1 = 2 then s.manage pdu else s)
/-- IDENTIFY (R481, R483, R486). -/
def execIdentify (pdu : Bytes) (s : State) : Out := .next (if field pdu 1 1 = 3 then s.manage pdu else s)

/-! The mailboxes (R461, R462). -/

/-- A port's mailbox takes commands: its link is up in 256-byte flit mode, and in recovery only C0's (R435, R438, R538). -/
def State.mailOpen (s : State) (port : Nat) : Bool :=
  decide (port < 2) && (s.cxl port).up && (s.cxl port).flit256 == 1 && (!s.pw.recovery || port == 0)

/-- A mailbox command's answer, and its completion message (R460, R462). -/
def State.mailAnswer (s : State) (port code : Nat) (out : Bytes) : State := (s.emit (.mailbox port code out)).msix port 16

/-- The answer to DICT_READ or DICT_WRITE that the MC has handled (R462). -/
def State.dictAnswer (s : State) (port status : Nat) (data : Bytes) : State :=
  s.mailAnswer port 0 (leBytes 2 status ++ leBytes 6 0 ++ data)

/-- DICT_READ (R462, R487). -/
def execDictRead (port : Nat) (payload : Bytes) (s : State) : Out :=
  .next (if !s.mailOpen port then s
  else if payload.length ≠ 8 ∨ field payload 3 1 ≠ 0 ∨ field payload 4 4 ≠ 0 then s.mailAnswer port 2 []
  else let r := s.dictRead (field payload 0 2) (field payload 2 1); r.2.2.dictAnswer port r.1 r.2.1)

/-- DICT_WRITE (R462, R487). -/
def execDictWrite (port : Nat) (payload : Bytes) (s : State) : Out :=
  .next (if !s.mailOpen port then s
  else if payload.length < 8 ∨ field payload 3 1 ≠ 0 ∨ payload.length ≠ 8 + field payload 4 4 then s.mailAnswer port 2 []
  else s.dictWrite true (field payload 0 2) (field payload 2 1) (payload.drop 8) fun st s => s.dictAnswer port st [])

/-! BAR0 registers (R439 to R447, R460, R506 to R509). -/

/-- A 64-bit register after a write of 4 or 8 bytes at an offset in it. -/
def mergeReg (old o size v : Nat) : Nat :=
  if size = 8 then v else if o % 8 = 0 then old / 2 ^ 32 * 2 ^ 32 + v else old % 2 ^ 32 + v * 2 ^ 32
/-- The bits that a write of 4 or 8 bytes at an offset gives to write-one-to-clear bits. -/
def onesReg (o size v : Nat) : Nat := if size = 4 ∧ o % 8 = 4 then v * 2 ^ 32 else v

/-- RING_CTL: sizes and SNOOP while OFF, BUSY cleared by a one, EN (R446, R447). -/
def State.ringCtl (s : State) (port ring v : Nat) : State :=
  let s1 := s.modRing port ring fun r =>
    let r1 : Ring := if r.st = 0 then { r with sqsz := bits v 15 12, cqsz := bits v 19 16, snoop := bit v 8 } else r
    { r1 with busy := r1.busy && !bit v 9 }
  if bit v 0 then s1.ringOn port ring else s1.ringOff port ring

/-- A register of a ring (R445 to R447). -/
def State.ringReg (s : State) (port ring o size v : Nat) : State :=
  let r := s.ring port ring
  if o < 8 then s.modRing port ring fun r => if r.st = 0 then { r with sqBase := mergeReg r.sqBase o size v } else r
  else if o < 16 then s.modRing port ring fun r => if r.st = 0 then { r with cqBase := mergeReg r.cqBase o size v } else r
  else if o = 0x10 then s.ringCtl port ring v
  else if o = 0x18 then s.tailTo port ring (v % 2 ^ 32)
  else if o = 0x20 then s.cqHeadTo port ring (v % 2 ^ 32)
  else if 0x28 ≤ o ∧ o < 0x30 then s.modRing port ring fun q => { q with tailAddr := mergeReg r.tailAddr o size v }
  else s

/-- A message that waits in the PBA goes out once neither its entry nor the function is masked (R460). -/
def State.msixSend (s : State) (port e : Nat) : State :=
  let c := s.cxl port
  if bit c.pba e then (s.setCxl port { c with pba := c.pba - 2 ^ e }).msix port e else s

/-- The MSI-X table: an entry that is unmasked sends what its PBA bit held (R460). -/
def State.msixWrite (s : State) (port e o size v : Nat) : State :=
  let c := s.cxl port
  let old : Nat × Nat × Nat × Bool := (c.msixTab.find? fun x => x.1 == e).getD (e, 0, 0, true)
  let new : Nat × Nat × Nat × Bool :=
    if o < 8 then (e, mergeReg old.2.1 o size v, old.2.2.1, old.2.2.2)
    else
      let w := mergeReg (old.2.2.1 + old.2.2.2.toNat * 2 ^ 32) o size v
      (e, old.2.1, w % 2 ^ 32, bit w 32)
  (s.setCxl port { c with msixTab := new :: c.msixTab.filter (fun x => x.1 != e) }).msixSend port e

/-- The event controller's registers (R506 to R509). -/
def State.evcReg (s : State) (die o size v : Nat) : State :=
  let e := s.evc die
  if 0x1000 ≤ o ∧ o < 0x1400 then
    let b := (o - 0x1000) / 0x40
    let w := BitVec.ofNat 64 (onesReg o size v)
    match o % 0x40 / 8 with
    | 0 => s.pendWrite die b (BitVec.ofNat 64 (mergeReg (Tab.get 0 e.pend b).toNat o size v))
    | 1 => s.pendClear die b w
    | 2 => s.maskWrite die b (BitVec.ofNat 64 (mergeReg (Tab.get 0 e.mask b).toNat o size v))
    | 3 => s.stormClear die b w
    | 4 => s.stuckClear die b w
    | _ => s
  else if 0x8000 ≤ o ∧ o < 0xA000 ∧ o % 8 = 0 then s.cfgWrite die ((o - 0x8000) / 8) (BitVec.ofNat 64 v)
  else s

/-- A write of BAR0 that R438 lets in (R439). -/
def State.barReg (s : State) (port o size v : Nat) : State :=
  if o = 0x40 then s.modCxl port fun c => { c with winSlot := v % 4 }
  else if 0x1000 ≤ o ∧ o < 0x1400 then s.ringReg port ((o - 0x1000) / 0x40) (o % 0x40) size v
  else if 0x10000 ≤ o ∧ o < 0x10400 then s.msixWrite port ((o - 0x10000) / 16) (o % 16) size v
  else if 0x20000 ≤ o ∧ o < 0x30000 then s.evcReg port (o - 0x20000) size v
  else s

/-- An access of BAR0 that R440 accepts: aligned, of 4 or 8 bytes. -/
def barSound (o size : Nat) : Bool := (size == 4 || size == 8) && o % size == 0 && decide (o < 2 ^ 20)

/-- A write of BAR0: aligned, of 4 or 8 bytes; while R438 refuses it, an enable of a ring sets CFGERR and the rest is an Unsupported
Request, but for the CXL device registers (R438, R440). -/
def State.barWrite (s : State) (port o size : Nat) (data : Bytes) : State :=
  if 2 ≤ port ∨ !(s.cxl port).up then s
  else if !barSound o size || data.length != size then s.unsupported port o
  else if s.hostBlocked port && !(decide (0x2000 ≤ o) && decide (o < 0x4000)) then
    (if 0x1000 ≤ o ∧ o < 0x1400 ∧ o % 0x40 = 0x10 ∧ bit (leNat data) 0 = true ∧ (s.ring port ((o - 0x1000) / 0x40)).st = 0 then
      s.ringCtl port ((o - 0x1000) / 0x40) (leNat data)
    else s.unsupported port o)
  else s.barReg port o size (leNat data)

/-! Reads of BAR0, and the registers whose place only external standards give (R436 to R440, R460, R467, R507 to R509). -/

/-- RING_CTL (R446). -/
def Ring.ctl (r : Ring) : Nat :=
  (r.st == 1 || r.st == 3).toNat + 2 * r.cfgErr.toNat + 2 ^ 8 * r.snoop.toNat + 2 ^ 9 * r.busy.toNat + 2 ^ 10 * r.st + 2 ^ 12 * r.sqsz
    + 2 ^ 16 * r.cqsz

/-- The 8 bytes at an offset of a ring's registers (R445). -/
def Ring.word (r : Ring) : Nat → Nat
  | 0x00 => r.sqBase
  | 0x08 => r.cqBase
  | 0x10 => r.ctl
  | 0x18 => r.sqTail + 2 ^ 32 * r.sqHead
  | 0x20 => r.cqHead
  | 0x28 => r.tailAddr
  | _ => 0

/-- SRC_CFG of a source; a reserved source reads as zero (R509). -/
def Evc.srcCfg (e : Evc) (die src : Nat) : Nat :=
  match sourceClass die src with
  | some k => 2 ^ 10 * e.vector die src + 2 ^ 9 * (e.mcen die src).toNat + 2 ^ 8 * (sourceLevel src).toNat + 16 * k
      + 8 * (sourceExempt src).toNat
  | none => 0

/-- The 8 bytes at an offset of an event controller's registers (R506 to R509). -/
def Evc.word (e : Evc) (die o : Nat) : Nat :=
  if o = 0 then 1024 + 2 ^ 16 * die
  else if o = 8 then (List.range 16).foldl (fun n b => if e.open b = 0 then n else n + 2 ^ b) 0
  else if 0x1000 ≤ o ∧ o < 0x1400 then
    let b := (o - 0x1000) / 0x40
    (match o % 0x40 / 8 with
    | 0 => Tab.get 0 e.pend b
    | 1 => Tab.get 0 e.pend b
    | 2 => Tab.get 0 e.mask b
    | 3 => Tab.get 0 e.storm b
    | 4 => Tab.get 0 e.stuck b
    | 5 => Tab.get 0 e.level b
    | _ => 0).toNat
  else if 0x8000 ≤ o ∧ o < 0xA000 then e.srcCfg die ((o - 0x8000) / 8)
  else 0

/-- An MSI-X table entry's 8 bytes: the address, or the data with the mask bit (R439, R460). -/
def Cxl.msixWord (c : Cxl) (o : Nat) : Nat :=
  let x : Nat × Nat × Nat × Bool := (c.msixTab.find? fun x => x.1 == o / 16).getD (o / 16, 0, 0, true)
  if o % 16 = 0 then x.2.1 else x.2.2.1 + 2 ^ 32 * x.2.2.2.toNat

/-- The 8 bytes at an aligned offset of BAR0; a reserved one reads as zero (R439). -/
def State.barWord (s : State) (port o : Nat) : Nat :=
  let c := s.cxl port
  if o = 0 then s.fuse.modid
  else if o = 8 then port + 2 * s.fuse.grade
  else if o = 0x40 then c.winSlot
  else if 0x1000 ≤ o ∧ o < 0x1400 then (s.ring port ((o - 0x1000) / 0x40)).word (o % 0x40)
  else if 0x10000 ≤ o ∧ o < 0x10400 then c.msixWord (o - 0x10000)
  else if o = 0x10800 then c.pba
  else if 0x20000 ≤ o ∧ o < 0x30000 then (s.evc port).word port (o - 0x20000)
  else 0

/-- The CXL device registers and the component registers, whose contents an external standard defines (R439, log 5). -/
def barExternal (o : Nat) : Bool := within o 0x2000 0x3FFF || within o 0x80000 0x8FFFF

/-- A read's data are bytes that an external standard defines: free (log 5). -/
def State.externalData (s : State) (port size : Nat) : State :=
  ({ s with free := s.free + 1 } : State).emit
    (.registerData port ((Config.externalBytes s.free ++ List.replicate size 0).take size))

/-- A read of BAR0: one of another size or alignment is aborted; while R438 refuses it an Unsupported Request, but for the CXL device
registers (R438 to R440, R507 to R509). -/
def State.barRead (s : State) (port o size : Nat) : State :=
  if 2 ≤ port ∨ !(s.cxl port).up then s
  else if !barSound o size then s.abortRead port o
  else if s.hostBlocked port && !within o 0x2000 0x3FFF then s.unsupported port o
  else if barExternal o then s.externalData port size
  else s.emit (.registerData port (leBytes size (s.barWord port (o / 8 * 8) / 2 ^ (8 * (o % 8)) % 2 ^ (8 * size))))

/-- The register is one of BAR0's component registers, which R438 keeps closed; configuration space is always open (R438, R439). -/
def funcInBar0 : FuncReg → Bool
  | .hdmControl => true
  | _ => false

/-- A register of a function, by PCIe's and CXL's bits (R436, R437, R439, R455, R460, R467; PRESUMED, log 45). -/
def State.funcData (s : State) (port : Nat) (reg : FuncReg) : Option Bytes :=
  let c := s.cxl port
  match reg with
  | .serialNumber => some (leBytes 8 s.fuse.modid)
  | .registerLocator => some (leBytes 8 0x2000 ++ leBytes 8 0x80000)
  | .cxlResetCapable => some (leBytes 4 0)
  | .bar 0 => some (leBytes 8 (c.bar0 + 4))
  | .bar 2 => some (leBytes 8 (c.bar2 + 12))
  | .bar _ => some (leBytes 8 0)
  | .aerStatus => some (leBytes 4 c.aer)
  | .aerHeader => some (leBytes 8 c.aerHeader)
  | .msixControl => some (leBytes 2 (63 + 2 ^ 14 * c.msixMasked.toNat))
  | .viralControl => some (leBytes 2 c.viral.toNat)
  | .hdmControl => some (leBytes 4 (2 ^ 9 * c.hdm.toNat + 2 ^ 10 * c.hdm.toNat + 2 ^ 11 * c.hdmError.toNat))
  | .other _ => none

/-- Until START_STAGE is 6, configuration requests are answered with Configuration Request Retry Status; in recovery C0 presents its
configuration space (R538, R564). -/
def State.retriesConfig (s : State) (reg : FuncReg) : Bool :=
  s.mcUp && s.pw.stage != 6 && !s.pw.failWait && !s.pw.recovery && !funcInBar0 reg

/-- A read of a function's register (R436 to R439). -/
def State.funcRead (s : State) (port : Nat) (reg : FuncReg) : State :=
  if port < 2 ∧ s.retriesConfig reg = true then s.emit (.configRetry port)
  else if 2 ≤ port ∨ !(s.cxl port).up then s
  else if funcInBar0 reg && s.hostBlocked port then s.unsupported port 0x80000
  else match s.funcData port reg with
    | some d => s.emit (.registerData port d)
    | none => s.externalData port 4

/-- A write of a function's register: BAR bases, AER status (a one clears), the function mask, Viral, the HDM decoder; the others are
read-only or have no effect the spec names (R439, R455, R460, R465, R467). -/
def State.funcWrite (s : State) (port : Nat) (reg : FuncReg) (v : Nat) : State :=
  if port < 2 ∧ s.retriesConfig reg = true then s.emit (.configRetry port)
  else if 2 ≤ port ∨ !(s.cxl port).up then s
  else match reg with
    | .bar 0 => s.modCxl port fun c => { c with bar0 := v % 2 ^ 64 / 2 ^ 20 * 2 ^ 20 }
    | .bar 2 => s.modCxl port fun c => { c with bar2 := v % 2 ^ 64 / 2 ^ 34 * 2 ^ 34 }
    | .aerStatus => s.modCxl port fun c => { c with aer := (BitVec.ofNat 32 c.aer &&& ~~~BitVec.ofNat 32 v).toNat }
    | .msixControl =>
      (List.range 64).foldl (fun (s : State) e => s.msixSend port e) (s.modCxl port fun c => { c with msixMasked := bit v 14 })
    | .viralControl => s.modCxl port fun c => { c with viral := bit v 0 }
    | .hdmControl => if bit v 9 then s.hdmCommit port else if s.hostBlocked port then s.unsupported port 0x80000 else s.hdmClear port
    | _ => s

/-- REGISTER_WRITE: a register without a row of its own: a dictionary entry, written as the MC's firmware writes it, a BAR0 register or a
function's register; the table has no row for a host's read of the last two, which is a form of this one (DESIGN CHOICE, log 45; R439,
R440, R474, R487). -/
def execRegisterWrite (target : RegTgt) (data : Bytes) (s : State) : Out :=
  .next (match target with
  | .dict i sub => if s.mcUp then s.dictWrite true i sub data fun _ s => s else s
  | .bar0 port o size => s.barWrite port o size data
  | .func port reg => s.funcWrite port reg (leNat data)
  | .bar0Read port o size => s.barRead port o size
  | .funcRead port reg => s.funcRead port reg)

end Sys2Proof.Machine
end

