-- ==== Sys2Proof/Machine/Attest.lean ====
section
/-! DEFINITION. The DOE mailbox: DOE Discovery, CDAT and SPDM 1.2 (R463, R464, R540). The structures of the messages are those of PCIe, CDAT
and SPDM (log 5). -/

namespace Sys2Proof.Machine

/-- A DOE request runs when the port's link is up, secure or not; otherwise nothing happens (R435, R438). -/
def State.doe (s : State) (port : Nat) (f : State → State) : State := if port < 2 ∧ (s.cxl port).up = true then f s else s

/-- DOE_DISCOVERY: the protocols of R463 are four. -/
def execDoeDiscovery (port index : Nat) (s : State) : Out :=
  .next (s.doe port fun s => s.emit (.doe port (Config.externalTable (16 + min index 4))))

/-- A DSLBIS entry of CDAT: data type, base unit, value. -/
def dslbis (kind base value : Nat) : Bytes :=
  leBytes 1 1 ++ leBytes 1 0 ++ leBytes 2 24 ++ leBytes 1 0 ++ leBytes 1 0 ++ leBytes 1 kind ++ leBytes 1 0 ++ leBytes 8 base ++ leBytes 2 value
    ++ leBytes 6 0

/-- The entries of CDAT: header; DSMAS over the HDM range; read and write latency in ns, read and write bandwidth in GB/s (R464). -/
def State.cdat (s : State) (e : Nat) : Bytes :=
  match e with
  | 0 => Config.externalTable 5
  | 1 => leBytes 1 0 ++ leBytes 1 0 ++ leBytes 2 24 ++ leBytes 4 0 ++ leBytes 8 0 ++ leBytes 8 (s.tierGiB * 2 ^ 30)
  | 2 => dslbis 1 1000 350
  | 3 => dslbis 2 1000 150
  | 4 => dslbis 4 1000 56
  | _ => dslbis 5 1000 56

/-- CDAT_READ: an entry and the handle of the next, 0xFFFF after the last (R464). -/
def execCdatRead (port entry : Nat) (s : State) : Out :=
  .next (s.doe port fun s =>
    if 5 < entry then s
    else s.emit (.doe port (leBytes 2 0 ++ leBytes 2 (if entry = 5 then 0xFFFF else entry + 1) ++ s.cdat entry)))

/-! SPDM (R463, R533, R540). -/

/-- An SPDM 1.2 message: version, code, two parameters, the rest. -/
def spdmMsg (code p1 p2 : Nat) (rest : Bytes) : Bytes := leBytes 1 0x12 ++ leBytes 1 code ++ leBytes 1 p1 ++ leBytes 1 p2 ++ rest
/-- An SPDM ERROR: 1 InvalidRequest, 4 UnexpectedRequest. -/
def State.spdmError (s : State) (port code : Nat) : State := s.emit (.doe port (spdmMsg 0x7F code 0 []))
/-- An answer, with request and answer added to the transcript, and what the requester has reached. -/
def State.spdmSay (s : State) (port st : Nat) (request answer : Bytes) : State :=
  (s.modCxl port fun c => { c with spdm := st, transcript := c.transcript ++ request ++ answer }).emit (.doe port answer)
/-- The next 32 random bytes of the port's answers (R534). -/
def State.nonce (s : State) : Bytes × State := let d := s.draw; (bvBytes 32 d.1, d.2)
/-- A signature of the identity key over the transcript and a message (R463, R533). -/
def State.idSign (s : State) (port : Nat) (m : Bytes) : Bytes × State :=
  (ecdsaSign s.fuse.idKey (1 + Config.sigNonce s.free % (p256N - 1)) ((s.cxl port).transcript ++ m), { s with free := s.free + 1 })
/-- A request that needs the algorithms negotiated; an UnexpectedRequest before. -/
def State.negotiated (s : State) (port : Nat) (f : State → State) : State :=
  s.doe port fun s => if (s.cxl port).spdm = 3 then f s else s.spdmError port 4

/-- The certificate chain of slot 0 (R463). -/
def certChain : Bytes := Config.externalTable 4

/-- GET_VERSION: SPDM 1.2; the exchange starts afresh (R463). -/
def execGetVersion (port : Nat) (s : State) : Out :=
  .next (s.doe port fun s =>
    (s.modCxl port fun c => { c with transcript := [] }).spdmSay port 1 (leBytes 1 0x10 ++ leBytes 1 0x84 ++ leBytes 2 0)
      (leBytes 1 0x10 ++ leBytes 1 0x04 ++ leBytes 2 0 ++ leBytes 1 0 ++ leBytes 1 1 ++ leBytes 2 0x1200))

/-- GET_CAPABILITIES, after GET_VERSION (R463). -/
def execGetCapabilities (port : Nat) (request : Bytes) (s : State) : Out :=
  .next (s.doe port fun s =>
    if (s.cxl port).spdm = 1 then s.spdmSay port 2 request (spdmMsg 0x61 0 0 (Config.externalTable 24)) else s.spdmError port 4)

/-- NEGOTIATE_ALGORITHMS, after GET_CAPABILITIES: P-256, SHA-256, AES-256-GCM (R463). -/
def execNegotiateAlgorithms (port : Nat) (request : Bytes) (s : State) : Out :=
  .next (s.doe port fun s =>
    if (s.cxl port).spdm = 2 then s.spdmSay port 3 request (spdmMsg 0x63 0 0 (Config.externalTable 25)) else s.spdmError port 4)

/-- GET_DIGESTS: slot 0 holds the one chain (R463). -/
def execGetDigests (port : Nat) (request : Bytes) (s : State) : Out :=
  .next (s.negotiated port fun s => s.spdmSay port 3 request (spdmMsg 0x01 0 1 (sha256 certChain)))

/-- GET_CERTIFICATE: a part of slot 0's chain; other slots and parts outside it are invalid (R463). -/
def execGetCertificate (port certSlot offset length : Nat) (request : Bytes) (s : State) : Out :=
  .next (s.negotiated port fun s =>
    if certSlot ≠ 0 ∨ certChain.length < offset then s.spdmError port 1
    else
      let d := slice certChain offset length
      s.spdmSay port 3 request (spdmMsg 0x02 0 0 (leBytes 2 d.length ++ leBytes 2 (certChain.length - offset - d.length) ++ d)))

/-- CHALLENGE: the identity key signs (R463). -/
def execChallenge (port certSlot : Nat) (request : Bytes) (s : State) : Out :=
  .next (s.negotiated port fun s =>
    if certSlot ≠ 0 then s.spdmError port 1
    else
      let n := s.nonce
      let m := spdmMsg 0x03 0 1 (sha256 certChain ++ n.1 ++ leBytes 2 0)
      let g := n.2.idSign port (request ++ m)
      g.2.spdmSay port 3 request (m ++ g.1))

/-- Indices of the measurements (R463, R540). -/
def measurements : List Nat := [1, 2, 3, 4, 5, 6, 16, 17, 18, 19]
/-- A DMTF measurement block of an index: a raw digest (R463). -/
def State.measBlock (s : State) (k : Nat) : Bytes := leBytes 1 k ++ leBytes 1 1 ++ leBytes 2 35 ++ leBytes 1 0 ++ leBytes 2 32 ++ s.measurement k

/-- GET_MEASUREMENTS: 0 the number of blocks, 0xFF all, else one block; signed when asked (R463, R540). -/
def execGetMeasurements (port index : Nat) (sign : Bool) (request : Bytes) (s : State) : Out :=
  .next (s.negotiated port fun s =>
    let ks := if index = 0xFF then measurements else measurements.filter (· == index)
    if index ≠ 0 ∧ ks = [] then s.spdmError port 1
    else
      let blocks := if index = 0 then [] else ks.flatMap s.measBlock
      let n := s.nonce
      let m := spdmMsg 0x60 (if index = 0 then measurements.length else 0) 0
        (leBytes 1 (if index = 0 then 0 else ks.length) ++ leBytes 3 blocks.length ++ blocks ++ n.1 ++ leBytes 2 0)
      if sign then
        let g := n.2.idSign port (request ++ m)
        g.2.spdmSay port 3 request (m ++ g.1)
      else n.2.spdmSay port 3 request m)

/-- KEY_EXCHANGE: an ephemeral P-256 key, a session with the shared secret, and a signature (R463). -/
def execKeyExchange (port : Nat) (request : Bytes) (s : State) : Out :=
  .next (s.negotiated port fun s =>
    let peer := pointOf (slice request 40 64)
    if request.length < 104 ∨ !onCurve peer then s.spdmError port 1
    else
      let d := s.draw
      let n := d.2.nonce
      let eph := 1 + d.1.toNat % (p256N - 1)
      let rsp := freshKey ((s.cxl port).sessions.map fun e => e.id / 65536)
      let m := spdmMsg 0x64 0 0 (leBytes 2 rsp ++ leBytes 2 0 ++ n.1 ++ pointBytes (publicOf eph))
      let g := n.2.idSign port (request ++ m)
      (g.2.spdmSay port 3 request (m ++ g.1)).modCxl port fun c => { c with
        sessions := c.sessions ++ [{ id := field request 4 2 + 65536 * rsp, secret := ecdh eph peer }] })

/-- FINISH: the session is established when the requester's MAC verifies (R463). -/
def execFinish (port session : Nat) (verified : Bool) (s : State) : Out :=
  .next (s.doe port fun s =>
    if (s.cxl port).sessions.any (fun e => e.id == session) && verified then
      (s.modCxl port fun c => { c with sessions := c.sessions.map fun e => if e.id == session then { e with finished := true } else e }).emit
        (.doe port (spdmMsg 0x65 0 0 []))
    else s.spdmError port 1)

/-- END_SESSION: the session and its keys are gone (R463, R533). -/
def execEndSession (port session : Nat) (s : State) : Out :=
  .next (s.doe port fun s =>
    if (s.cxl port).sessions.any fun e => e.id == session then
      (s.modCxl port fun c => { c with sessions := c.sessions.filter fun e => e.id != session }).emit (.doe port (spdmMsg 0x6C 0 0 []))
    else s.spdmError port 1)

end Sys2Proof.Machine
end

