-- ==== Sys2Proof/Machine/Context.lean ====
section
/-! DEFINITION. The commands of the context slots (R359, R418 to R433). A command whose event cannot happen, and a CTX_CMD value that
the slot's state refuses with BUSY, leave the state as it is (R422, log 2). -/

namespace Sys2Proof.Machine

/-- LOAD: the load of the slot begins, or waits for its unload (R400, R422, R423). -/
def execLoad (slot : Nat) (s : State) : Out := .next (if s.cmdTaken slot 1 then s.cmdLoad slot else s)

/-- UNLOAD: the slot is cleared (R422, R427). -/
def execUnload (slot : Nat) (s : State) : Out := .next (if s.cmdTaken slot 2 then s.cmdUnload slot else s)

/-- MUSTER: the slot's pen musters with its ATTEMPT (R359, R422, R599). -/
def execMuster (slot : Nat) (s : State) : Out := .next (if s.cmdTaken slot 3 then s.cmdMuster slot else s)

/-- ABORT: the muster ends with REASON 15 (R361, R422). -/
def execAbort (slot : Nat) (s : State) : Out := .next (if s.cmdTaken slot 4 then s.musterFail 15 else s)

/-- KILL: the running context stops at its next fold (R422, R426). -/
def execKill (slot : Nat) (s : State) : Out := .next (if s.cmdTaken slot 5 then s.cmdKill slot else s)

/-- SHARD_ATTEMPT_END: the bytes fetched, or a fetch error, decide the attempt (R406 to R420). -/
def execShardAttemptEnd (slot shard : Nat) (fetched : Option Bytes) (s : State) : Out :=
  .next (if s.inIntake slot shard then
    let e := shardEnt (s.ctx slot).manifest shard
    match fetched with
    | none => s.endAttempt slot shard 2 (0, 0, 0)
    | some d =>
      let r := shardResult e (s.ctx slot).seeds d
      (match r.2.2 with | some out => s.deliverShard slot e out | none => s).endAttempt slot shard r.1 r.2.1
  else s)

/-- SHARD_FETCH_TIMEOUT: an attempt without data for INTAKE_TIMEOUT fails (R418). -/
def execShardFetchTimeout (slot shard : Nat) (s : State) : Out :=
  .next (if s.inIntake slot shard then s.endAttempt slot shard 3 (0, 0, 0) else s)

/-- UNLOAD_COMPLETE: the slot is EMPTY, or starts its pending LOAD, once no write of its load is on its way (R422, R427). -/
def execUnloadComplete (slot : Nat) (s : State) : Out :=
  .next (if 4 ≤ slot ∨ s.loadsLeft slot = true then s
    else if (s.ctx slot).st = .unloading then (s.clearCtx slot).ctxState slot .empty
    else if (s.ctx slot).st = .pending ∧ (s.ctx slot).unloaded = false then
      ((s.clearCtx slot).modCtx slot fun x => { x with unloaded := true }).startPending
    else s)

/-- KV_RESET: a KV_REQ with OP 1 (R432, R433). -/
def execKvReset (slot kvs core reserved toff : Nat) (s : State) : Out :=
  .next (if slot < 4 then s.kvReq slot 1 kvs core reserved toff else s)

/-- KV_SPILL: a KV_REQ with OP 2 (R432, R433). -/
def execKvSpill (slot kvs core reserved toff : Nat) (s : State) : Out :=
  .next (if slot < 4 then s.kvReq slot 2 kvs core reserved toff else s)

end Sys2Proof.Machine
end

