-- ==== Sys2Proof/Machine/CoreEvents.lean ====
section
/-! DEFINITION. Events of cores, of their SRAM and of the tier: landings, holds, steps, fetch, run-ahead, the weight streamer,
inbound lines, scrubbing, refresh (R21, R42, R50, R55, R61 to R70, R84 to R90, R104, R105, R111, R114, R117). A command
whose event cannot happen in the state leaves the state as it is (log 2). -/

namespace Sys2Proof.Machine

/-- RESULT_LANDS: results due in the present live cycle land (R42, R43, R145, R146). -/
def execResultLands (core : Nat) (s : State) : Out := .next (s.land core)

/-- The event is the fill of a weight buffer's tile, due by a live cycle. -/
def Flight.fills (f : Flight) (buf : BitVec 1) (live : Nat) : Bool :=
  match f.act with | .tileReady wt _ => wt == buf.toNat && decide (f.due ≤ live) | _ => false

/-- The event belongs to the fill of a weight buffer's tile. -/
def Flight.ofTile (f : Flight) (buf : BitVec 1) : Bool :=
  match f.act with | .tileRead wt .. => wt == buf.toNat | .tileReady wt _ => wt == buf.toNat | _ => false

/-- Events in flight happen now and leave. -/
def State.happenAll (s : State) (core : Nat) (p : Flight → Bool) : State :=
  let c := s.core core
  (c.flights.filter p).foldl (fun s f => s.happen core f) (s.setCore core { c with flights := c.flights.filter fun f => !p f })

/-- The core holds for the fill of the buffer (R50). -/
def Core.waitsFor (c : Core) (buf : BitVec 1) : Bool := c.holds.any fun h => h.2.2 == 8 + buf.toNat

/-- TILE_READY: the fill of the buffer completes in its live cycle, or while the core holds for it, which ends that hold (R50, R190). -/
def execTileReady (core : Nat) (buf : BitVec 1) (s : State) : Out :=
  let c := s.core core
  .next (if c.waitsFor buf then (s.happenAll core fun f => f.ofTile buf).refresh core
  else if s.advances core then s.happenAll core fun f => f.fills buf c.live
  else s)

/-- Causes of the hold requests of R55: throttle, ejection backlog, bank-conflict overrun, host intervention, fold. -/
def requestCauses : List Nat := [4, 5, 6, 7, 8]

/-- HOLD_REQUEST: another part of the module asserts a hold request (R25, R55). -/
def execHoldRequest (core cause : Nat) (s : State) : Out :=
  .next (if requestCauses.contains cause then s.beginHold core cause 0 else s)

/-- HOLD_END: a request is withdrawn, and what the core waits for is looked at again (R55). -/
def execHoldEnd (core cause : Nat) (s : State) : Out := .next ((s.endHold core cause 0).refresh core)

/-- STEP_BEGIN: a core whose step meets R21 waits for its fold (R236) and the SYNC gate (R385), then begins the next step, or
ends its program (R20, R21, R183, R268). -/
def execStepBegin (core : Nat) (s : State) : Out := .next (s.beginStep core)

/-- A report, one more than a step begun and 0 for none, says that a step has begun (R15, R268). -/
def begunBy (r tally : Nat) : Bool := r != 0 && atOrAfter 48 (r - 1) tally

/-- STEP_REPORT_RECEIVE: the report of a receiver of the sender's flow in step tally + 2, which has begun the step (R268,
R269). -/
def execStepReportReceive (core flow receiver tally : Nat) (s : State) : Out :=
  let c := s.core core
  let key := 65536 * flow + receiver
  let known := match s.prog, stepsAhead (laterTally tally 2) c.tally with
    | some (b, _, _), some k => match Img.ahead b c.desc k with
      | some d => (flowReceivers s.width (s.tabs d) core flow).contains receiver
      | none => false
    | _, _ => false
  .next (if known && decide (receiver < 0x8000) && begunBy (Tab.get 0 s.fab.reports receiver) tally then
    s.setCore core { c with reports := Tab.put key (laterReport (Tab.get 0 c.reports key) (tally % 2 ^ 48 + 1)) c.reports }
  else s)

/-! Fetch (R46, R84, R88). -/

/-- FETCH_READ: the fetch unit reads the next line of the stream, which supplies its bundles two cycles later (R84, R88,
R104). -/
def execFetchRead (core : Nat) (s : State) : Out :=
  let line := (s.core core).fetchAt / 64
  .next (if s.mayFetch core then
    (s.fetchRead core line).2.modCore core fun c => { c.fly (c.live + 2) c.live (.fetchIn line) with fetchAt := 64 * (line + 1) }
  else s)

/-! Move-unit run-ahead (R61 to R65). -/

/-- Queued bundles that run-ahead may look at: at most 64, none past a branch, HURDLE or FOLD that has not issued, or past the
end of the step (R61). -/
def aheadWindow (n : Nat) (issuedC : Bool) : Nat → List (Nat × BitVec 256) → List (Nat × BitVec 256)
  | 0, _ => []
  | _, [] => []
  | k + 1, b :: t =>
    if (isBranch n b.2 || isBarrier n b.2) && !issuedC || (decodeBundle n b.2).last then [b]
    else b :: aheadWindow n false k t

/-- Lines that an M-slot load reads, with its address taken from the registers now (R61, R163). -/
def aheadLines (c : Core) : Option Instr → List Nat
  | some (.lds _ _ _ ea) => [eaM c ea / 64]
  | some (.ldv _ _ _ ea) => (List.range 4).map (eaM c ea / 64 + ·)
  | some (.mxload _ _ fmt _ ea) => (List.range (tileLines fmt.toNat)).map (eaM c ea / 64 + ·)
  | _ => []

/-- A stray or host access of the core wants the bank: the request in progress or one that waits, or an ATOMIC RESPONSE's line (R62, R85). -/
def Core.strayWants (c : Core) (b : Nat) : Bool :=
  (c.work.any fun w => bankOf w.line == b)
    || (c.ejectQ ++ c.reorder).any fun p => (p.isReq && bankOf (p.addr / 64) == b)
      || (p.isRsp && ((matchOut c.outs 0 p).bind (·.sp)).any fun a => bankOf (a / 64) == b)

/-- Another access wants the bank of the line: a queued inbound line, a stray, a write-back, or the fetch unit (R62). -/
def State.bankWanted (s : State) (n b : Nat) : Bool :=
  let c := s.core n
  (c.inbound.any fun x => bankOf x.line == b) || (c.writeback.any fun l => bankOf l == b)
    || c.strayWants b || (s.mayFetch n && bankOf (c.fetchAt / 64) == b)

/-- Lines that queued loads of the run-ahead window want (R61). -/
def Core.aheadWants (c : Core) (n : Nat) : List Nat :=
  ((aheadWindow n (c.issued.contains 0) 64 c.queue).take (match c.shadow with | some h => if h.taken then h.left else 64 | none => 64)).flatMap
    fun b => if b.1 = c.pc ∧ c.issued.contains 1 = true then [] else aheadLines c ((decodeBundle n b.2).slots.getD 1 none)

/-- The move unit may pre-read a line now: a queued load that has not issued wants it, it may be read, it is not staged, and its bank
has an idle cycle (R61 to R64). -/
def State.mayRunAhead (s : State) (core line : Nat) : Bool :=
  let c := s.core core
  c.run == .run && s.advances core && (c.aheadWants core).contains line && c.mayRead (s.runSlot.getD 0) line && !c.hasFill (s.runSlot.getD 0) line
    && !(c.staging.any fun e => e.1 == line) && decide (c.staging.length < 64)
    && s.bankFree core (bankOf line) && !s.bankWanted core (bankOf line)

/-- RUNAHEAD_READ: the move unit pre-reads a line of a queued load in an idle bank cycle; an ECC error discards it (R61 to
R64). -/
def execRunaheadRead (core line : Nat) (s : State) : Out :=
  let c := s.core core
  .next (if s.mayRunAhead core line then
    s.setCore core { c with
      banks := bankOf line :: c.banks
      staging := if c.lineEcc line == .clean then c.staging ++ [(line, c.readLine line)] else c.staging }
  else s)

/-! Weight streamer (R66 to R70). -/

/-- An entry of the streamer list is consumed in a step that may be requested: at most eight after the module tally (R66,
R184). -/
def State.entryOpen (s : State) (b : Bytes) (entry : Nat) : Bool :=
  (List.range 9).any fun k => match Img.ahead b s.lowDesc k with
    | some d => decide (Img.stri b d ≤ entry) && decide (entry < Img.stri b d + Img.strn b d)
    | none => false

/-- The request itself: out of the region it faults at the core; otherwise it is sent, and accepted unless the line must be
back-invalidated first (R66, R109, R457). -/
def State.streamerAsk (s : State) (slot core line toff : Nat) : State :=
  let x := s.ctx slot
  match x.tierRange with
  | none => s.faultOutside core 5
  | some r =>
    if r.2 ≤ toff then s.faultOutside core 5
    else
      let t := s.tierClaim (r.1 + toff)
      { t.2 with strm := { t.2.strm with
        requests := satAdd 64 t.2.strm.requests 1
        reqs := t.2.strm.reqs ++ [{ slot, core, line, ta := r.1 + toff, epoch := x.epoch, accepted := t.1 }] } }

/-- STREAMER_REQUEST: line `k` of an entry of the running context's list, while no hold, throttle or HURDLE keeps the core's requests back
(R66, R68, R109, R184, R231). -/
def execStreamerRequest (slot entry k : Nat) (s : State) : Out :=
  .next (match s.prog with
    | some (b, m, run) =>
      let e := Img.strEntry b m entry
      if run = slot ∧ entry < Img.nstrm b m ∧ k < e.count ∧ s.entryOpen b entry = true
          ∧ (s.core e.core).holds = [] ∧ s.throttled e.core = false ∧ (s.core e.core).mayServe 4 (fun _ => false) = true
          ∧ s.requested e.core (e.line + k) = false then
        s.streamerAsk slot e.core (e.line + k) (e.toff + 64 * k)
      else s
    | none => s)

/-- STREAMER_LANDING: an accepted request's data reaches the core's inbound queue, or is dropped for a stale epoch or in keeper
mode; an access after a HURDLE of class 4 waits for it (R66, R68, R69, R111, R231, R527). -/
def execStreamerLanding (slot core line epoch : Nat) (s : State) : Out :=
  .next (match s.strm.reqs.find? fun r => r.slot == slot && r.core == core && r.line == line && r.epoch == epoch && r.accepted with
    | none => s
    | some q =>
      let stale := q.epoch != (s.ctx slot).epoch
      let c := s.core core
      if !stale && (decide (32 ≤ c.inbound.length) || !(c.mayServe 4 fun h => h.tier.contains line)) then s
      else
        let s1 := { s with strm := { s.strm with
          reqs := s.strm.reqs.erase q, drops := if stale then satAdd 64 s.strm.drops 1 else s.strm.drops } }
        if stale || s.pw.keeper then s1.modCore core fun c => c.tierHandled line
        else
          let r := s1.tierRead q.ta 0
          r.2.2.modCore core fun c => { c with inbound := c.inbound ++ [{ line, data := r.1, landing := true, poison := r.2.1 }] })

/-! Inbound lines (R85 to R87, R96, R99, R100). -/

/-- No HURDLE of the core keeps an inbound line at a place of the queue back (R231, R234). -/
def Core.mayFill (c : Core) (i : Nat) (x : Inbound) : Bool :=
  (c.mayServe 1 fun h => decide (i < h.inbound)) && (!x.landing || c.mayServe 4 fun h => h.tier.contains x.line)

/-- INBOUND_LINE_WRITE: the oldest inbound line of a free bank is written (R85 to R87, R231). -/
def execInboundLineWrite (core bank : Nat) (s : State) : Out :=
  let c := s.core core
  let i := c.inbound.findIdx fun x => bankOf x.line == bank
  .next (match c.inbound[i]? with
    | some x =>
      if s.bankFree core bank && !(s.mayFetch core && bankOf (c.fetchAt / 64) == bank) && c.mayFill i x then
        let c1 := { c with inbound := c.inbound.eraseIdx i }.inboundHandled i
        ((s.setCore core (if x.landing then c1.tierHandled x.line else c1)).writeInbound core x).refresh core
      else s
    | none => s)

/-! Error correction and scrubbing (R104, R105, R111, R117), waiting accesses (R89, R90), refresh (R114). -/

/-- An inbound line or a stray waits for the bank. -/
def Core.bankQueued (c : Core) (b : Nat) : Bool := (c.inbound.any fun x => bankOf x.line == b) || c.strayWants b

/-- The write-back of a corrected line may take its bank now (R85, R86). -/
def State.mayWriteBack (s : State) (core line : Nat) : Bool :=
  let c := s.core core
  s.bankFree core (bankOf line) && !c.bankQueued (bankOf line) && !(s.mayFetch core && bankOf (c.fetchAt / 64) == bankOf line)

/-- ECC_WRITEBACK: the first queued corrected line whose bank is free is written; none in keeper mode (R85, R86, R104, R105, R527). -/
def execEccWriteback (core : Nat) (s : State) : Out :=
  let c := s.core core
  .next (match if s.pw.keeper then none else c.writeback.find? (s.mayWriteBack core) with
    | none => s
    | some l => s.setCore core { c.writeLine l (c.readLine l) with banks := bankOf l :: c.banks })

/-- SRAM_PATROL_SCRUB: the scrubber reads the next line of the slice at the lowest priority (R85, R104, R105). -/
def execSramPatrolScrub (core : Nat) (s : State) : Out :=
  let c := s.core core
  let l := c.scrubLine
  .next (if s.pw.sramScrub = 2 ∧ core < s.nCores ∧ s.bankFree core (bankOf l) = true ∧ s.bankWanted core (bankOf l) = false
      ∧ ((c.aheadWants core).any fun k => bankOf k == bankOf l && s.mayRunAhead core k) = false then
    let s1 := s.setCore core { c with banks := bankOf l :: c.banks, scrubLine := (l + 1) % sramLines }
    match c.lineEcc l with
    | .clean => s1
    | .correctable .. => s1.correctedRead core l true
    | .uncorrectable => s1.poisonAt core (64 * l) 3 0
  else s)

/-- HOST_ACCESS_WAIT_HOLD: the host access, or load write, that has waited longest has waited 64 core cycles for its bank (R89, R416). -/
def execHostAccessWaitHold (core : Nat) (s : State) : Out :=
  let c := s.core core
  .next (match c.hostWaiting ++ c.loads.map loadKey with
    | k :: _ => if c.run = .run then (s.setCore core { c with hostHold := some (c.hostHold.getD k) }).beginHold core 7 4 else s
    | [] => s)

/-- BANK_CONFLICT_OVERRUN: cause-6 holds of the step exceed the threshold; once in a step (R90, R503). -/
def execBankConflictOverrun (core : Nat) (s : State) : Out :=
  let c := s.core core
  .next (if s.nv.bankOvr < c.overrun ∧ c.overrunStep = false then
    (s.setCore core { c with overrunStep := true }).coreEvent core 24
  else s)

/-- TIER_REFRESH: one bank of one rank of a populated channel is refreshed (R114). -/
def execTierRefresh (channel rank bank : Nat) (s : State) : Out :=
  let k := 64 * channel + 32 * rank + bank
  .next (if s.channels.contains channel = true ∧ rank < 2 ∧ bank < 16 then
    { s with tier := { s.tier with refreshed := Tab.put k (Tab.get 0 s.tier.refreshed k + 1) s.tier.refreshed } }
  else s)

/-- TIER_ECC_BLOCK_EVICT: the oldest ECC block of a channel leaves the store and is written back (R111). -/
def execTierEccBlockEvict (channel : Nat) (s : State) : Out :=
  .next { s with tier := { s.tier with store := Tab.put channel (Tab.get [] s.tier.store channel).dropLast s.tier.store } }

/-- TIER_PATROL_SCRUB: the scrubber reads and corrects the next block of its pass (R111, R117, R493). -/
def execTierPatrolScrub (s : State) : Out :=
  let b := s.tier.scrubBlock
  .next (if s.pw.tierScrub = 2 ∧ s.tier.usable = true then
    let s1 := if s.tier.lost.contains (s.tierChannel (64 * b)) then s else (s.tierRead (64 * b) 1).2.2
    let wrap := decide (s.tierBytes ≤ 64 * (b + 1))
    { s1 with tier := { s1.tier with
      scrubBlock := if wrap then 0 else b + 1, passes := if wrap then satAdd 64 s1.tier.passes 1 else s1.tier.passes } }
  else s)

end Sys2Proof.Machine
end

