-- ==== Sys2Proof/Machine/Link.lean ====
section
/-! DEFINITION. L slot: SEND and LSWSEND (R237, R238, R240), RECV (R239), STRAYW and STRAYA (R241 to R246). -/

namespace Sys2Proof.Machine

/-- Take the next `k` flits of a flow in the step of issue and count them into the staging store (R237, R238). -/
def Core.reserveFlits (c : Core) (flow k : Nat) : Core :=
  let first := Tab.get 0 c.taken flow
  { c with taken := Tab.put flow (first + k) c.taken
           staged := c.staged ++ (List.range k).map fun j => { flow, ipos := first + j, step := c.tally, payload := none } }

/-- Stage payloads of consecutive flits of a flow, the first `l` live cycles after issue. -/
def State.sendFlits (s : State) (n flow l : Nat) (ps : List Block) : State :=
  let c := s.core n
  let first := Tab.get 0 c.taken flow
  (List.range ps.length).foldl (fun s f => s.launch n (l + f) (.stage flow (first + f) c.tally (ps.getD f 0)))
    (s.modCore n fun c => c.reserveFlits flow ps.length)

/-- SEND: vS, read at issue, is staged three live cycles later as the next flit of FLOW (R237). -/
def execSend (core : Nat) (v : BitVec 5) (flow : BitVec 10) (s : State) : Out :=
  .next (s.issueOp core (.send core v flow) fun t => t.sendFlits core flow.toNat 3 [(t.core core).v v])

/-- RECV: four lines into vD (R239). -/
def execRecv (core : Nat) (d : BitVec 5) (rel : Bool) (line : BitVec 18) (s : State) : Out :=
  .next (s.issueOp core (.recv core d rel line) fun t =>
    t.launch core 1 (.readVec d.toNat (eaL (t.core core) line / 64) rel))

/-- Columns 8f to 8f + 7 of a row as long-sum words (R151, R240). -/
def AccRow.lswBlock (r : AccRow) (f : Nat) : Block :=
  ofLanes ((List.range 8).map fun j => (Lsw.toBits { col := r.col (8 * f + j), wexp := r.wb }))

/-- LSWSEND: row ACC as it stands at issue, as four flits staged from four live cycles on (R240). -/
def execLswsend (core : Nat) (acc : BitVec 7) (flow : BitVec 10) (s : State) : Out :=
  .next (s.issueOp core (.lswsend core acc flow) fun t =>
    t.sendFlits core flow.toNat 4 ((List.range 4).map ((t.core core).row acc.toNat).lswBlock))

/-- A stray request belongs to the wait of a HURDLE of classes 0 and 2 that issues in the same live cycle (R233). -/
def Core.ownStray (c : Core) (rtag : Nat) : Core :=
  let mine := fun (h : HurdleWait) => h.issue == c.live && bit h.classes 0 && bit h.classes 2
  { c with hurdles := c.hurdles.map fun h => if mine h then { h with own := rtag :: h.own } else h }

/-- A stray request of a core: an entry of its outstanding table, under the lowest free RTAG (DESIGN CHOICE, log 41: the spec does not say
which free one), the next sequence of the pair, injection three live cycles after issue (R241, R245, R288, R300). -/
def State.strayRequest (s : State) (n : Nat) (desc : BitVec 64) (sp : Option Nat) (exadd : Bool) (p : Packet) : State :=
  let c := s.core n
  let t := Target.of desc
  let pair := 2048 * t.mod + t.core
  let seq := Tab.get 0 c.sendSeq pair
  let rtag := freshKey (c.outs.map (·.1))
  let pk := { p with pen := s.pen.getD 0, dest := t.core, dmod := t.mod, smod := s.modNum, src := n, pseq := seq, rtag
                     addr := t.addr, fep := c.epoch }
  let order := (c.outs.map fun o => o.2.order + 1).foldl max 0
  let s1 := s.modCore n fun c => { c with
    outs := Tab.put rtag { packet := pk, sp, issue := c.live, order, desc := desc.toNat } c.outs
    sendSeq := Tab.put pair ((seq + 1) % 1024) c.sendSeq
    strayCount := if exadd then (c.strayCount.1, c.strayCount.2 + 1) else (c.strayCount.1 + 1, c.strayCount.2) }
  let s2 := s1.modCore n fun c => c.ownStray rtag
  s2.launch n 3 (.inject rtag)

/-- STRAYW: a WRITE of LEN + 1 flits to the target that sT names (R241). -/
def execStrayw (core : Nat) (v t : BitVec 5) (len : BitVec 2) (msk : Bool) (m : BitVec 5) (s : State) : Out :=
  .next (s.issueOp core (.strayw core v t len msk m) fun z =>
    let k := z.core core
    z.strayRequest core (k.s t) none false
      { type := 1, mask := if msk then (k.s m).toNat else 2 ^ 64 - 1
        datas := (List.range (len.toNat + 1)).map fun j => k.vAt (v.toNat + j) })

/-- STRAYA: an ATOMIC on the target that sT names; its response lands at sP (R242, R243). -/
def execStraya (core : Nat) (v t : BitVec 5) (aop : BitVec 3) (w : Bool) (p : BitVec 5) (s : State) : Out :=
  .next (s.issueOp core (.straya core v t aop w p) fun z =>
    let k := z.core core
    z.strayRequest core (k.s t) (some (k.s p).toNat) (aop == 1)
      { type := 2, opx := aop.toNat + (if w then 8 else 0), inline := ((k.v v).extractLsb' 0 256).setWidth 512 })

end Sys2Proof.Machine
end

