-- ==== Sys2Proof/Machine/Mailbox.lean ====
section
/-! DEFINITION. The mailbox commands beside DICT_READ and DICT_WRITE (R461). Their payloads are structures of CXL 3.1 (log 5). -/

namespace Sys2Proof.Machine

/-- A mailbox command runs when its port's mailbox takes commands; otherwise nothing happens (R435, R461, R538). -/
def State.mail (s : State) (port : Nat) (f : State → State) : State := if s.mailOpen port then f s else s

/-- GET_EVENT_RECORDS: the records of a log, oldest first, behind a header (R461). -/
def execGetEventRecords (port log : Nat) (s : State) : Out :=
  .next (s.mail port fun s =>
    let recs := Tab.get [] (s.cxl port).logs log
    ({ s with free := s.free + 1 } : State).mailAnswer port 0 (Config.externalBytes s.free ++ recs.flatMap fun (r : Nat × Bytes) => leBytes 2 r.1 ++ r.2))

/-- CLEAR_EVENT_RECORDS: all records of a log, or those of the handles named; a handle that the log lacks is Invalid Input (R461). -/
def execClearEventRecords (port log : Nat) (all : Bool) (handles : List Nat) (s : State) : Out :=
  .next (s.mail port fun s =>
    let recs := Tab.get [] (s.cxl port).logs log
    if !all && handles.any (fun h => !(recs.any fun (r : Nat × Bytes) => r.1 == h)) then s.mailAnswer port 2 []
    else
      let left := if all then [] else recs.filter fun (r : Nat × Bytes) => !handles.contains r.1
      (s.modCxl port fun c => { c with logs := Tab.put log left c.logs }).mailAnswer port 0 [])

/-- GET_EVENT_INTERRUPT_POLICY (R461). -/
def execGetEventInterruptPolicy (port : Nat) (s : State) : Out := .next (s.mail port fun s => s.mailAnswer port 0 (s.cxl port).policy)

/-- SET_EVENT_INTERRUPT_POLICY: one byte for each log (R461). -/
def execSetEventInterruptPolicy (port : Nat) (policy : Bytes) (s : State) : Out :=
  .next (s.mail port fun s =>
    if policy.length = 4 ∨ policy.length = 5 then
      (s.modCxl port fun c => { c with policy := policy ++ c.policy.drop policy.length }).mailAnswer port 0 []
    else s.mailAnswer port 2 [])

/-- GET_SUPPORTED_LOGS (R461). -/
def execGetSupportedLogs (port : Nat) (s : State) : Out := .next (s.mail port fun s => s.mailAnswer port 0 (Config.externalTable 1))

/-- GET_LOG: a part of the Command Effects Log; one that lies outside it is Invalid Input (R461). -/
def execGetLog (port offset length : Nat) (s : State) : Out :=
  .next (s.mail port fun s =>
    if (Config.externalTable 2).length < offset + length then s.mailAnswer port 2 []
    else s.mailAnswer port 0 (slice (Config.externalTable 2) offset length))

/-- IDENTIFY_MEMORY_DEVICE (R461). -/
def execIdentifyMemoryDevice (port : Nat) (s : State) : Out := .next (s.mail port fun s => s.mailAnswer port 0 (Config.externalTable 3))

/-- The mailbox timestamp in ns: the value set, and the time since (R461). -/
def State.mailStamp (s : State) (port : Nat) : Nat := ((s.cxl port).stamp + (s.now - (s.cxl port).stampAt) * 5 / 18) % 2 ^ 64

/-- GET_TIMESTAMP (R461). -/
def execGetTimestamp (port : Nat) (s : State) : Out := .next (s.mail port fun s => s.mailAnswer port 0 (leBytes 8 (s.mailStamp port)))

/-- SET_TIMESTAMP: it stamps event records only (R461). -/
def execSetTimestamp (port : Nat) (value : BitVec 64) (s : State) : Out :=
  .next (s.mail port fun s => (s.modCxl port fun c => { c with stamp := value.toNat, stampAt := s.now }).mailAnswer port 0 [])

end Sys2Proof.Machine
end

