-- ==== Sys2Proof/Machine/Matrix.lean ====
section
/-! DEFINITION. X slot: MXSTREAM (R191, R193), ACCOUT (R197, R198), ACCCLR (R195). -/

namespace Sys2Proof.Machine

/-- MXSTREAM: activation row k is read at the line operand plus 64k and updates row ACC + k (R83, R171, R191). -/
def execMxstream (core : Nat) (wt : BitVec 1) (afmt : BitVec 4) (rel : Bool) (acc cnt : BitVec 7) (line : BitVec 18) (s : State) :
    Out :=
  .next (s.issueOp core (.mxstream core wt afmt rel acc cnt line) fun t =>
    let l := eaL (t.core core) line / 64
    let f := afmt.toNat
    (List.range (cnt.toNat + 1)).foldl (fun t k =>
      t.launch core (rowBank f k) (.rowRead wt.toNat f (acc.toNat + k) (l + k) rel (rowLand f k - rowBank f k))) t)

/-- The values of an accumulator row as ACCOUT reads them (R156). -/
def AccRow.vals (r : AccRow) : List Val := (List.range 32).map fun n => colVal r.wb (r.col n)
/-- AT and AS of a row that ACCOUT reads (R157). -/
def AccRow.flags (r : AccRow) : Nat := (List.range 32).foldl (fun f n => f ||| colSticky (r.col n)) 0

/-- The registers that ACCOUT writes and the flags it sets (R133, R156, R198). -/
def accoutRegs (f : Nat) (rows : List AccRow) : List Block × Nat :=
  if isMx f then
    let bs := rows.map fun r => toMxBlock f r.vals (List.replicate 32 none)
    (packBlocks f (bs.map (·.1)), bs.foldl (fun a b => a ||| b.2) 0)
  else
    let w := elemBits f
    let per := if f = 0 then 2 else if f = 2 then 8 else 4
    let outs := rows.map fun r => r.vals.map (roundTo f none)
    let regs := (List.range (ceilDiv rows.length per)).map fun q =>
      BitVec.ofNat 2048 (pack 0 w (((outs.drop (per * q)).take per).flatten.map (·.1)))
    (regs, outs.foldl (fun a r => r.foldl (fun a x => a ||| x.2) a) 0)

/-- ACCOUT: rows ACC to ACC + CNT, as they stand at issue, rounded into the registers from vD, which land together (R197,
R198, R217). -/
def execAccout (core : Nat) (acc : BitVec 7) (cnt : BitVec 3) (ofmt : BitVec 4) (d : BitVec 5) (s : State) : Out :=
  .next (s.issueOp core (.accout core acc cnt ofmt d) fun t =>
    let rows := (List.range (cnt.toNat + 1)).map fun k => (t.core core).row (acc.toNat + k)
    let o := accoutRegs ofmt.toNat rows
    let l := ceilDiv rows.length 2 + 6
    let fl := rows.foldl (fun f r => f ||| r.flags) o.2
    ((List.range o.1.length).foldl (fun t k => t.launch core l (.vreg (d.toNat + k) (o.1.getD k 0) 0x7FFFC0)) t).launch core l
      (.flags fl))

/-- ACCCLR: rows ACC to ACC + CNT take the cleared state under the named window base in the next live cycle (R143, R195). -/
def execAccclr (core : Nat) (acc cnt : BitVec 7) (ws : Bool) (wb : BitVec 11) (sw : BitVec 5) (s : State) : Out :=
  .next (s.issueOp core (.accclr core acc cnt ws wb sw) fun t =>
    let b := if ws then ((t.core core).s sw).toInt else wb.toInt
    t.launch core 1 (.accClear acc.toNat (cnt.toNat + 1) b))

end Sys2Proof.Machine
end

