-- ==== Sys2Proof/Machine/Move.lean ====
section
/-! DEFINITION. M slot: loads and stores (R224), MXLOAD (R190), KV streams (R227 to R229). -/

namespace Sys2Proof.Machine

/-- The base register update of AM = 0b10 lands in the next live cycle (R163). -/
def State.launchBase (s : State) (n : Nat) (ea : BitVec 22) : State :=
  match eaUpdate (s.core n) ea with
  | some u => s.launch n 1 (.sreg u.1 u.2)
  | none => s

/-- LDS: the 8-byte word at EA into sD; its line is read one live cycle after issue (R83, R224). -/
def execLds (core : Nat) (rel : Bool) (d : BitVec 5) (ea : BitVec 22) (s : State) : Out :=
  .next (s.issueOp core (.lds core rel d ea) fun t =>
    (t.launch core 1 (.readWord d.toNat (eaM (t.core core) ea) rel)).launchBase core ea)

/-- LDV: four lines from EA into vD (R224). -/
def execLdv (core : Nat) (rel : Bool) (d : BitVec 5) (ea : BitVec 22) (s : State) : Out :=
  .next (s.issueOp core (.ldv core rel d ea) fun t =>
    (t.launch core 1 (.readVec d.toNat (eaM (t.core core) ea / 64) rel)).launchBase core ea)

/-- STV: vS, read at issue, into four lines, written three live cycles later (R224, R225). -/
def execStv (core : Nat) (v : BitVec 5) (ea : BitVec 22) (s : State) : Out :=
  .next (s.issueOp core (.stv core v ea) fun t =>
    (t.launch core 3 (.write (eaM (t.core core) ea / 64) ((t.core core).v v))).launchBase core ea)

/-- The bank reads of a tile: at most eight lines a live cycle (R83). -/
def State.launchTile (s : State) (n wt line lines : Nat) (rel : Bool) : State :=
  (List.range (ceilDiv lines 8)).foldl
    (fun s j => s.launch n (1 + j) (.tileRead wt (line + 8 * j) (min 8 (lines - 8 * j)) rel)) s

/-- MXLOAD: the tile's lines are read into buffer WT, which is ready 32 live cycles later (R50, R190, R192). -/
def execMxload (core : Nat) (rel : Bool) (fmt : BitVec 4) (wt : BitVec 1) (ea : BitVec 22) (s : State) : Out :=
  .next (s.issueOp core (.mxload core rel fmt wt ea) fun t =>
    let line := eaM (t.core core) ea / 64
    let k := tileLines fmt.toNat
    let b := (t.core core).buf wt
    let b1 : WtBuf := { b with
      ready := false, fmt := some fmt.toNat, filling := [], fillPoison := false, source := (List.range k).map (line + ·) }
    let t1 := t.modCore core fun c => { c with wt := Tab.put wt.toNat b1 c.wt }
    ((t1.launchTile core wt.toNat line k rel).launch core 32 (.tileReady wt.toNat fmt.toNat)).launchBase core ea)

/-- KVAPP: vS into row APPEND of the stream, as an STV; APPEND advances in the next live cycle (R227). -/
def execKvapp (core : Nat) (v : BitVec 5) (kvs : BitVec 4) (s : State) : Out :=
  .next (s.issueOp core (.kvapp core v kvs) fun t =>
    let d := (t.ctx (t.runSlot.getD 0)).kvDesc core kvs.toNat
    (t.launch core 3 (.write (d.base + 4 * d.append) ((t.core core).v v))).launch core 1 (.kvAppend kvs.toNat))

/-- KVCOMMIT: the first n provisional rows are committed in the next live cycle (R228). -/
def execKvcommit (core : Nat) (a : BitVec 5) (kvs : BitVec 4) (s : State) : Out :=
  .next (s.issueOp core (.kvcommit core a kvs) fun t => t.launch core 1 (.kvCommit kvs.toNat ((t.core core).s a).toNat))

/-- KVDROP: APPEND becomes COMMIT in the next live cycle (R229). -/
def execKvdrop (core : Nat) (kvs : BitVec 4) (s : State) : Out :=
  .next (s.issueOp core (.kvdrop core kvs) fun t => t.launch core 1 (.kvDrop kvs.toNat))

end Sys2Proof.Machine
end

