-- ==== Sys2Proof/Machine/Power.lean ====
section
/-! DEFINITION. The commands of input power, rails, clocks, resets, start-up and throttling (R526, R550 to R571). A command whose event
cannot happen leaves the state as it is (log 2). -/

namespace Sys2Proof.Machine

/-- POWER_ON: VIN rises through 39 V; not after a protective shutdown, while disconnected, or while a power-fail waits (R550, R553,
R557, R562, R564). -/
def execPowerOn (s : State) : Out :=
  .next (if !s.pw.on && !s.pw.shutdown && !s.pw.disconnected then s.turnOn else s)

/-- STARTUP_STEP_COMPLETE: the start-up step in progress completes, or fails (R564, R565). -/
def execStartupStepComplete (failure : Option StartFailure) (s : State) : Out := .next (s.startStep failure)

/-- VIN_OUT_OF_RANGE: VIN leaves 40 V to 60 V: source 8 (R550). -/
def execVinOutOfRange (s : State) : Out :=
  .next (if s.pw.on then ({ s with pw := { s.pw with vinOut := true } } : State).levelInput 0 8 true else s)

/-- VIN_RETURN_TO_RANGE: source 8 falls, and keeper mode is not entered for it (R550). -/
def execVinReturnToRange (s : State) : Out :=
  .next (if s.pw.on then ({ s with pw := { s.pw with vinOut := false } } : State).levelInput 0 8 false else s)

/-- VIN_RANGE_TIMEOUT: 10 ms out of range: keeper mode with cause 6 and the voltage; the wait after a power-fail has no time limit
(R526, R550, R553). -/
def execVinRangeTimeout (volts : Nat) (s : State) : Out :=
  .next (if s.pw.vinOut && s.powered then s.enterKeeper 6 0 (volts % 65536) else s)

/-- POWER_FAIL: VIN below 38 V for 20 µs: every group but M goes off, and the module waits (R550, R553, R573). -/
def execPowerFail (s : State) : Out :=
  .next (if s.pw.on ∧ s.pw.failWait = false then
    let s1 := s.groupsOff
    (({ s1 with pw := { s1.pw with failWait := true, vinOut := true, stage := 0, seqRec := 1 } } : State).levelInput 0 8 true).showOk
  else s)

/-- POWER_FAIL_RECOVERY: VIN was in range for 100 ms: a module reset; the ports had stopped (R553, R562, R563). -/
def execPowerFailRecovery (s : State) : Out :=
  .next (if s.pw.on ∧ s.pw.failWait = true then ({ s with pw := { s.pw with vinOut := false } } : State).resetModule else s)

/-- VIN_BELOW_36: the module is off; what kept it off after a protective shutdown ends (R550, R553, R557). -/
def execVinBelow36 (s : State) : Out :=
  .next (({ s with pw := { s.pw with shutdown := false } } : State).turnOff)

/-- INPUT_DISCONNECT: VIN above 62 V: the module is off (R550, R573). -/
def execInputDisconnect (s : State) : Out :=
  .next (({ s with pw := { s.pw with disconnected := true, seqRec := if s.pw.on then 2 else s.pw.seqRec } } : State).turnOff)

/-- INPUT_RECONNECT: VIN below 60 V for 100 ms: a power-on (R550). -/
def execInputReconnect (s : State) : Out :=
  .next (if s.pw.disconnected then
    let s1 : State := { s with pw := { s.pw with disconnected := false } }
    if s.pw.shutdown then s1 else s1.turnOn
  else s)

/-- Start-up is in progress (R556, R561). -/
def State.starting (s : State) : Bool := s.pw.stage != 6 && s.pw.step != 0

/-- RAIL_OUT_OF_REGULATION: a rail that is on; its group and the time decide (R526, R556, R557, R565). -/
def execRailOutOfRegulation (rail : Nat) (s : State) : Out :=
  .next (if !s.pw.on || rail == 0 || decide (25 < rail) || s.pw.railsOff.contains rail then s
  else if rail < 14 then s.protect 3 rail
  else if s.starting then s.railFailed rail
  else s.enterKeeper 2 (rail - 13) rail)

/-- Every port of an I/O die that is not OFF resets with reason 3, as when its link goes down (R344, R361, R561). -/
def State.portsDown (s : State) (iod : Nat) : State :=
  (List.range 16).foldl (fun (s : State) k =>
    if (s.port (16 * iod + k)).st = .off ∨ (s.port (16 * iod + k)).st = .reset then s
    else (s.resetPort (16 * iod + k) 3 false false).checkLeft (16 * iod + k)) s

/-- PLL_LOSS_OF_LOCK: the effect by domain; the MC's PLL and the reference are watched wherever group M is powered, the wait after a
power-fail included (R7, R466, R526, R557, R561). -/
def execPllLossOfLock (pll : Pll) (s : State) : Out :=
  .next (if !s.pw.on then s
  else if pll = .mc then s.protect 4 13
  else if pll = .reference then s.protect 4 0
  else if !s.powered then s
  else match pll with
  | .compute d =>
    if 4 ≤ d ∨ s.pw.railsOff.contains (14 + d) = true then s
    else if s.starting then s.pllFailed (1 + d)
    else ({ s with pw := { s.pw with pllLost := d :: s.pw.pllLost.filter (· != d) } } : State).enterKeeper 3 (1 + d) 0
  | .fabricPorts i => if i < 2 then s.portsDown i else s
  | .memory i =>
    if i < 2 then { s with tier := { s.tier with
      lost := s.tier.lost ++ (s.channels.filter fun c => c / 32 == i && !s.tier.lost.contains c) } } else s
  | .cxl c =>
    if c < 2 ∧ (s.cxl c).up = true then
      ((s.resetCxl c).modCxl c fun x => { x with link := 0, width := 0, rate := 0, flit256 := 0, downs := satAdd 32 x.downs 1 }).assertEvent c 128
    else s
  | .ioFabric i => if i < 2 then s.protect 4 (13 + i) else s
  | .mc | .timeUnit => s.protect 4 13
  | .reference => s.protect 4 0)

/-- MRST_ASSERT: MRST_N was low for 10 µs: a module reset (R562, R563). -/
def execMrstAssert (s : State) : Out :=
  .next (if s.pw.mrst then s
  else
    let s1 : State := { s with pw := { s.pw with mrst := true } }
    if s.powered then s1.sayReset.resetModule else s1)

/-- MRST_DEASSERT: a reset that waits goes on to start-up (R563). -/
def execMrstDeassert (s : State) : Out := .next { s with pw := { s.pw with mrst := false, mrstWait := false } }

/-! Throttling (R567 to R571). -/

/-- Maximum input power in W (R4, R552). -/
def State.maxPower (s : State) : Nat := if s.fuse.grade = 0 then 2600 else 2400

/-- A duty raised by 8 or lowered by 4 (R567, R568). -/
def dutyStep (d : Nat) (up down : Bool) : Nat := if up then min (d + 8) 224 else if down then d - 4 else d

/-- Sources 6 and 7 follow the duties (R503, R569). -/
def State.throttleSources (s : State) : State :=
  let hot := fun (i : Nat) => decide (0 < s.pw.dutyGlobal) || decide (0 < s.pw.dutyDie.getD (2 * i) 0) || decide (0 < s.pw.dutyDie.getD (2 * i + 1) 0)
  ((s.levelInput 0 6 (decide (0 < s.pw.duty))).levelInput 0 7 (hot 0)).levelInput 1 7 (hot 1)

/-- POWER_THROTTLE_EVAL: the duty by the power averaged over 100 µs, wherever a rail is powered (R7, R567). -/
def execPowerThrottleEval (watts : Nat) (s : State) : Out :=
  .next (if s.pw.on then
    ({ s with pw := { s.pw with duty := dutyStep s.pw.duty (decide (s.nv.powerLimit < watts)) (decide (100 * watts < 98 * s.nv.powerLimit)) } }
      : State).throttleSources
  else s)

/-- POWER_FAST_CHECK: power averaged over 10 µs above the maximum raises the duty to at least 128 (R7, R567). -/
def execPowerFastCheck (watts : Nat) (s : State) : Out :=
  .next (if s.pw.on = true ∧ s.maxPower < watts then ({ s with pw := { s.pw with duty := max s.pw.duty 128 } } : State).throttleSources else s)

/-- Temperatures by sub-index from a list, those before where the list ends. -/
def takeTemps (old : List (Nat × Int)) (l : List Int) : List (Nat × Int) :=
  ((List.range l.length).zip l).foldl (fun t e => Tab.put (e.1 + 1) e.2 t) old

/-- THERMAL_THROTTLE_EVAL: the thermal duties by the dies' temperatures in the order of R496 and the packages' in the order of R107,
in 0.1 °C, wherever a rail is powered (R7, R107, R496, R568). -/
def execThermalThrottleEval (dieTemps packageTemps : List Int) (s : State) : Out :=
  .next (if s.pw.on then
    let dt := takeTemps s.pw.dieTemp (dieTemps.take 14)
    let pt := takeTemps s.pw.pkgTemp (packageTemps.take (if s.fuse.grade = 0 then 16 else 8))
    let t := s.nv.throttleTemp
    let die := fun (k : Nat) => Tab.get 0 dt k
    let hot := fun (k : Nat) => max (die (1 + k)) (max (die (5 + 2 * k)) (die (6 + 2 * k)))
    let pkgUp := pt.any fun e => decide (1050 ≤ e.2)
    let pkgDown := pt.all fun e => decide (e.2 < 1030)
    let io := max (die 13) (die 14)
    ({ s with pw := { s.pw with
      dieTemp := dt, pkgTemp := pt
      dutyDie := (List.range 4).map fun k => dutyStep (s.pw.dutyDie.getD k 0) (decide (t ≤ hot k)) (decide (hot k < t - 20))
      dutyGlobal := dutyStep s.pw.dutyGlobal (decide (t ≤ io) || pkgUp) (decide (io < t - 20) && pkgDown) } } : State).throttleSources
  else s)

/-- THROTTLE_FRAME_START: a compute die takes its effective duty for the frame that begins now (R569). -/
def execThrottleFrameStart (die : Nat) (s : State) : Out :=
  .next (if die < 4 ∧ s.pw.compute = 2 ∧ s.pw.railsOff.contains (14 + die) = false then
    let e := max s.pw.duty (max (s.pw.dutyDie.getD die 0) s.pw.dutyGlobal)
    { s with pw := { s.pw with frameE := (die, e, s.now) :: s.pw.frameE.filter (·.1 != die) } }
  else s)

/-- The I/O die that serves a package (R107). -/
def packageDie (n : Nat) : Nat := if (1 ≤ n ∧ n ≤ 4) ∨ (9 ≤ n ∧ n ≤ 12) then 13 else 14

/-- SHUTDOWN_TEMP_REACHED: a die, by its sub-index of R496, or a package at 110 °C: keeper mode with cause 1, and in keeper mode that
die's rails go off too (R7, R526, R528, R571). -/
def execShutdownTempReached (isPackage : Bool) (index celsius : Nat) (s : State) : Out :=
  .next (if isPackage then
    (if 1 ≤ index ∧ index ≤ (if s.fuse.grade = 0 then 16 else 8) then s.enterKeeper 1 (packageDie index) (celsius % 256 + 256 * index) else s)
  else if 1 ≤ index ∧ index ≤ 14 then s.enterKeeper 1 index (celsius % 256) else s)

end Sys2Proof.Machine
end

