-- ==== Sys2Proof/Machine/Scalar.lean ====
section
/-! DEFINITION. C slot: scalar operations (R220, R221), branches (R222), HURDLE and FOLD (R231 to R236), flags (R216). -/

namespace Sys2Proof.Machine

/-- Issue a scalar operation of latency `l` that writes `v` of the core's state at issue into sD (R42, R220). -/
def State.issueScalar (s : State) (n : Nat) (i : Instr) (l : Nat) (d : BitVec 5) (v : Core → BitVec 64) : Out :=
  .next (s.issueOp n i fun t => t.launch n l (.sreg d.toNat (v (t.core n))))

/-- 1 where the condition holds, otherwise 0. -/
def flag64 (b : Bool) : BitVec 64 := if b then 1 else 0

/-- NOP in a slot issues and does nothing (R161). -/
def execNop (core : Nat) (slot : Fin 5) (s : State) : Out := .next (s.issueOp core (.nop core slot) fun t => t)

/-- ADD: A + B modulo 2^64 (R220). -/
def execAdd (core : Nat) (d a b : BitVec 5) (s : State) : Out :=
  s.issueScalar core (.add core d a b) 1 d fun c => c.s a + c.s b

/-- SUB: A − B modulo 2^64 (R220). -/
def execSub (core : Nat) (d a b : BitVec 5) (s : State) : Out :=
  s.issueScalar core (.sub core d a b) 1 d fun c => c.s a - c.s b

/-- AND (R220). -/
def execAnd (core : Nat) (d a b : BitVec 5) (s : State) : Out :=
  s.issueScalar core (.and core d a b) 1 d fun c => c.s a &&& c.s b

/-- OR (R220). -/
def execOr (core : Nat) (d a b : BitVec 5) (s : State) : Out :=
  s.issueScalar core (.or core d a b) 1 d fun c => c.s a ||| c.s b

/-- XOR (R220). -/
def execXor (core : Nat) (d a b : BitVec 5) (s : State) : Out :=
  s.issueScalar core (.xor core d a b) 1 d fun c => c.s a ^^^ c.s b

/-- SHL: A shifted left by B mod 64 (R220). -/
def execShl (core : Nat) (d a b : BitVec 5) (s : State) : Out :=
  s.issueScalar core (.shl core d a b) 1 d fun c => c.s a <<< ((c.s b).toNat % 64)

/-- SHR: A shifted right by B mod 64, zero fill (R220). -/
def execShr (core : Nat) (d a b : BitVec 5) (s : State) : Out :=
  s.issueScalar core (.shr core d a b) 1 d fun c => c.s a >>> ((c.s b).toNat % 64)

/-- SAR: A shifted right by B mod 64, sign fill (R220). -/
def execSar (core : Nat) (d a b : BitVec 5) (s : State) : Out :=
  s.issueScalar core (.sar core d a b) 1 d fun c => (c.s a).sshiftRight ((c.s b).toNat % 64)

/-- CMPEQ (R220). -/
def execCmpeq (core : Nat) (d a b : BitVec 5) (s : State) : Out :=
  s.issueScalar core (.cmpeq core d a b) 1 d fun c => flag64 (c.s a == c.s b)

/-- CMPLT, signed (R220). -/
def execCmplt (core : Nat) (d a b : BitVec 5) (s : State) : Out :=
  s.issueScalar core (.cmplt core d a b) 1 d fun c => flag64 ((c.s a).slt (c.s b))

/-- CMPLTU, unsigned (R220). -/
def execCmpltu (core : Nat) (d a b : BitVec 5) (s : State) : Out :=
  s.issueScalar core (.cmpltu core d a b) 1 d fun c => flag64 ((c.s a).ult (c.s b))

/-- MUL: low 64 bits (R220). -/
def execMul (core : Nat) (d a b : BitVec 5) (s : State) : Out :=
  s.issueScalar core (.mul core d a b) 3 d fun c => c.s a * c.s b

/-- MOV (R220). -/
def execMov (core : Nat) (d a : BitVec 5) (s : State) : Out := s.issueScalar core (.mov core d a) 1 d fun c => c.s a

/-- ADDI: ADD with B the sign-extended immediate (R165, R220). -/
def execAddi (core : Nat) (d a : BitVec 5) (imm : BitVec 32) (s : State) : Out :=
  s.issueScalar core (.addi core d a imm) 1 d fun c => c.s a + imm.signExtend 64

/-- SUBI: SUB with B the sign-extended immediate (R165, R220). -/
def execSubi (core : Nat) (d a : BitVec 5) (imm : BitVec 32) (s : State) : Out :=
  s.issueScalar core (.subi core d a imm) 1 d fun c => c.s a - imm.signExtend 64

/-- ANDI: AND with B the sign-extended immediate (R165, R220). -/
def execAndi (core : Nat) (d a : BitVec 5) (imm : BitVec 32) (s : State) : Out :=
  s.issueScalar core (.andi core d a imm) 1 d fun c => c.s a &&& imm.signExtend 64

/-- ORI: OR with B the sign-extended immediate (R165, R220). -/
def execOri (core : Nat) (d a : BitVec 5) (imm : BitVec 32) (s : State) : Out :=
  s.issueScalar core (.ori core d a imm) 1 d fun c => c.s a ||| imm.signExtend 64

/-- XORI: XOR with B the sign-extended immediate (R165, R220). -/
def execXori (core : Nat) (d a : BitVec 5) (imm : BitVec 32) (s : State) : Out :=
  s.issueScalar core (.xori core d a imm) 1 d fun c => c.s a ^^^ imm.signExtend 64

/-- SHLI: SHL with B the sign-extended immediate (R165, R220). -/
def execShli (core : Nat) (d a : BitVec 5) (imm : BitVec 32) (s : State) : Out :=
  s.issueScalar core (.shli core d a imm) 1 d fun c => c.s a <<< ((imm.signExtend 64).toNat % 64)

/-- SHRI: SHR with B the sign-extended immediate (R165, R220). -/
def execShri (core : Nat) (d a : BitVec 5) (imm : BitVec 32) (s : State) : Out :=
  s.issueScalar core (.shri core d a imm) 1 d fun c => c.s a >>> ((imm.signExtend 64).toNat % 64)

/-- SARI: SAR with B the sign-extended immediate (R165, R220). -/
def execSari (core : Nat) (d a : BitVec 5) (imm : BitVec 32) (s : State) : Out :=
  s.issueScalar core (.sari core d a imm) 1 d fun c => (c.s a).sshiftRight ((imm.signExtend 64).toNat % 64)

/-- CMPEQI: CMPEQ with B the sign-extended immediate (R165, R220). -/
def execCmpeqi (core : Nat) (d a : BitVec 5) (imm : BitVec 32) (s : State) : Out :=
  s.issueScalar core (.cmpeqi core d a imm) 1 d fun c => flag64 (c.s a == imm.signExtend 64)

/-- CMPLTI: CMPLT with B the sign-extended immediate (R165, R220). -/
def execCmplti (core : Nat) (d a : BitVec 5) (imm : BitVec 32) (s : State) : Out :=
  s.issueScalar core (.cmplti core d a imm) 1 d fun c => flag64 ((c.s a).slt (imm.signExtend 64))

/-- CMPLTUI: CMPLTU with B the sign-extended immediate (R165, R220). -/
def execCmpltui (core : Nat) (d a : BitVec 5) (imm : BitVec 32) (s : State) : Out :=
  s.issueScalar core (.cmpltui core d a imm) 1 d fun c => flag64 ((c.s a).ult (imm.signExtend 64))

/-- MULI: MUL with B the sign-extended immediate (R165, R220). -/
def execMuli (core : Nat) (d a : BitVec 5) (imm : BitVec 32) (s : State) : Out :=
  s.issueScalar core (.muli core d a imm) 3 d fun c => c.s a * imm.signExtend 64

/-- LI: the sign-extended immediate (R220). -/
def execLi (core : Nat) (d : BitVec 5) (imm : BitVec 32) (s : State) : Out :=
  s.issueScalar core (.li core d imm) 1 d fun _ => imm.signExtend 64

/-- LIH: the immediate above the low half of A (R220). -/
def execLih (core : Nat) (d a : BitVec 5) (imm : BitVec 32) (s : State) : Out :=
  s.issueScalar core (.lih core d a imm) 1 d fun c => imm ++ (c.s a).extractLsb' 0 32

/-- RDTALLY: the core's tally at issue (R221). -/
def execRdtally (core : Nat) (d : BitVec 5) (s : State) : Out :=
  s.issueScalar core (.rdtally core d) 1 d fun c => BitVec.ofNat 64 (c.tally % 2 ^ 48)

/-- FLGRD: the sticky flags after the landings of the issue cycle (R216, R217). -/
def execFlgrd (core : Nat) (d : BitVec 5) (s : State) : Out := s.issueScalar core (.flgrd core d) 1 d Core.flagWord

/-- FLGCLR clears all five flags in the next live cycle, before that cycle's landings (R216, R217). -/
def execFlgclr (core : Nat) (s : State) : Out :=
  .next (s.issueOp core (.flgclr core) fun t => t.launch core 1 .flagClear)

/-- Address of the due bundle. -/
def Core.dueAddr (c : Core) : Nat := match c.queue with | (a, _) :: _ => a | [] => c.pc

/-- Target of a branch (R165, R222). -/
def branchTarget (a : Nat) (off : BitVec 19) : Nat := baseOff (BitVec.ofNat 64 a) off.toInt 32

/-- A branch issues: its shadow runs, and its two target lines are read in the next two live cycles, taken or not, which are bank uses
of the branch (R45, R83, R84, R222, R232). -/
def State.branchAt (s : State) (n : Nat) (off : BitVec 19) (taken : Bool) : State :=
  let t := branchTarget (s.core n).dueAddr off
  ((s.modCore n fun c => { c with shadow := some { left := 5, taken, target := t }, target := [] }).launch n 1
    (.targetFetch (t / 64))).launch n 2 (.targetFetch (t / 64 + 1))

/-- Issue a branch that tests sA. -/
def State.issueBranch (s : State) (n : Nat) (i : Instr) (off : BitVec 19) (cond : Core → Bool) : State :=
  s.issueOp n i fun t => t.branchAt n off (cond (t.core n))

/-- BR: always taken (R222). -/
def execBr (core : Nat) (off : BitVec 19) (s : State) : Out := .next (s.issueBranch core (.br core off) off fun _ => true)
/-- BEQZ: taken when sA = 0 (R222). -/
def execBeqz (core : Nat) (a : BitVec 5) (off : BitVec 19) (s : State) : Out :=
  .next (s.issueBranch core (.beqz core a off) off fun c => c.s a == 0)
/-- BNEZ: taken when sA ≠ 0 (R222). -/
def execBnez (core : Nat) (a : BitVec 5) (off : BitVec 19) (s : State) : Out :=
  .next (s.issueBranch core (.bnez core a off) off fun c => c.s a != 0)
/-- BLTZ: taken when sA < 0, signed (R222). -/
def execBltz (core : Nat) (a : BitVec 5) (off : BitVec 19) (s : State) : Out :=
  .next (s.issueBranch core (.bltz core a off) off fun c => (c.s a).msb)
/-- BGEZ: taken when sA ≥ 0, signed (R222). -/
def execBgez (core : Nat) (a : BitVec 5) (off : BitVec 19) (s : State) : Out :=
  .next (s.issueBranch core (.bgez core a off) off fun c => !(c.s a).msb)
/-- BDEC: taken when sA − 1 ≠ 0; sA − 1 lands in sA (R222). -/
def execBdec (core : Nat) (a : BitVec 5) (off : BitVec 19) (s : State) : Out :=
  .next (s.issueOp core (.bdec core a off) fun t =>
    let v := (t.core core).s a - 1
    (t.branchAt core off (v != 0)).launch core 1 (.sreg a.toNat v))

/-- HURDLE: separates the accesses of its classes into before and after sets (R231 to R234). -/
def execHurdle (core : Nat) (classes : BitVec 5) (s : State) : Out :=
  .next (s.issueOp core (.hurdle core classes) fun t => t.hurdleAt core classes.toNat false)

/-- FOLD: a HURDLE of classes 0 to 3; its arrival follows when the wait is over (R235). -/
def execFold (core : Nat) (index : BitVec 10) (s : State) : Out :=
  .next (s.issueOp core (.fold core index) fun t =>
    (t.hurdleAt core 15 true).modCore core fun c => { c with foldIssued := true })

end Sys2Proof.Machine
end

