-- ==== Sys2Proof/Machine/Dispatch.lean ====
section
/-! DEFINITION. One arm per command: a direct call of its meaning. -/

namespace Sys2Proof.Machine

/-- The effect of a command on everything but the queue. -/
def exec (i : Instr) (s : State) : Host.Outcome State Fault Refusal :=
  match i with
  | .nop core slot => Sys2Proof.Machine.execNop core slot s
  | .add core d a b => Sys2Proof.Machine.execAdd core d a b s
  | .sub core d a b => Sys2Proof.Machine.execSub core d a b s
  | .and core d a b => Sys2Proof.Machine.execAnd core d a b s
  | .or core d a b => Sys2Proof.Machine.execOr core d a b s
  | .xor core d a b => Sys2Proof.Machine.execXor core d a b s
  | .shl core d a b => Sys2Proof.Machine.execShl core d a b s
  | .shr core d a b => Sys2Proof.Machine.execShr core d a b s
  | .sar core d a b => Sys2Proof.Machine.execSar core d a b s
  | .cmpeq core d a b => Sys2Proof.Machine.execCmpeq core d a b s
  | .cmplt core d a b => Sys2Proof.Machine.execCmplt core d a b s
  | .cmpltu core d a b => Sys2Proof.Machine.execCmpltu core d a b s
  | .mul core d a b => Sys2Proof.Machine.execMul core d a b s
  | .mov core d a => Sys2Proof.Machine.execMov core d a s
  | .addi core d a imm => Sys2Proof.Machine.execAddi core d a imm s
  | .subi core d a imm => Sys2Proof.Machine.execSubi core d a imm s
  | .andi core d a imm => Sys2Proof.Machine.execAndi core d a imm s
  | .ori core d a imm => Sys2Proof.Machine.execOri core d a imm s
  | .xori core d a imm => Sys2Proof.Machine.execXori core d a imm s
  | .shli core d a imm => Sys2Proof.Machine.execShli core d a imm s
  | .shri core d a imm => Sys2Proof.Machine.execShri core d a imm s
  | .sari core d a imm => Sys2Proof.Machine.execSari core d a imm s
  | .cmpeqi core d a imm => Sys2Proof.Machine.execCmpeqi core d a imm s
  | .cmplti core d a imm => Sys2Proof.Machine.execCmplti core d a imm s
  | .cmpltui core d a imm => Sys2Proof.Machine.execCmpltui core d a imm s
  | .muli core d a imm => Sys2Proof.Machine.execMuli core d a imm s
  | .li core d imm => Sys2Proof.Machine.execLi core d imm s
  | .lih core d a imm => Sys2Proof.Machine.execLih core d a imm s
  | .br core off => Sys2Proof.Machine.execBr core off s
  | .beqz core a off => Sys2Proof.Machine.execBeqz core a off s
  | .bnez core a off => Sys2Proof.Machine.execBnez core a off s
  | .bltz core a off => Sys2Proof.Machine.execBltz core a off s
  | .bgez core a off => Sys2Proof.Machine.execBgez core a off s
  | .bdec core a off => Sys2Proof.Machine.execBdec core a off s
  | .hurdle core classes => Sys2Proof.Machine.execHurdle core classes s
  | .fold core index => Sys2Proof.Machine.execFold core index s
  | .rdtally core d => Sys2Proof.Machine.execRdtally core d s
  | .flgrd core d => Sys2Proof.Machine.execFlgrd core d s
  | .flgclr core => Sys2Proof.Machine.execFlgclr core s
  | .lds core rel d ea => Sys2Proof.Machine.execLds core rel d ea s
  | .ldv core rel d ea => Sys2Proof.Machine.execLdv core rel d ea s
  | .stv core v ea => Sys2Proof.Machine.execStv core v ea s
  | .mxload core rel fmt wt ea => Sys2Proof.Machine.execMxload core rel fmt wt ea s
  | .kvapp core v kvs => Sys2Proof.Machine.execKvapp core v kvs s
  | .kvcommit core a kvs => Sys2Proof.Machine.execKvcommit core a kvs s
  | .kvdrop core kvs => Sys2Proof.Machine.execKvdrop core kvs s
  | .mxstream core wt afmt rel acc cnt line => Sys2Proof.Machine.execMxstream core wt afmt rel acc cnt line s
  | .accout core acc cnt ofmt d => Sys2Proof.Machine.execAccout core acc cnt ofmt d s
  | .accclr core acc cnt ws wb sw => Sys2Proof.Machine.execAccclr core acc cnt ws wb sw s
  | .vfma core d a b c fmt => Sys2Proof.Machine.execVfma core d a b c fmt s
  | .vadd core d a b fmt => Sys2Proof.Machine.execVadd core d a b fmt s
  | .vsub core d a b fmt => Sys2Proof.Machine.execVsub core d a b fmt s
  | .vmul core d a b fmt => Sys2Proof.Machine.execVmul core d a b fmt s
  | .vmax core d a b fmt => Sys2Proof.Machine.execVmax core d a b fmt s
  | .vmin core d a b fmt => Sys2Proof.Machine.execVmin core d a b fmt s
  | .vcmp core d a b fmt sub => Sys2Proof.Machine.execVcmp core d a b fmt sub s
  | .vsel core d a b c => Sys2Proof.Machine.execVsel core d a b c s
  | .vand core d a b => Sys2Proof.Machine.execVand core d a b s
  | .vor core d a b => Sys2Proof.Machine.execVor core d a b s
  | .vxor core d a b => Sys2Proof.Machine.execVxor core d a b s
  | .viadd core d a b sub => Sys2Proof.Machine.execViadd core d a b sub s
  | .visub core d a b sub => Sys2Proof.Machine.execVisub core d a b sub s
  | .vimul core d a b sub => Sys2Proof.Machine.execVimul core d a b sub s
  | .vshl core d a b sub => Sys2Proof.Machine.execVshl core d a b sub s
  | .vshr core d a b sub => Sys2Proof.Machine.execVshr core d a b sub s
  | .vsar core d a b sub => Sys2Proof.Machine.execVsar core d a b sub s
  | .vcvt core d a dr sfmt dfmt sr => Sys2Proof.Machine.execVcvt core d a dr sfmt dfmt sr s
  | .vred core d a fmt sub => Sys2Proof.Machine.execVred core d a fmt sub s
  | .vtr core d a fmt sub => Sys2Proof.Machine.execVtr core d a fmt sub s
  | .gemv core wfmt afmt a acc cg beats rel line => Sys2Proof.Machine.execGemv core wfmt afmt a acc cg beats rel line s
  | .lswadd core a acc g => Sys2Proof.Machine.execLswadd core a acc g s
  | .rngfill core d seed idx => Sys2Proof.Machine.execRngfill core d seed idx s
  | .vbcast core d a fmt => Sys2Proof.Machine.execVbcast core d a fmt s
  | .send core v flow => Sys2Proof.Machine.execSend core v flow s
  | .recv core d rel line => Sys2Proof.Machine.execRecv core d rel line s
  | .lswsend core acc flow => Sys2Proof.Machine.execLswsend core acc flow s
  | .strayw core v t len msk m => Sys2Proof.Machine.execStrayw core v t len msk m s
  | .straya core v t aop w p => Sys2Proof.Machine.execStraya core v t aop w p s
  | .resultLands core => Sys2Proof.Machine.execResultLands core s
  | .tileReady core buf => Sys2Proof.Machine.execTileReady core buf s
  | .holdRequest core cause => Sys2Proof.Machine.execHoldRequest core cause s
  | .holdEnd core cause => Sys2Proof.Machine.execHoldEnd core cause s
  | .stepBegin core => Sys2Proof.Machine.execStepBegin core s
  | .stepReportReceive core flow receiver tally => Sys2Proof.Machine.execStepReportReceive core flow receiver tally s
  | .fetchRead core => Sys2Proof.Machine.execFetchRead core s
  | .runaheadRead core line => Sys2Proof.Machine.execRunaheadRead core line s
  | .streamerRequest slot entry k => Sys2Proof.Machine.execStreamerRequest slot entry k s
  | .streamerLanding slot core line epoch => Sys2Proof.Machine.execStreamerLanding slot core line epoch s
  | .inboundLineWrite core bank => Sys2Proof.Machine.execInboundLineWrite core bank s
  | .eccWriteback core => Sys2Proof.Machine.execEccWriteback core s
  | .sramPatrolScrub core => Sys2Proof.Machine.execSramPatrolScrub core s
  | .hostAccessWaitHold core => Sys2Proof.Machine.execHostAccessWaitHold core s
  | .bankConflictOverrun core => Sys2Proof.Machine.execBankConflictOverrun core s
  | .tierRefresh channel rank bank => Sys2Proof.Machine.execTierRefresh channel rank bank s
  | .tierEccBlockEvict channel => Sys2Proof.Machine.execTierEccBlockEvict channel s
  | .tierPatrolScrub => Sys2Proof.Machine.execTierPatrolScrub s
  | .droveFlitDepart out => Sys2Proof.Machine.execDroveFlitDepart out s
  | .droveFlitArrive input => Sys2Proof.Machine.execDroveFlitArrive input s
  | .positionDue out => Sys2Proof.Machine.execPositionDue out s
  | .holdFlitArrive input cause step pos omod osite => Sys2Proof.Machine.execHoldFlitArrive input cause step pos omod osite s
  | .holdFlitDepart out => Sys2Proof.Machine.execHoldFlitDepart out s
  | .portHoldGenerate port => Sys2Proof.Machine.execPortHoldGenerate port s
  | .droveStall core flow => Sys2Proof.Machine.execDroveStall core flow s
  | .foldArrivalSend core => Sys2Proof.Machine.execFoldArrivalSend core s
  | .foldArrivalComplete => Sys2Proof.Machine.execFoldArrivalComplete s
  | .foldUpReceive port m => Sys2Proof.Machine.execFoldUpReceive port m s
  | .foldDownReceive port m => Sys2Proof.Machine.execFoldDownReceive port m s
  | .foldOutcomeReachCore core => Sys2Proof.Machine.execFoldOutcomeReachCore core s
  | .foldTimeout => Sys2Proof.Machine.execFoldTimeout s
  | .strayRoute node => Sys2Proof.Machine.execStrayRoute node s
  | .strayAgeTick packet => Sys2Proof.Machine.execStrayAgeTick packet s
  | .strayEject core => Sys2Proof.Machine.execStrayEject core s
  | .strayRequestPerform core => Sys2Proof.Machine.execStrayRequestPerform core s
  | .strayResponseLand dest => Sys2Proof.Machine.execStrayResponseLand dest s
  | .strayResponseTimeout source rtag => Sys2Proof.Machine.execStrayResponseTimeout source rtag s
  | .codewordReceive port errorLanes => Sys2Proof.Machine.execCodewordReceive port errorLanes s
  | .codewordLockLoss port => Sys2Proof.Machine.execCodewordLockLoss port s
  | .flitTimeTransmit port => Sys2Proof.Machine.execFlitTimeTransmit port s
  | .sequencedFlitReceive port raw => Sys2Proof.Machine.execSequencedFlitReceive port raw s
  | .ackReceive port ackseq retry nakid => Sys2Proof.Machine.execAckReceive port ackseq retry nakid s
  | .creditReceive port dfree req rsp ereq ersp => Sys2Proof.Machine.execCreditReceive port dfree req rsp ereq ersp s
  | .stepMessageReceive port tally => Sys2Proof.Machine.execStepMessageReceive port tally s
  | .ackTimeout port => Sys2Proof.Machine.execAckTimeout port s
  | .replayRetryLimit port => Sys2Proof.Machine.execReplayRetryLimit port s
  | .switchReceive port mask cw => Sys2Proof.Machine.execSwitchReceive port mask cw s
  | .laneSwitchEffect port => Sys2Proof.Machine.execLaneSwitchEffect port s
  | .addReqReceive port mask => Sys2Proof.Machine.execAddReqReceive port mask s
  | .withdrawReceive port => Sys2Proof.Machine.execWithdrawReceive port s
  | .retrainReqReceive port => Sys2Proof.Machine.execRetrainReqReceive port s
  | .laneDropThreshold port lane => Sys2Proof.Machine.execLaneDropThreshold port lane s
  | .laneAddLocked port => Sys2Proof.Machine.execLaneAddLocked port s
  | .laneAddTimeout port => Sys2Proof.Machine.execLaneAddTimeout port s
  | .laneAddRetry port lane => Sys2Proof.Machine.execLaneAddRetry port lane s
  | .portSignalDetect port => Sys2Proof.Machine.execPortSignalDetect port s
  | .equalizeEnd port rxSet peerSet => Sys2Proof.Machine.execEqualizeEnd port rxSet peerSet s
  | .trainFlitReceive port payload => Sys2Proof.Machine.execTrainFlitReceive port payload s
  | .lockTimeout port => Sys2Proof.Machine.execLockTimeout port s
  | .sealHelloSend port => Sys2Proof.Machine.execSealHelloSend port s
  | .sealHelloReceive port payload => Sys2Proof.Machine.execSealHelloReceive port payload s
  | .sealProofReceive port payload => Sys2Proof.Machine.execSealProofReceive port payload s
  | .sealTimeout port => Sys2Proof.Machine.execSealTimeout port s
  | .retrainRelock port rxSet peerSet => Sys2Proof.Machine.execRetrainRelock port rxSet peerSet s
  | .retrainTimeout port => Sys2Proof.Machine.execRetrainTimeout port s
  | .linkResetReceive port reason => Sys2Proof.Machine.execLinkResetReceive port reason s
  | .discoveryProbeSend port => Sys2Proof.Machine.execDiscoveryProbeSend port s
  | .discoveryProbeReceive port payload stamp => Sys2Proof.Machine.execDiscoveryProbeReceive port payload stamp s
  | .discoveryReplyReceive port payload stamp => Sys2Proof.Machine.execDiscoveryReplyReceive port payload stamp s
  | .portClassify port => Sys2Proof.Machine.execPortClassify port s
  | .musterRecordReceive port payload => Sys2Proof.Machine.execMusterRecordReceive port payload s
  | .musterReadyReceive port payload => Sys2Proof.Machine.execMusterReadyReceive port payload s
  | .musterFailReceive port payload => Sys2Proof.Machine.execMusterFailReceive port payload s
  | .musterRepeat => Sys2Proof.Machine.execMusterRepeat s
  | .musterTimeout => Sys2Proof.Machine.execMusterTimeout s
  | .syncEdge count stamp => Sys2Proof.Machine.execSyncEdge count stamp s
  | .rackrefLoss => Sys2Proof.Machine.execRackrefLoss s
  | .syncArm ts => Sys2Proof.Machine.execSyncArm ts s
  | .netAtEdge => Sys2Proof.Machine.execNetAtEdge s
  | .netNow => Sys2Proof.Machine.execNetNow s
  | .rejoin => Sys2Proof.Machine.execRejoin s
  | .coast => Sys2Proof.Machine.execCoast s
  | .refAtEdge => Sys2Proof.Machine.execRefAtEdge s
  | .timeRequestSend => Sys2Proof.Machine.execTimeRequestSend s
  | .timeRequestReceive port payload stamp => Sys2Proof.Machine.execTimeRequestReceive port payload stamp s
  | .timeReplyReceive port payload stamp => Sys2Proof.Machine.execTimeReplyReceive port payload stamp s
  | .slewEnd => Sys2Proof.Machine.execSlewEnd s
  | .timeParentLost => Sys2Proof.Machine.execTimeParentLost s
  | .load slot => Sys2Proof.Machine.execLoad slot s
  | .unload slot => Sys2Proof.Machine.execUnload slot s
  | .muster slot => Sys2Proof.Machine.execMuster slot s
  | .abort slot => Sys2Proof.Machine.execAbort slot s
  | .kill slot => Sys2Proof.Machine.execKill slot s
  | .shardAttemptEnd slot shard fetched => Sys2Proof.Machine.execShardAttemptEnd slot shard fetched s
  | .shardFetchTimeout slot shard => Sys2Proof.Machine.execShardFetchTimeout slot shard s
  | .unloadComplete slot => Sys2Proof.Machine.execUnloadComplete slot s
  | .kvReset slot kvs core reserved toff => Sys2Proof.Machine.execKvReset slot kvs core reserved toff s
  | .kvSpill slot kvs core reserved toff => Sys2Proof.Machine.execKvSpill slot kvs core reserved toff s
  | .hostWindowWrite port offset data => Sys2Proof.Machine.execHostWindowWrite port offset data s
  | .hostWindowRead port offset length => Sys2Proof.Machine.execHostWindowRead port offset length s
  | .ringEnable port ring => Sys2Proof.Machine.execRingEnable port ring s
  | .ringDisable port ring => Sys2Proof.Machine.execRingDisable port ring s
  | .sqTail port ring value => Sys2Proof.Machine.execSqTail port ring value s
  | .tailLineSnoop port ring value => Sys2Proof.Machine.execTailLineSnoop port ring value s
  | .descriptorStart port ring => Sys2Proof.Machine.execDescriptorStart port ring s
  | .h2d port ring index data => Sys2Proof.Machine.execH2d port ring index data s
  | .d2h port ring index => Sys2Proof.Machine.execD2h port ring index s
  | .zero port ring index => Sys2Proof.Machine.execZero port ring index s
  | .tierRelease port ring index => Sys2Proof.Machine.execTierRelease port ring index s
  | .descNop port ring index => Sys2Proof.Machine.execDescNop port ring index s
  | .descriptorComplete port ring index => Sys2Proof.Machine.execDescriptorComplete port ring index s
  | .cxlMemRead port ta keep => Sys2Proof.Machine.execCxlMemRead port ta keep s
  | .cxlMemWrite port ta data poison => Sys2Proof.Machine.execCxlMemWrite port ta data poison s
  | .bisnpinvResponse port line writeback => Sys2Proof.Machine.execBisnpinvResponse port line writeback s
  | .hdmCommit port => Sys2Proof.Machine.execHdmCommit port s
  | .cxlLinkDown port => Sys2Proof.Machine.execCxlLinkDown port s
  | .functionLevelReset port => Sys2Proof.Machine.execFunctionLevelReset port s
  | .perstAssert port => Sys2Proof.Machine.execPerstAssert port s
  | .ideStreamInsecure port stream => Sys2Proof.Machine.execIdeStreamInsecure port stream s
  | .getEventRecords port log => Sys2Proof.Machine.execGetEventRecords port log s
  | .clearEventRecords port log all handles => Sys2Proof.Machine.execClearEventRecords port log all handles s
  | .getEventInterruptPolicy port => Sys2Proof.Machine.execGetEventInterruptPolicy port s
  | .setEventInterruptPolicy port policy => Sys2Proof.Machine.execSetEventInterruptPolicy port policy s
  | .getSupportedLogs port => Sys2Proof.Machine.execGetSupportedLogs port s
  | .getLog port offset length => Sys2Proof.Machine.execGetLog port offset length s
  | .identifyMemoryDevice port => Sys2Proof.Machine.execIdentifyMemoryDevice port s
  | .getTimestamp port => Sys2Proof.Machine.execGetTimestamp port s
  | .setTimestamp port value => Sys2Proof.Machine.execSetTimestamp port value s
  | .dictRead port payload => Sys2Proof.Machine.execDictRead port payload s
  | .dictWrite port payload => Sys2Proof.Machine.execDictWrite port payload s
  | .doeDiscovery port index => Sys2Proof.Machine.execDoeDiscovery port index s
  | .cdatRead port entry => Sys2Proof.Machine.execCdatRead port entry s
  | .getVersion port => Sys2Proof.Machine.execGetVersion port s
  | .getCapabilities port request => Sys2Proof.Machine.execGetCapabilities port request s
  | .negotiateAlgorithms port request => Sys2Proof.Machine.execNegotiateAlgorithms port request s
  | .getDigests port request => Sys2Proof.Machine.execGetDigests port request s
  | .getCertificate port certSlot offset length request => Sys2Proof.Machine.execGetCertificate port certSlot offset length request s
  | .challenge port certSlot request => Sys2Proof.Machine.execChallenge port certSlot request s
  | .getMeasurements port index sign request => Sys2Proof.Machine.execGetMeasurements port index sign request s
  | .keyExchange port request => Sys2Proof.Machine.execKeyExchange port request s
  | .finish port session verified => Sys2Proof.Machine.execFinish port session verified s
  | .endSession port session => Sys2Proof.Machine.execEndSession port session s
  | .jendyRead pdu => Sys2Proof.Machine.execJendyRead pdu s
  | .jendyWrite pdu => Sys2Proof.Machine.execJendyWrite pdu s
  | .identify pdu => Sys2Proof.Machine.execIdentify pdu s
  | .registerWrite target data => Sys2Proof.Machine.execRegisterWrite target data s
  | .portEn port value => Sys2Proof.Machine.execPortEn port value s
  | .sramScrubEn value => Sys2Proof.Machine.execSramScrubEn value s
  | .tierScrubEn value => Sys2Proof.Machine.execTierScrubEn value s
  | .computeEn value => Sys2Proof.Machine.execComputeEn value s
  | .functionStartComplete f => Sys2Proof.Machine.execFunctionStartComplete f s
  | .functionShutdownComplete f => Sys2Proof.Machine.execFunctionShutdownComplete f s
  | .portCmdRetrain port => Sys2Proof.Machine.execPortCmdRetrain port s
  | .portCmdReset port => Sys2Proof.Machine.execPortCmdReset port s
  | .moduleReset value => Sys2Proof.Machine.execModuleReset value s
  | .keeperEnter value => Sys2Proof.Machine.execKeeperEnter value s
  | .zeroize value => Sys2Proof.Machine.execZeroize value s
  | .stage => Sys2Proof.Machine.execStage s
  | .select => Sys2Proof.Machine.execSelect s
  | .fwStageComplete image => Sys2Proof.Machine.execFwStageComplete image s
  | .eventAssert die source => Sys2Proof.Machine.execEventAssert die source s
  | .pendWrite die bank value => Sys2Proof.Machine.execPendWrite die bank value s
  | .pendW1cWrite die bank value => Sys2Proof.Machine.execPendW1cWrite die bank value s
  | .maskWrite die bank value => Sys2Proof.Machine.execMaskWrite die bank value s
  | .stormClear die bank value => Sys2Proof.Machine.execStormClear die bank value s
  | .stuckClear die bank value => Sys2Proof.Machine.execStuckClear die bank value s
  | .srcCfgWrite die source value => Sys2Proof.Machine.execSrcCfgWrite die source value s
  | .stuckLimitExpire die source => Sys2Proof.Machine.execStuckLimitExpire die source s
  | .mcWatchdogExpire => Sys2Proof.Machine.execMcWatchdogExpire s
  | .entropyHealthFail iod => Sys2Proof.Machine.execEntropyHealthFail iod s
  | .tamperBreach => Sys2Proof.Machine.execTamperBreach s
  | .powerOn => Sys2Proof.Machine.execPowerOn s
  | .startupStepComplete failure => Sys2Proof.Machine.execStartupStepComplete failure s
  | .vinOutOfRange => Sys2Proof.Machine.execVinOutOfRange s
  | .vinRangeTimeout volts => Sys2Proof.Machine.execVinRangeTimeout volts s
  | .powerFail => Sys2Proof.Machine.execPowerFail s
  | .powerFailRecovery => Sys2Proof.Machine.execPowerFailRecovery s
  | .vinBelow36 => Sys2Proof.Machine.execVinBelow36 s
  | .inputDisconnect => Sys2Proof.Machine.execInputDisconnect s
  | .inputReconnect => Sys2Proof.Machine.execInputReconnect s
  | .railOutOfRegulation rail => Sys2Proof.Machine.execRailOutOfRegulation rail s
  | .pllLossOfLock pll => Sys2Proof.Machine.execPllLossOfLock pll s
  | .mrstAssert => Sys2Proof.Machine.execMrstAssert s
  | .mrstDeassert => Sys2Proof.Machine.execMrstDeassert s
  | .powerThrottleEval watts => Sys2Proof.Machine.execPowerThrottleEval watts s
  | .powerFastCheck watts => Sys2Proof.Machine.execPowerFastCheck watts s
  | .thermalThrottleEval dieTemps packageTemps => Sys2Proof.Machine.execThermalThrottleEval dieTemps packageTemps s
  | .throttleFrameStart die => Sys2Proof.Machine.execThrottleFrameStart die s
  | .shutdownTempReached isPackage index celsius => Sys2Proof.Machine.execShutdownTempReached isPackage index celsius s
  | .sealProofRepeat port => Sys2Proof.Machine.execSealProofRepeat port s
  | .perstDeassert port => Sys2Proof.Machine.execPerstDeassert port s
  | .cxlLinkUp port width rate flit256 => Sys2Proof.Machine.execCxlLinkUp port width rate flit256 s
  | .ideKmRequest port stream => Sys2Proof.Machine.execIdeKmRequest port stream s
  | .hostReadCompletion what data => Sys2Proof.Machine.execHostReadCompletion what data s
  | .vinReturnToRange => Sys2Proof.Machine.execVinReturnToRange s
  | .resetDrainNullSupply port => Sys2Proof.Machine.execResetDrainNullSupply port s
  | .uioRequestReceive port => Sys2Proof.Machine.execUioRequestReceive port s

end Sys2Proof.Machine
end

