-- ==== Sys2Proof/WellFormed.lean ====
section
/-! DEFINITION. Well-formed commands: every number names something the module has (cores R1, ports R310, slots R18, CXL
ports R435, channels R107, event sources R503, banks R508) and every core operation has an encoding (R177). -/

namespace Sys2Proof

/-- The core that a core operation or core event names. -/
def Instr.coreOf : Instr → Option Nat
  | .nop n _ | .add n _ _ _ | .sub n _ _ _ | .and n _ _ _ | .or n _ _ _ | .xor n _ _ _ | .shl n _ _ _ | .shr n _ _ _
  | .sar n _ _ _ | .cmpeq n _ _ _ | .cmplt n _ _ _ | .cmpltu n _ _ _ | .mul n _ _ _ | .mov n _ _ | .addi n _ _ _
  | .subi n _ _ _ | .andi n _ _ _ | .ori n _ _ _ | .xori n _ _ _ | .shli n _ _ _ | .shri n _ _ _ | .sari n _ _ _
  | .cmpeqi n _ _ _ | .cmplti n _ _ _ | .cmpltui n _ _ _ | .muli n _ _ _ | .li n _ _ | .lih n _ _ _ | .br n _
  | .beqz n _ _ | .bnez n _ _ | .bltz n _ _ | .bgez n _ _ | .bdec n _ _ | .hurdle n _ | .fold n _ | .rdtally n _
  | .flgrd n _ | .flgclr n | .lds n _ _ _ | .ldv n _ _ _ | .stv n _ _ | .mxload n _ _ _ _ | .kvapp n _ _
  | .kvcommit n _ _ | .kvdrop n _ | .mxstream n _ _ _ _ _ _ | .accout n _ _ _ _ | .accclr n _ _ _ _ _
  | .vfma n _ _ _ _ _ | .vadd n _ _ _ _ | .vsub n _ _ _ _ | .vmul n _ _ _ _ | .vmax n _ _ _ _ | .vmin n _ _ _ _
  | .vcmp n _ _ _ _ _ | .vsel n _ _ _ _ | .vand n _ _ _ | .vor n _ _ _ | .vxor n _ _ _ | .viadd n _ _ _ _
  | .visub n _ _ _ _ | .vimul n _ _ _ _ | .vshl n _ _ _ _ | .vshr n _ _ _ _ | .vsar n _ _ _ _ | .vcvt n _ _ _ _ _ _
  | .vred n _ _ _ _ | .vtr n _ _ _ _ | .gemv n _ _ _ _ _ _ _ _ | .lswadd n _ _ _ | .rngfill n _ _ _ | .vbcast n _ _ _
  | .send n _ _ | .recv n _ _ _ | .lswsend n _ _ | .strayw n _ _ _ _ _ | .straya n _ _ _ _ _
  | .resultLands n | .tileReady n _ | .holdRequest n _ | .holdEnd n _ | .stepBegin n | .stepReportReceive n _ _ _
  | .fetchRead n | .runaheadRead n _ | .streamerLanding _ n _ _ | .inboundLineWrite n _ | .eccWriteback n
  | .sramPatrolScrub n | .hostAccessWaitHold n | .bankConflictOverrun n | .droveStall n _ | .foldArrivalSend n
  | .foldOutcomeReachCore n | .strayEject n | .strayRequestPerform n | .kvReset _ _ n _ _ | .kvSpill _ _ n _ _ => some n
  | _ => none

/-- The fabric port that a command names. -/
def Instr.portOf : Instr → Option Nat
  | .portHoldGenerate p | .foldUpReceive p _ | .foldDownReceive p _ | .codewordReceive p _ | .codewordLockLoss p
  | .flitTimeTransmit p | .sequencedFlitReceive p _ | .ackReceive p _ _ _ | .creditReceive p _ _ _ _ _
  | .stepMessageReceive p _ | .ackTimeout p | .replayRetryLimit p | .switchReceive p _ _ | .laneSwitchEffect p
  | .addReqReceive p _ | .withdrawReceive p | .retrainReqReceive p | .laneDropThreshold p _ | .laneAddLocked p
  | .laneAddTimeout p | .laneAddRetry p _ | .portSignalDetect p | .equalizeEnd p _ _ | .trainFlitReceive p _
  | .lockTimeout p | .sealHelloSend p | .sealHelloReceive p _ | .sealProofReceive p _ | .sealTimeout p
  | .retrainRelock p _ _ | .retrainTimeout p | .linkResetReceive p _ | .discoveryProbeSend p
  | .discoveryProbeReceive p _ _ | .discoveryReplyReceive p _ _ | .portClassify p | .musterRecordReceive p _
  | .musterReadyReceive p _ | .musterFailReceive p _ | .timeRequestReceive p _ _ | .timeReplyReceive p _ _
  | .portEn p _ | .portCmdRetrain p | .portCmdReset p | .functionStartComplete (.port p)
  | .functionShutdownComplete (.port p) | .sealProofRepeat p | .resetDrainNullSupply p => some p
  | _ => none

/-- The context slot that a command names. -/
def Instr.ctxOf : Instr → Option Nat
  | .load k | .unload k | .muster k | .abort k | .kill k | .shardAttemptEnd k _ _ | .shardFetchTimeout k _
  | .unloadComplete k | .kvReset k _ _ _ _ | .kvSpill k _ _ _ _ | .streamerRequest k _ _ | .streamerLanding k _ _ _ => some k
  | _ => none

/-- The CXL port that a command names. -/
def Instr.cxlOf : Instr → Option Nat
  | .hostWindowWrite p _ _ | .hostWindowRead p _ _ | .ringEnable p _ | .ringDisable p _ | .sqTail p _ _
  | .tailLineSnoop p _ _ | .descriptorStart p _ | .h2d p _ _ _ | .d2h p _ _ | .zero p _ _ | .tierRelease p _ _
  | .descNop p _ _ | .descriptorComplete p _ _ | .cxlMemRead p _ _ | .cxlMemWrite p _ _ _ | .bisnpinvResponse p _ _
  | .hdmCommit p | .cxlLinkDown p | .functionLevelReset p | .perstAssert p | .ideStreamInsecure p _
  | .getEventRecords p _ | .clearEventRecords p _ _ _ | .getEventInterruptPolicy p | .setEventInterruptPolicy p _
  | .getSupportedLogs p | .getLog p _ _ | .identifyMemoryDevice p | .getTimestamp p | .setTimestamp p _ | .dictRead p _
  | .dictWrite p _ | .doeDiscovery p _ | .cdatRead p _ | .getVersion p | .getCapabilities p _ | .negotiateAlgorithms p _
  | .getDigests p _ | .getCertificate p _ _ _ _ | .challenge p _ _ | .getMeasurements p _ _ _ | .keyExchange p _
  | .finish p _ _ | .endSession p _ | .perstDeassert p | .cxlLinkUp p _ _ _ | .ideKmRequest p _
  | .uioRequestReceive p | .registerWrite (.bar0 p _ _) _ | .registerWrite (.func p _) _ | .registerWrite (.bar0Read p _ _) _
  | .registerWrite (.funcRead p _) _ => some p
  | _ => none

/-- The I/O die that a command names. -/
def Instr.dieIdOf : Instr → Option Nat
  | .eventAssert d _ | .pendWrite d _ _ | .pendW1cWrite d _ _ | .maskWrite d _ _ | .stormClear d _ _ | .stuckClear d _ _
  | .srcCfgWrite d _ _ | .stuckLimitExpire d _ | .entropyHealthFail d => some d
  | _ => none

/-- The remaining operands are in range: sources 0 to 1,023 and banks 0 to 15 (R508), hold causes 1 to 9 (R24), SRAM banks and
lines (R81), channels, ranks and banks of the tier (R107), rings 0 to 15 (R445), lanes 0 to 3 (R311). -/
def Instr.rangesOk : Instr → Bool
  | .eventAssert _ k | .srcCfgWrite _ k _ | .stuckLimitExpire _ k => k < 1024
  | .pendWrite _ b _ | .pendW1cWrite _ b _ | .maskWrite _ b _ | .stormClear _ b _ | .stuckClear _ b _ => b < 16
  | .holdRequest _ k | .holdEnd _ k => 1 ≤ k && k ≤ 9
  | .inboundLineWrite _ b => b < 8
  | .runaheadRead _ l | .streamerLanding _ _ l _ => l < 98304
  | .tierRefresh c r b => c < 64 && r < 2 && b < 16
  | .tierEccBlockEvict c => c < 64
  | .ringEnable _ r | .ringDisable _ r | .sqTail _ r _ | .tailLineSnoop _ r _ | .descriptorStart _ r | .h2d _ r _ _
  | .d2h _ r _ | .zero _ r _ | .tierRelease _ r _ | .descNop _ r _ | .descriptorComplete _ r _ => r < 16
  | .laneDropThreshold _ l | .laneAddRetry _ l => l < 4
  | .throttleFrameStart d => d < 4
  | _ => true

/-- The number a command names, if any, is below a bound. -/
def below (b : Nat) : Option Nat → Bool
  | some n => n < b
  | none => true

/-- A well-formed command. -/
def Instr.wf (i : Instr) : Bool :=
  below 2048 i.coreOf && below 32 i.portOf && below 4 i.ctxOf && below 2 i.cxlOf && below 2 i.dieIdOf && i.rangesOk && opValid i

end Sys2Proof
end

