-- ==== Sys2Proof/Certificates/Slice0/Obligations.lean ====
section
/-! DEFINITION. The statements about the model, for the provers: `def Obligations.<Name> : Prop`, with the vocabulary they share. -/

namespace Sys2Proof.Spec
open Sys2Proof.Machine

/-! Vocabulary of the bundle operations (R41 to R44, R83). -/

/-- The operation issues now: it is of the due bundle, which has passed its checks, the core runs unheld, and nothing else is due in
this live cycle. -/
abbrev Issues (s : State) (n : Nat) (i : Instr) : Prop := s.canIssue n i = true ∧ (s.core n).dueNow = []

/-- The core after an issue: the slot has issued, units are busy, results are due, events are in flight, bank use is noted. -/
def booked (c : Core) (slot : Nat) (units : List (Nat × Nat)) (res : List (Nat × Nat × Nat)) (fl : List (Nat × Act)) : Core :=
  { c with
    issued := slot :: c.issued
    busy := units.foldl (fun t u => Tab.put u.1 (c.live + u.2) t) c.busy
    resv := c.resv ++ res.map fun x => { kind := x.1, num := x.2.1, due := c.live + x.2.2 }
    flights := c.flights ++ fl.map fun x => { due := c.live + x.1, issue := c.live, act := x.2 }
    lastBank := fl.foldl (fun b x => if x.2.banks.isEmpty then b else max b (c.live + x.1)) c.lastBank }

/-- The state after an issue that changes nothing but its core. -/
def after (s : State) (n slot : Nat) (units : List (Nat × Nat)) (res : List (Nat × Nat × Nat)) (fl : List (Nat × Act)) : State :=
  s.setCore n (booked (s.core n) slot units res fl)

/-- The scalar operations on two registers and MOV (R220): core, destination, latency, result. -/
def scalarRegs : Instr → Option (Nat × BitVec 5 × Nat × (Core → BitVec 64))
  | .add n d a b => some (n, d, 1, fun c => c.s a + c.s b)
  | .sub n d a b => some (n, d, 1, fun c => c.s a - c.s b)
  | .and n d a b => some (n, d, 1, fun c => c.s a &&& c.s b)
  | .or n d a b => some (n, d, 1, fun c => c.s a ||| c.s b)
  | .xor n d a b => some (n, d, 1, fun c => c.s a ^^^ c.s b)
  | .shl n d a b => some (n, d, 1, fun c => c.s a <<< ((c.s b).toNat % 64))
  | .shr n d a b => some (n, d, 1, fun c => c.s a >>> ((c.s b).toNat % 64))
  | .sar n d a b => some (n, d, 1, fun c => (c.s a).sshiftRight ((c.s b).toNat % 64))
  | .cmpeq n d a b => some (n, d, 1, fun c => if c.s a = c.s b then 1 else 0)
  | .cmplt n d a b => some (n, d, 1, fun c => if (c.s a).toInt < (c.s b).toInt then 1 else 0)
  | .cmpltu n d a b => some (n, d, 1, fun c => if (c.s a).toNat < (c.s b).toNat then 1 else 0)
  | .mul n d a b => some (n, d, 3, fun c => BitVec.ofNat 64 ((c.s a).toNat * (c.s b).toNat))
  | .mov n d a => some (n, d, 1, fun c => c.s a)
  | _ => none

/-- The scalar operations with an immediate (R165, R220). -/
def scalarImms : Instr → Option (Nat × BitVec 5 × Nat × (Core → BitVec 64))
  | .addi n d a imm => some (n, d, 1, fun c => c.s a + BitVec.ofInt 64 imm.toInt)
  | .subi n d a imm => some (n, d, 1, fun c => c.s a - BitVec.ofInt 64 imm.toInt)
  | .andi n d a imm => some (n, d, 1, fun c => c.s a &&& BitVec.ofInt 64 imm.toInt)
  | .ori n d a imm => some (n, d, 1, fun c => c.s a ||| BitVec.ofInt 64 imm.toInt)
  | .xori n d a imm => some (n, d, 1, fun c => c.s a ^^^ BitVec.ofInt 64 imm.toInt)
  | .shli n d a imm => some (n, d, 1, fun c => c.s a <<< (imm.toNat % 64))
  | .shri n d a imm => some (n, d, 1, fun c => c.s a >>> (imm.toNat % 64))
  | .sari n d a imm => some (n, d, 1, fun c => (c.s a).sshiftRight (imm.toNat % 64))
  | .cmpeqi n d a imm => some (n, d, 1, fun c => if (c.s a).toInt = imm.toInt then 1 else 0)
  | .cmplti n d a imm => some (n, d, 1, fun c => if (c.s a).toInt < imm.toInt then 1 else 0)
  | .cmpltui n d a imm => some (n, d, 1, fun c => if (c.s a).toNat < (BitVec.ofInt 64 imm.toInt).toNat then 1 else 0)
  | .muli n d a imm => some (n, d, 3, fun c => c.s a * BitVec.ofInt 64 imm.toInt)
  | .li n d imm => some (n, d, 1, fun _ => BitVec.ofInt 64 imm.toInt)
  | .lih n d a imm => some (n, d, 1, fun c => BitVec.ofNat 64 (imm.toNat * 2 ^ 32 + (c.s a).toNat % 2 ^ 32))
  | _ => none

/-- The branches (R222): core, test of sA taken at issue, offset. -/
def branches : Instr → Option (Nat × BitVec 19 × (Core → Bool))
  | .br n off => some (n, off, fun _ => true)
  | .beqz n a off => some (n, off, fun c => decide ((c.s a).toNat = 0))
  | .bnez n a off => some (n, off, fun c => decide ((c.s a).toNat ≠ 0))
  | .bltz n a off => some (n, off, fun c => decide ((c.s a).toInt < 0))
  | .bgez n a off => some (n, off, fun c => decide (0 ≤ (c.s a).toInt))
  | .bdec n a off => some (n, off, fun c => decide (c.s a - 1 ≠ 0))
  | _ => none

/-- What a branch does to its core beside the bookkeeping: its shadow runs, and no target line is read yet (R45, R84). -/
def shadowed (c : Core) (target : Nat) (taken : Bool) : Core := { c with shadow := some { left := 5, taken, target }, target := [] }

/-- The base register update of an M-slot operand (R163). -/
def baseFlight (c : Core) (ea : BitVec 22) : List (Nat × Act) :=
  match eaUpdate c ea with | some u => [(1, .sreg u.1 u.2)] | none => []

/-- Vector arithmetic (R204 to R206): destination, format and result. -/
def vectorArith : Instr → Option (Nat × BitVec 5 × BitVec 4 × (Core → Block))
  | .vfma n d a b c fmt => some (n, d, fmt, fun k =>
      fpReg fmt (List.zipWith addVal (List.zipWith mulVal (fpLanes fmt (k.v a)) (fpLanes fmt (k.v b))) (fpLanes fmt (k.v c))))
  | .vadd n d a b fmt => some (n, d, fmt, fun k => fpReg fmt (List.zipWith addVal (fpLanes fmt (k.v a)) (fpLanes fmt (k.v b))))
  | .vsub n d a b fmt => some (n, d, fmt, fun k =>
      fpReg fmt (List.zipWith (fun x y => addVal x (negVal y)) (fpLanes fmt (k.v a)) (fpLanes fmt (k.v b))))
  | .vmul n d a b fmt => some (n, d, fmt, fun k => fpReg fmt (List.zipWith mulVal (fpLanes fmt (k.v a)) (fpLanes fmt (k.v b))))
  | .vmax n d a b fmt => some (n, d, fmt, fun k =>
      fpReg fmt (List.zipWith (maxVal false) (fpLanes fmt (k.v a)) (fpLanes fmt (k.v b))))
  | .vmin n d a b fmt => some (n, d, fmt, fun k =>
      fpReg fmt (List.zipWith (maxVal true) (fpLanes fmt (k.v a)) (fpLanes fmt (k.v b))))
  | _ => none

/-- Compare, select, logic, integer and broadcast operations (R207 to R209), of latency 2. -/
def vectorLogic : Instr → Option (Nat × BitVec 5 × (Core → Block))
  | .vcmp n d a b fmt sub => some (n, d, fun k =>
      let w := elemBits fmt.toNat
      BitVec.ofNat 2048 (pack 0 w (List.zipWith (fun x y => if vcmpHolds sub.toNat x y then 2 ^ w - 1 else 0)
        (fpLanes fmt (k.v a)) (fpLanes fmt (k.v b)))))
  | .vsel n d a b c => some (n, d, fun k => (k.v a &&& k.v c) ||| (k.v b &&& ~~~(k.v c)))
  | .vand n d a b => some (n, d, fun k => k.v a &&& k.v b)
  | .vor n d a b => some (n, d, fun k => k.v a ||| k.v b)
  | .vxor n d a b => some (n, d, fun k => k.v a ^^^ k.v b)
  | .viadd n d a b sub => some (n, d, fun k => intLanes sub (fun _ x y => x + y) (k.v a) (k.v b))
  | .visub n d a b sub => some (n, d, fun k => intLanes sub (fun _ x y => x - y) (k.v a) (k.v b))
  | .vimul n d a b sub => some (n, d, fun k => intLanes sub (fun _ x y => x * y) (k.v a) (k.v b))
  | .vshl n d a b sub => some (n, d, fun k => intLanes sub (fun w x y => x <<< (y.toNat % w)) (k.v a) (k.v b))
  | .vshr n d a b sub => some (n, d, fun k => intLanes sub (fun w x y => x >>> (y.toNat % w)) (k.v a) (k.v b))
  | .vsar n d a b sub => some (n, d, fun k => intLanes sub (fun w x y => x.sshiftRight (y.toNat % w)) (k.v a) (k.v b))
  | _ => none

end Sys2Proof.Spec

open Sys2Proof Sys2Proof.Machine

/-! Bundle operations. -/

/-- The scalar operations issue: the result of the operands at issue, of 64 bits, is on its way to sD, with the immediate forms' B the
immediate sign-extended; nothing but the core's bookkeeping changes, so no flag is set and no fault is raised (R42, R44, R47, R165, R220). -/
def Obligations.ScalarOps : Prop :=
  ∀ (s : State) (i : Instr) (n l : Nat) (d : BitVec 5) (v : Core → BitVec 64),
    Spec.scalarRegs i = some (n, d, l, v) ∨ Spec.scalarImms i = some (n, d, l, v) → Spec.Issues s n i →
      exec i s = .next (Spec.after s n 0 [(0, 1)] [(0, d.toNat, l)] [(l, .sreg d.toNat (v (s.core n)))])

/-- RDTALLY writes the core's 48-bit tally at issue, zero-extended, into sD one live cycle later (R221). -/
def Obligations.RdtallyReadsTheTally : Prop :=
  ∀ (s : State) (n : Nat) (d : BitVec 5), Spec.Issues s n (.rdtally n d) →
    exec (.rdtally n d) s = .next (Spec.after s n 0 [(0, 1)] [(0, d.toNat, 1)]
      [(1, .sreg d.toNat (((BitVec.ofNat 48 (s.core n).tally).setWidth 64)))])

/-- NOP in any slot changes nothing; FLGRD reads the five sticky flags; FLGCLR clears them in the next live cycle (R161, R216, R217). -/
def Obligations.NopAndFlagOps : Prop :=
  (∀ (s : State) (n : Nat) (k : Fin 5), Spec.Issues s n (.nop n k) → exec (.nop n k) s = .next (Spec.after s n k.val [] [] []))
  ∧ (∀ (s : State) (n : Nat) (d : BitVec 5), Spec.Issues s n (.flgrd n d) →
      exec (.flgrd n d) s = .next (Spec.after s n 0 [(0, 1)] [(0, d.toNat, 1)] [(1, .sreg d.toNat (BitVec.ofNat 64 ((s.core n).sticky % 32)))]))
  ∧ (∀ (s : State) (n : Nat), Spec.Issues s n (.flgclr n) →
      exec (.flgclr n) s = .next (Spec.after s n 0 [(0, 1)] [] [(1, .flagClear)]))

/-- The branches issue: the shadow of four bundles runs with the target taken at issue, both target lines are read in the next two live
cycles, taken or not, and count among the core's bank uses (log 16); BDEC also writes sA − 1 (R45, R84, R165, R222). -/
def Obligations.Branches : Prop :=
  ∀ (s : State) (i : Instr) (n : Nat) (off : BitVec 19) (p : Core → Bool), Spec.branches i = some (n, off, p) → Spec.Issues s n i →
    let c := s.core n
    let t := branchTarget c.dueAddr off
    exec i s = .next (match i with
      | .bdec _ a _ =>
        s.setCore n (Spec.shadowed (Spec.booked c 0 [(0, 1)] [(0, a.toNat, 1)]
          [(1, .targetFetch (t / 64)), (2, .targetFetch (t / 64 + 1)), (1, .sreg a.toNat (c.s a - 1))]) t (p c))
      | _ => s.setCore n (Spec.shadowed (Spec.booked c 0 [(0, 1)] []
          [(1, .targetFetch (t / 64)), (2, .targetFetch (t / 64 + 1))]) t (p c)))

/-- The vector operations with a result of their own latency (R210, R211, R215): core, destination, unit, occupancy, latency, result. -/
def Sys2Proof.Spec.vectorOther (s : State) : Instr → Option (Nat × BitVec 5 × Nat × Nat × Nat × (Core → Block))
  | .vred n d a fmt sub => some (n, d, 4, 1, 8, fun k =>
      fpReg fmt (List.replicate (if fmt = 0 then 64 else 128) (vredVal sub.toNat (fpLanes fmt (k.v a)))))
  | .vtr n d a _ sub => some (n, d, 6, 4, 14, fun k => BitVec.ofNat 2048 (pack 0 32 ((lanes 32 64 (k.v a)).map (vtrLane sub.toNat))))
  | .rngfill n d seed idx => some (n, d, 4, 1, 6, fun k =>
      bytesBv 2048 ((List.range 16).flatMap fun b => genDraw (match s.runCtx with | some (_, x) => x.seeds.getD seed.toNat [] | none => [])
        (k.tally % 2 ^ 48) n idx.toNat b 0 s.modNum))
  | _ => none

/-- LDS, LDV and RECV issue: the line or lines are read one live cycle after issue, the result lands five or six after it, and with
AM = 0b10 the base register takes the address in the next live cycle (R47, R83, R163, R164, R224, R239). -/
def Obligations.LoadsIssue : Prop :=
  (∀ (s : State) (n : Nat) (rel : Bool) (d : BitVec 5) (ea : BitVec 22), Spec.Issues s n (.lds n rel d ea) →
    exec (.lds n rel d ea) s = .next (Spec.after s n 1 [(1, 1)]
      ((0, d.toNat, 5) :: (match eaUpdate (s.core n) ea with | some u => [(0, u.1, 1)] | none => []))
      ((1, .readWord d.toNat (eaM (s.core n) ea) rel) :: Spec.baseFlight (s.core n) ea)))
  ∧ (∀ (s : State) (n : Nat) (rel : Bool) (d : BitVec 5) (ea : BitVec 22), Spec.Issues s n (.ldv n rel d ea) →
    exec (.ldv n rel d ea) s = .next (Spec.after s n 1 [(1, 1)]
      ((1, d.toNat, 6) :: (match eaUpdate (s.core n) ea with | some u => [(0, u.1, 1)] | none => []))
      ((1, .readVec d.toNat (eaM (s.core n) ea / 64) rel) :: Spec.baseFlight (s.core n) ea)))
  ∧ (∀ (s : State) (n : Nat) (d : BitVec 5) (rel : Bool) (line : BitVec 18), Spec.Issues s n (.recv n d rel line) →
    exec (.recv n d rel line) s = .next (Spec.after s n 4 [(8, 1)] [(1, d.toNat, 6)]
      [(1, .readVec d.toNat (eaL (s.core n) line / 64) rel)]))

/-- STV and KVAPP issue: vS as it stands at issue goes into four lines three live cycles later, for KVAPP into row APPEND of the stream,
whose APPEND advances in the next live cycle; KVCOMMIT and KVDROP change the stream's pointers in the next live cycle (R83, R163, R224,
R225, R227 to R229). -/
def Obligations.StoresAndStreamsIssue : Prop :=
  (∀ (s : State) (n : Nat) (v : BitVec 5) (ea : BitVec 22), Spec.Issues s n (.stv n v ea) →
    exec (.stv n v ea) s = .next (Spec.after s n 1 [(1, 1)] (match eaUpdate (s.core n) ea with | some u => [(0, u.1, 1)] | none => [])
      ((3, .write (eaM (s.core n) ea / 64) ((s.core n).v v)) :: Spec.baseFlight (s.core n) ea)))
  ∧ (∀ (s : State) (n slot : Nat) (v : BitVec 5) (kvs : BitVec 4), Spec.Issues s n (.kvapp n v kvs) → s.runSlot = some slot →
    let d := (s.ctx slot).kvDesc n kvs.toNat
    exec (.kvapp n v kvs) s = .next (Spec.after s n 1 [(1, 1)] []
      [(3, .write (d.base + 4 * d.append) ((s.core n).v v)), (1, .kvAppend kvs.toNat)]))
  ∧ (∀ (s : State) (n : Nat) (a : BitVec 5) (kvs : BitVec 4), Spec.Issues s n (.kvcommit n a kvs) →
    exec (.kvcommit n a kvs) s = .next (Spec.after s n 1 [(1, 1)] [] [(1, .kvCommit kvs.toNat ((s.core n).s a).toNat)]))
  ∧ (∀ (s : State) (n : Nat) (kvs : BitVec 4), Spec.Issues s n (.kvdrop n kvs) →
    exec (.kvdrop n kvs) s = .next (Spec.after s n 1 [(1, 1)] [] [(1, .kvDrop kvs.toNat)]))

/-- MXLOAD issues: the buffer is not ready and records its format; its tile's lines are read eight a live cycle; it is ready 32 live
cycles after issue (R50, R83, R163, R190, R192). -/
def Obligations.MxloadIssues : Prop :=
  ∀ (s : State) (n : Nat) (rel : Bool) (fmt : BitVec 4) (wt : BitVec 1) (ea : BitVec 22), Spec.Issues s n (.mxload n rel fmt wt ea) →
    let c := s.core n
    let k := tileLines fmt.toNat
    let line := eaM c ea / 64
    exec (.mxload n rel fmt wt ea) s = .next (s.setCore n { Spec.booked c 1 [(1, ceilDiv k 8), (7, 32)]
        (match eaUpdate c ea with | some u => [(0, u.1, 1)] | none => [])
        ((List.range (ceilDiv k 8)).map (fun j => (1 + j, .tileRead wt.toNat (line + 8 * j) (min 8 (k - 8 * j)) rel))
          ++ [(32, .tileReady wt.toNat fmt.toNat)] ++ Spec.baseFlight c ea) with
      wt := Tab.put wt.toNat { c.buf wt with
        ready := false, fmt := some fmt.toNat, filling := [], fillPoison := false, source := (List.range k).map (line + ·) } c.wt })

/-- MXSTREAM issues: row k is read k live cycles later than the first, four apart in BF16, and updates accumulator row ACC + k (R47, R83,
R164, R171, R191). -/
def Obligations.MxstreamIssues : Prop :=
  ∀ (s : State) (n : Nat) (wt : BitVec 1) (afmt : BitVec 4) (rel : Bool) (acc cnt : BitVec 7) (line : BitVec 18),
    Spec.Issues s n (.mxstream n wt afmt rel acc cnt line) →
    let k := cnt.toNat + 1
    let occ := if afmt = 1 then 4 * k else k
    let land := fun (j : Nat) => if afmt = 1 then 4 * j + 12 else j + 9
    let bank := fun (j : Nat) => if afmt = 1 then 4 * j + 1 else j + 1
    exec (.mxstream n wt afmt rel acc cnt line) s = .next (Spec.after s n 2 [(2, occ), (20 + wt.toNat, occ)]
      ((List.range k).map fun j => (2, acc.toNat + j, land j))
      ((List.range k).map fun j =>
        (bank j, .rowRead wt.toNat afmt.toNat (acc.toNat + j) (eaL (s.core n) line / 64 + j) rel (land j - bank j))))

/-- ACCOUT issues: rows ACC to ACC + CNT as they stand at issue, rounded, land together in the registers from vD with the flags; ACCCLR
clears its rows in the next live cycle, under WB or the low bits of sW (R47, R143, R156, R195, R197, R198, R217). -/
def Obligations.AccoutAndAccclrIssue : Prop :=
  (∀ (s : State) (n : Nat) (acc : BitVec 7) (cnt : BitVec 3) (ofmt : BitVec 4) (d : BitVec 5), Spec.Issues s n (.accout n acc cnt ofmt d) →
    let c := s.core n
    let k := cnt.toNat + 1
    let rows := (List.range k).map fun j => c.row (acc.toNat + j)
    let o := accoutRegs ofmt.toNat rows
    let l := ceilDiv k 2 + 6
    exec (.accout n acc cnt ofmt d) s = .next (Spec.after s n 2 [(3, ceilDiv k 2)]
      ((List.range (spanRegs k (rowsPerReg ofmt))).map fun j => (1, d.toNat + j, l))
      ((List.range o.1.length).map (fun j => (l, .vreg (d.toNat + j) (o.1.getD j 0) 0x7FFFC0))
        ++ [(l, .flags (rows.foldl (fun f r => f ||| r.flags) o.2))])))
  ∧ (∀ (s : State) (n : Nat) (acc cnt : BitVec 7) (ws : Bool) (wb : BitVec 11) (sw : BitVec 5),
    Spec.Issues s n (.accclr n acc cnt ws wb sw) →
    exec (.accclr n acc cnt ws wb sw) s = .next (Spec.after s n 2 [] []
      [(1, .accClear acc.toNat (cnt.toNat + 1) (if ws then ((s.core n).s sw).toInt else wb.toInt))]))

/-- VFMA, VADD, VSUB, VMUL, VMAX and VMIN issue: each lane's result, rounded once, is on its way to vD; FP32 takes four live cycles and
one of the lanes, BF16 five and two (R44, R47, R204 to R206). -/
def Obligations.VectorArithmeticIssues : Prop :=
  ∀ (s : State) (i : Instr) (n : Nat) (d : BitVec 5) (fmt : BitVec 4) (v : Core → Block),
    Spec.vectorArith i = some (n, d, fmt, v) → Spec.Issues s n i →
      exec i s = .next (Spec.after s n 3 [(4, if fmt = 0 then 1 else 2)] [(1, d.toNat, if fmt = 0 then 4 else 5)]
        [(if fmt = 0 then 4 else 5, .vreg d.toNat (v (s.core n)) 0x7FFFC0)])

/-- VCMP, VSEL, VAND, VOR, VXOR, VIADD, VISUB, VIMUL, VSHL, VSHR and VSAR issue with latency 2 (R44, R47, R207, R208). -/
def Obligations.VectorLogicIssues : Prop :=
  ∀ (s : State) (i : Instr) (n : Nat) (d : BitVec 5) (v : Core → Block), Spec.vectorLogic i = some (n, d, v) → Spec.Issues s n i →
      exec i s = .next (Spec.after s n 3 [(4, 1)] [(1, d.toNat, 2)] [(2, .vreg d.toNat (v (s.core n)) 0x7FFFC0)])

/-- VRED, VTR, RNGFILL and VCVT issue; VCVT sets the flags of its conversions with its result (R44, R47, R54, R210 to R217, R396, R397). -/
def Obligations.VectorReduceConvertIssue : Prop :=
  (∀ (s : State) (i : Instr) (n u occ l : Nat) (d : BitVec 5) (v : Core → Block),
    Spec.vectorOther s i = some (n, d, u, occ, l, v) → Spec.Issues s n i →
      exec i s = .next (Spec.after s n 3 [(u, occ)] [(1, d.toNat, l)] [(l, .vreg d.toNat (v (s.core n)) 0x7FFFC0)]))
  ∧ (∀ (s : State) (n : Nat) (d a dr : BitVec 5) (sfmt dfmt : BitVec 4) (sr : Bool), Spec.Issues s n (.vcvt n d a dr sfmt dfmt sr) →
    let k := s.core n
    let m := if sfmt = 0 ∨ dfmt = 0 then 64 else 128
    let r := valsReg dfmt.toNat (regVals sfmt.toNat m (k.v a))
      ((List.range m).map fun e => if sr then some ((k.v dr).extractLsb' (16 * e) 16).toNat else none)
    exec (.vcvt n d a dr sfmt dfmt sr) s = .next (Spec.after s n 3 [(4, 1)] [(1, d.toNat, 6)]
      [(6, .vreg d.toNat r.1 0x7FFFC0), (6, .flags r.2)]))

/-- VBCAST copies the low 32, 16 or 8 bits of sA, read at issue, into every lane of D without conversion, by FMT 0, 1 or 2 (R209). -/
def Obligations.VbcastCopiesTheLowBits : Prop :=
  ∀ (s : State) (n : Nat) (d a : BitVec 5) (fmt : BitVec 4), fmt ≤ 2 → Spec.Issues s n (.vbcast n d a fmt) →
    let w := if fmt = 0 then 32 else if fmt = 1 then 16 else 8
    ∃ v : Block, exec (.vbcast n d a fmt) s = .next (Spec.after s n 3 [(4, 1)] [(1, d.toNat, 2)] [(2, .vreg d.toNat v 0x7FFFC0)])
      ∧ ∀ j < 2048 / w, (v.extractLsb' (w * j) w).toNat = ((s.core n).s a).toNat % 2 ^ w

/-- VMAX and VMIN, lane by lane: canonical NaN if either input is NaN, +0 and −0 of two zeros of different sign, otherwise the greater or
the lesser value (R206). -/
def Obligations.VmaxVminByLane : Prop :=
  (∀ (s : State) (n : Nat) (d a b : BitVec 5) (fmt : BitVec 4) (m : Bool),
    let i := if m then Instr.vmin n d a b fmt else .vmax n d a b fmt
    Spec.Issues s n i → exec i s = .next (Spec.after s n 3 [(4, if fmt = 0 then 1 else 2)] [(1, d.toNat, if fmt = 0 then 4 else 5)]
      [(if fmt = 0 then 4 else 5, .vreg d.toNat
        (fpReg fmt (List.zipWith (maxVal m) (fpLanes fmt ((s.core n).v a)) (fpLanes fmt ((s.core n).v b)))) 0x7FFFC0)]))
  ∧ (∀ (x : Val) (m : Bool), maxVal m .nan x = .nan ∧ maxVal m x .nan = .nan)
  ∧ (∀ (e f : Int) (p : Bool), maxVal false (.fin p 0 e) (.fin (!p) 0 f) ∈ [Val.fin false 0 e, Val.fin false 0 f]
      ∧ maxVal true (.fin p 0 e) (.fin (!p) 0 f) ∈ [Val.fin true 0 e, Val.fin true 0 f])
  ∧ (∀ x y : Val, x ≠ .nan → y ≠ .nan → (cmpVal x y = .gt → maxVal false x y = x ∧ maxVal true x y = y)
      ∧ (cmpVal x y = .lt → maxVal false x y = y ∧ maxVal true x y = x))

/-- GEMV issues: the scale lines of each group of 32 beats with eight-bit weights, then a beat a live cycle, each adding into row ACC;
LSWADD adds eight long-sum words after 12 live cycles (R44, R47, R83, R164, R199 to R203). -/
def Obligations.GemvAndLswaddIssue : Prop :=
  (∀ (s : State) (n : Nat) (wfmt afmt : BitVec 4) (a : BitVec 5) (acc : BitVec 7) (cg : BitVec 1) (beats : BitVec 6) (rel : Bool)
      (line : BitVec 18), Spec.Issues s n (.gemv n wfmt afmt a acc cg beats rel line) →
    let c := s.core n
    let wf := wfmt.toNat
    let b := beats.toNat + 1
    let eight := wf = 4 ∨ wf = 5 ∨ wf = 9
    let l := eaL c line / 64
    let regs := (List.range (spanRegs b (gemvPerReg wfmt))).map fun j => c.vAt (a.toNat + j)
    exec (.gemv n wfmt afmt a acc cg beats rel line) s = .next (Spec.after s n 3 [(5, if eight then b + ceilDiv b 32 else b)]
      ((List.range b).map fun m => (2, acc.toNat, gemvBank wf m + 11))
      ((if eight then (List.range (ceilDiv b 32)).map fun g => (1 + 33 * g, .gemvScale (l + 264 * g) rel) else [])
        ++ (List.range b).map fun m => (gemvBank wf m, .gemvBeat wf afmt.toNat (packedBlock afmt.toNat regs m) acc.toNat (16 * cg.toNat)
          (l + gemvLine wf m) (gemvBeatLines wf) (m % 32) rel))))
  ∧ (∀ (s : State) (n : Nat) (a : BitVec 5) (acc : BitVec 7) (g : BitVec 2), Spec.Issues s n (.lswadd n a acc g) →
    let c := s.core n
    let ws := lswsOf (c.v a)
    exec (.lswadd n a acc g) s = .next (Spec.after s n 3 [(5, 1)] [(2, acc.toNat, 12)]
      [(12, .lswAdd acc.toNat ((List.range 8).map fun j => (8 * g.toNat + j, ws.getD j (Lsw.ofBits 0)))
        (if ws.any (fun w => w.col.flags.getLsbD 6) then some (Tab.get 0x7FFFC0 c.lastWrite a.toNat, a.toNat) else none))]))

/-- SEND stages vS three live cycles after issue as the next flit of its flow; LSWSEND stages row ACC as four flits from four live cycles
on; both count their flits at issue (R42, R44, R237, R238, R240). -/
def Obligations.SendsIssue : Prop :=
  (∀ (s : State) (n : Nat) (v : BitVec 5) (flow : BitVec 10), Spec.Issues s n (.send n v flow) →
    let c := s.core n
    let first := Tab.get 0 c.taken flow.toNat
    exec (.send n v flow) s = .next (s.setCore n { Spec.booked c 4 [(8, 1)] [] [(3, .stage flow.toNat first c.tally (c.v v))] with
      taken := Tab.put flow.toNat (first + 1) c.taken
      staged := c.staged ++ [{ flow := flow.toNat, ipos := first, step := c.tally, payload := none }] }))
  ∧ (∀ (s : State) (n : Nat) (acc : BitVec 7) (flow : BitVec 10), Spec.Issues s n (.lswsend n acc flow) →
    let c := s.core n
    let first := Tab.get 0 c.taken flow.toNat
    exec (.lswsend n acc flow) s = .next (s.setCore n { Spec.booked c 4 [(8, 4), (3, 1)] []
        ((List.range 4).map fun f => (4 + f, .stage flow.toNat (first + f) c.tally ((c.row acc.toNat).lswBlock f))) with
      taken := Tab.put flow.toNat (first + 4) c.taken
      staged := c.staged ++ (List.range 4).map fun f => { flow := flow.toNat, ipos := first + f, step := c.tally, payload := none } }))

/-- A stray request of a core under an index of its outstanding table: the pair's next sequence modulo 1,024, an entry of the table, and
injection three live cycles after issue; a HURDLE of classes 0 and 2 in the same bundle waits for it too (R233, R241, R245, R288, R300). -/
def Sys2Proof.Spec.strayAfter (s : State) (n rtag : Nat) (desc : BitVec 64) (sp : Option Nat) (exadd : Bool) (p : Packet) : State :=
  let c := s.core n
  let t := Target.of desc
  let pair := 2048 * t.mod + t.core
  let seq := Tab.get 0 c.sendSeq pair
  s.setCore n { Spec.booked c 4 [(8, 1)] [] [(3, .inject rtag)] with
    outs := Tab.put rtag
      { packet := { p with pen := s.pen.getD 0, dest := t.core, dmod := t.mod, smod := s.modNum, src := n, pseq := seq, rtag
                           addr := t.addr, fep := c.epoch }
        sp, issue := c.live, order := (c.outs.map fun o => o.2.order + 1).foldl max 0, desc := desc.toNat } c.outs
    sendSeq := Tab.put pair ((seq + 1) % 1024) c.sendSeq
    strayCount := if exadd then (c.strayCount.1, c.strayCount.2 + 1) else (c.strayCount.1 + 1, c.strayCount.2)
    hurdles := c.hurdles.map fun h =>
      if h.issue == c.live && bit h.classes 0 && bit h.classes 2 then { h with own := rtag :: h.own } else h }

/-- STRAYW issues and sends a WRITE of LEN + 1 data flits, masked by sM where MSK is 1; STRAYA issues and sends an ATOMIC whose response
lands at sP; each under a free index of the outstanding table (R241 to R243, R245, R288, R300). -/
def Obligations.StraysIssue : Prop :=
  (∀ (s : State) (n : Nat) (v t : BitVec 5) (len : BitVec 2) (msk : Bool) (m : BitVec 5), Spec.Issues s n (.strayw n v t len msk m) →
    let c := s.core n
    ∃ rtag, rtag ∉ c.outs.map (·.1) ∧ exec (.strayw n v t len msk m) s = .next (Spec.strayAfter s n rtag (c.s t) none false
      { type := 1, mask := if msk then (c.s m).toNat else 2 ^ 64 - 1, datas := (List.range (len.toNat + 1)).map fun j => c.vAt (v.toNat + j) }))
  ∧ (∀ (s : State) (n : Nat) (v t : BitVec 5) (aop : BitVec 3) (w : Bool) (p : BitVec 5), Spec.Issues s n (.straya n v t aop w p) →
    let c := s.core n
    ∃ rtag, rtag ∉ c.outs.map (·.1) ∧ exec (.straya n v t aop w p) s = .next (Spec.strayAfter s n rtag (c.s t) (some (c.s p).toNat) (aop == 1)
      { type := 2, opx := aop.toNat + (if w then 8 else 0), inline := ((c.v v).extractLsb' 0 256).setWidth 512 }))

/-- The before sets of a HURDLE of `classes`, or of a FOLD, that issues now: the inbound queue, the stray writes and atomics accepted at the
ejection queue and not performed yet, the host accesses that wait, the landings that a tier controller has accepted and that are not written
yet, and the core's own requests without a response (R231, R233, R235; host agents' WRITEs in class 2 are log 37's choice). -/
def Sys2Proof.Spec.waitOf (s : State) (n classes : Nat) (fold : Bool) : HurdleWait :=
  let c := s.core n
  { classes, issue := c.live
    inbound := if bit classes 1 then c.inbound.length else 0
    strays := if bit classes 2 then ((c.ejectQ ++ c.reorder.filter (fun p => decide (2048 ≤ p.src) || p.fep == c.epoch) ++ (c.work.map (·.req)).toList).filter
      fun p => p.type == 1 || p.type == 2).map fun p => (p.srcKey, p.pseq) else []
    host := if bit classes 3 then c.hostWaiting.filter fun k => k.1 % 4096 != 2050 else []
    tier := if bit classes 4 then (s.strm.reqs.filter fun r => r.core == n && r.accepted).map (·.line) ++ (c.inbound.filter (·.landing)).map (·.line) else []
    own := if bit classes 0 && bit classes 2 then c.outs.map (·.1) else []
    fold }

/-- HURDLE and FOLD issue: run-ahead is discarded, the before sets of the classes are taken beside those that earlier ones still wait for
(log 37: the model's choice), and with class 4 the streamer is cancelled for writable landing lines; FOLD is a HURDLE of classes 0 to 3 that
marks its step (R68, R168, R176, R231, R233 to R235). -/
def Obligations.HurdleAndFoldIssue : Prop :=
  (∀ (s : State) (n : Nat) (cl : BitVec 5), Spec.Issues s n (.hurdle n cl) →
    let t := s.setCore n { Spec.booked (s.core n) 0 [(0, 1)] [] [] with
      staging := [], hurdles := (s.core n).hurdles ++ [Spec.waitOf s n cl.toNat false] }
    exec (.hurdle n cl) s = .next (if cl.getLsbD 4 then (match s.runSlot with | some k => t.cancelStreamer k false | none => t) else t))
  ∧ (∀ (s : State) (n : Nat) (ix : BitVec 10), Spec.Issues s n (.fold n ix) →
    exec (.fold n ix) s = .next (s.setCore n { Spec.booked (s.core n) 0 [(0, 1)] [] [] with
      staging := [], hurdles := (s.core n).hurdles ++ [Spec.waitOf s n 15 true], foldIssued := true }))

/-! Events of cores, SRAM and tier. -/

/-- A core with what is due at its present live cycle taken out of flight (R42, R43). -/
def Sys2Proof.Spec.cleared (c : Core) : Core :=
  { c with flights := c.flights.filter (fun f => !decide (f.due ≤ c.live)), resv := c.resv.filter fun r => decide (c.live < r.due) }

/-- RESULT_LANDS, where one result is due: an S or V register takes it, the flags it raised are added, a FLGCLR clears them; a core
that does not advance lands nothing. TILE_READY: the buffer of the completed fill is ready with its tile (R42, R50, R56, R145, R190,
R216). -/
def Obligations.ResultsAndTilesLand : Prop :=
  (∀ (s : State) (n : Nat) (f : Flight), s.advances n = true → (s.core n).dueNow = [f] →
    let c := Spec.cleared (s.core n)
    (∀ r v, f.act = .sreg r v → exec (.resultLands n) s = .next (s.setCore n { c with sreg := Tab.put r v c.sreg }))
    ∧ (∀ r v a, f.act = .vreg r v a → exec (.resultLands n) s = .next (s.setCore n
        { c with vreg := Tab.put r v c.vreg, lastWrite := Tab.put r a c.lastWrite }))
    ∧ (∀ k, f.act = .flags k → exec (.resultLands n) s = .next (s.setCore n { c with sticky := (c.sticky ||| k) % 32 }))
    ∧ (f.act = .flagClear → exec (.resultLands n) s = .next (s.setCore n { c with sticky := 0 })))
  ∧ (∀ (s : State) (n : Nat), s.advances n = false → exec (.resultLands n) s = .next s)
  ∧ (∀ (s : State) (n fmt : Nat) (b : BitVec 1) (f : Flight), s.advances n = true → (s.core n).waitsFor b = false → f.act = .tileReady b.toNat fmt →
    ((s.core n).flights.filter fun g => g.fills b (s.core n).live) = [f] →
    let c := s.core n
    exec (.tileReady n b) s = .next (s.setCore n { c with
      flights := c.flights.filter fun g => !g.fills b c.live
      wt := Tab.put b.toNat { ready := true, fmt := some fmt, tile := (c.buf b).filling, poison := (c.buf b).fillPoison } c.wt }))

/-- A core on which a hold condition begins (R55, R58, R59, R68). -/
def Sys2Proof.Spec.held (s : State) (n cause origin : Nat) : State :=
  let c := s.core n
  let first := c.holds.isEmpty
  let s1 := s.setCore n { c with
    holds := c.holds ++ [(cause, s.now, origin)], staging := if first then [] else c.staging }
  { s1 with strm := if first then { s.strm with
      reqs := s.strm.reqs.filter fun r => !(r.core == n && !r.accepted)
      withdrawals := satAdd 64 s.strm.withdrawals (s.strm.reqs.filter fun r => r.core == n && !r.accepted).length } else s.strm }

/-- HOLD_REQUEST and HOST_ACCESS_WAIT_HOLD begin a hold, the latter for the access, a host's or a load write's, that has waited longest,
and a first hold discards the staging entries and withdraws the streamer's unaccepted requests; HOLD_END ends a request and an otherwise unheld core goes on; BANK_CONFLICT_OVERRUN raises its event once a step (R55, R58,
R68, R89, R90). -/
def Obligations.HoldEvents : Prop :=
  (∀ (s : State) (n cause : Nat), cause ∈ [4, 5, 6, 7, 8] → (s.core n).run = .run →
    ((s.core n).holds.any fun h => h.1 == cause && h.2.2 == 0) = false →
    exec (.holdRequest n cause) s = .next (Spec.held s n cause 0))
  ∧ (∀ (s : State) (n : Nat) (k : Nat × Nat), (s.core n).run = .run →
    ((s.core n).hostWaiting ++ (s.core n).loads.map loadKey).head? = some k → ((s.core n).holds.any fun h => h.1 == 7 && h.2.2 == 4) = false →
    exec (.hostAccessWaitHold n) s =
      .next (Spec.held (s.setCore n { s.core n with hostHold := some ((s.core n).hostHold.getD k) }) n 7 4))
  ∧ (∀ (s : State) (n cause t : Nat), (s.core n).holds = [(cause, t, 0)] → (s.core n).queue ≠ [] → (s.core n).inbound.length < 24 →
    (s.core n).ejectQ.length < 6 → exec (.holdEnd n cause) s = .next (s.setCore n { s.core n with holds := [] }))
  ∧ (∀ (s : State) (n : Nat), s.nv.bankOvr < (s.core n).overrun → (s.core n).overrunStep = false →
    exec (.bankConflictOverrun n) s = .next ((s.setCore n { s.core n with overrunStep := true }).coreEvent n 24))

/-- STEP_BEGIN: a step that meets R21, with no fold to wait for, no switch and no gate, gives way to the next: the tally advances modulo
2^48 and the reports leave; without its fold's outcome the core is held with cause 8; a step not closed stays. STEP_REPORT_RECEIVE keeps
the tally of a receiver that has begun the step (R15, R20, R21, R183, R236, R268, R269). -/
def Obligations.StepEvents : Prop :=
  (∀ (s : State) (n : Nat), s.closed n = true → s.failedAt n = false → (s.foldNamed n = none ∨ (s.core n).foldDone = true) →
    s.fab.fold.handTo = none → s.gated n = false → s.nextDesc n ≠ lastDesc →
    (∀ k x, s.runCtx = some (k, x) → x.killed = false) →
    let c := s.core n
    let t := (c.tally + 1) % 2 ^ 48
    exec (.stepBegin n) s = .next ((s.setCore n { c with
      tally := t, desc := s.nextDesc n, stepLive := 0, stepStart := if c.run == .silent then some s.now else none, prevStart := c.stepStart
      ended := false, overrun := 0, overrunStep := false, satSeen := false, taken := [], foldIssued := false, foldSent := false, foldDone := false
      gate := none, holds := c.holds.filter (fun h => h.2.2 != 6)
      arrived := c.arrived.filter (fun a => a.1 / 1024 != (t + 3) % 8)
      marks := c.marks.filter fun k => decide (wrapDiff 8 (t % 256) (k.1 / 1024) < 3) }).sendReports n))
  ∧ (∀ (s : State) (n : Nat), s.closed n = true → s.failedAt n = false → (s.foldNamed n).isSome = true → (s.core n).foldDone = false →
    (s.core n).run = .run → ((s.core n).holds.any fun h => h.1 == 8 && h.2.2 == 6) = false →
    exec (.stepBegin n) s = .next (Spec.held s n 8 6))
  ∧ (∀ (s : State) (n : Nat), s.closed n = false → s.failedAt n = false → exec (.stepBegin n) s = .next s)
  ∧ (∀ (s : State) (n flow r t m k d slot : Nat) (b : Bytes), s.prog = some (b, m, slot) → stepsAhead (laterTally t 2) (s.core n).tally = some k →
    Img.ahead b (s.core n).desc k = some d → (flowReceivers s.width (s.tabs d) n flow).contains r = true → r < 0x8000 →
    begunBy (Tab.get 0 s.fab.reports r) t = true →
    let c := s.core n
    let key := 65536 * flow + r
    exec (.stepReportReceive n flow r t) s = .next (s.setCore n { c with
      reports := Tab.put key (laterReport (Tab.get 0 c.reports key) (t % 2 ^ 48 + 1)) c.reports }))

/-- FETCH_READ reads the next line of the stream for the queue two live cycles later; RUNAHEAD_READ stages a clean line and discards one
with an error; INBOUND_LINE_WRITE writes the oldest line of its bank and sets the fill bit; ECC_WRITEBACK rewrites the first queued
corrected line; SRAM_PATROL_SCRUB reads the next line of the slice and counts and queues a correction (R61 to R64, R84 to R88, R96, R99,
R104, R105). -/
def Obligations.BankCycleEvents : Prop :=
  (∀ (s : State) (n : Nat), s.mayFetch n = true → (s.core n).lineEcc ((s.core n).fetchAt / 64) = .clean →
    let c := s.core n
    let l := c.fetchAt / 64
    exec (.fetchRead n) s = .next (s.setCore n { c with
      banks := bankOf l :: c.banks, flights := c.flights ++ [{ due := c.live + 2, issue := c.live, act := .fetchIn l }], fetchAt := 64 * (l + 1) }))
  ∧ (∀ (s : State) (n l : Nat), s.mayRunAhead n l = true →
    let c := s.core n
    ((c.lineEcc l = .clean → exec (.runaheadRead n l) s = .next (s.setCore n { c with
        banks := bankOf l :: c.banks, staging := c.staging ++ [(l, c.readLine l)] }))
    ∧ (c.lineEcc l ≠ .clean → exec (.runaheadRead n l) s = .next (s.setCore n { c with banks := bankOf l :: c.banks }))))
  ∧ (∀ (s : State) (n bank : Nat) (x : Inbound) (rest : List Inbound), (s.core n).inbound = x :: rest → bankOf x.line = bank →
    s.bankFree n bank = true → (s.mayFetch n && bankOf ((s.core n).fetchAt / 64) == bank) = false → (s.core n).hurdles = [] →
    s.pw.keeper = false → (s.core n).isKind (s.runSlot.getD 0) x.line (if x.landing then 3 else 2) = true →
    (s.core n).fill.contains x.line = false → x.null = false → x.poison = false →
    (s.core n).holds = [] → (s.core n).queue ≠ [] → rest.length < 24 → (s.core n).ejectQ.length < 6 →
    let c := s.core n
    exec (.inboundLineWrite n bank) s = .next (s.setCore n { c.writeLine x.line x.data with
      inbound := rest, banks := bank :: c.banks, fill := x.line :: c.fill }))
  ∧ (∀ (s : State) (n l : Nat) (rest : List Nat), (s.core n).writeback = l :: rest → s.pw.keeper = false → s.bankFree n (bankOf l) = true →
    (s.core n).bankQueued (bankOf l) = false → (s.mayFetch n && bankOf ((s.core n).fetchAt / 64) == bankOf l) = false →
    let c := s.core n
    exec (.eccWriteback n) s = .next (s.setCore n { c.writeLine l (c.readLine l) with banks := bankOf l :: c.banks }))
  ∧ (∀ (s : State) (n : Nat), s.pw.sramScrub = 2 → n < s.nCores → s.bankFree n (bankOf (s.core n).scrubLine) = true →
    s.bankWanted n (bankOf (s.core n).scrubLine) = false →
    (((s.core n).aheadWants n).any fun k => bankOf k == bankOf (s.core n).scrubLine && s.mayRunAhead n k) = false →
    let c := s.core n
    let l := c.scrubLine
    let c1 := { c with banks := bankOf l :: c.banks, scrubLine := (l + 1) % 98304 }
    ((c.lineEcc l = .clean → exec (.sramPatrolScrub n) s = .next (s.setCore n c1))
    ∧ (∀ k e, c.lineEcc l = .correctable k e → exec (.sramPatrolScrub n) s = .next ((s.setCore n { c1 with
        corrected := satAdd 64 c.corrected 1, writeback := if c.writeback.contains l then c.writeback else c.writeback ++ [l] }).modDiag
          fun d => { d with sramCorrected := satAdd 64 d.sramCorrected 1 }))))

/-- STREAMER_REQUEST asks for a line of an open entry at its tier address, and faults the consuming core where that is outside the tier
region; STREAMER_LANDING puts the data of the block into the core's inbound queue, and drops a stale one with a count (R66, R68, R69,
R109, R111, R184, R456, R457). -/
def Obligations.StreamerEvents : Prop :=
  (∀ (s : State) (slot entry k m base size : Nat) (b : Bytes), s.prog = some (b, m, slot) →
    let e := Img.strEntry b m entry
    entry < Img.nstrm b m → k < e.count → s.entryOpen b entry = true → (s.core e.core).holds = [] →
    s.throttled e.core = false → (s.core e.core).hurdles = [] → s.requested e.core (e.line + k) = false →
    (s.ctx slot).tierRange = some (base, size) →
    (e.toff + 64 * k < size → s.tier.usable = true → s.tier.hostHeld.contains (s.heldKey (base + (e.toff + 64 * k))) = false →
      exec (.streamerRequest slot entry k) s = .next { s with strm := { s.strm with
        requests := satAdd 64 s.strm.requests 1
        reqs := s.strm.reqs ++ [{ slot, core := e.core, line := e.line + k, ta := base + (e.toff + 64 * k), epoch := (s.ctx slot).epoch
                                  accepted := true }] } })
    ∧ (size ≤ e.toff + 64 * k → exec (.streamerRequest slot entry k) s = .next (s.faultOutside e.core 5)))
  ∧ (∀ (s : State) (slot n line epoch : Nat) (q : StrReq),
    (s.strm.reqs.find? fun r => r.slot == slot && r.core == n && r.line == line && r.epoch == epoch && r.accepted) = some q →
    (s.core n).hurdles = [] →
    let u := { s with strm := { s.strm with reqs := s.strm.reqs.erase q } }
    ((epoch = (s.ctx slot).epoch → (s.core n).inbound.length < 32 → s.pw.keeper = false → s.tierEcc q.ta = .clean →
      exec (.streamerLanding slot n line epoch) s = .next ((u.storeTouch q.ta false).setCore n { s.core n with
        inbound := (s.core n).inbound ++ [{ line, data := s.tierGarbled q.ta (Tab.get [] s.tier.errs (q.ta / 64)), landing := true, poison := false }] }))
    ∧ (epoch ≠ (s.ctx slot).epoch → ∃ t, exec (.streamerLanding slot n line epoch) s = .next t ∧ t.strm.drops = satAdd 64 s.strm.drops 1
        ∧ t.strm.reqs = s.strm.reqs.erase q ∧ (∀ k, t.core k = s.core k) ∧ t.tier = s.tier)))

/-- TIER_REFRESH refreshes a bank of a populated channel, TIER_ECC_BLOCK_EVICT drops the oldest block of a channel's store, and
TIER_PATROL_SCRUB reads the next block of its pass, counts a pass at the end of the tier, and repairs a correctable block (R111, R114,
R117, R493). -/
def Obligations.TierEvents : Prop :=
  (∀ (s : State) (ch rank bank : Nat), s.channels.contains ch = true → rank < 2 → bank < 16 →
    let k := 64 * ch + 32 * rank + bank
    exec (.tierRefresh ch rank bank) s = .next { s with tier := { s.tier with
      refreshed := Tab.put k (Tab.get 0 s.tier.refreshed k + 1) s.tier.refreshed } })
  ∧ (∀ (s : State) (ch : Nat), exec (.tierEccBlockEvict ch) s = .next { s with tier := { s.tier with
      store := Tab.put ch (Tab.get [] s.tier.store ch).dropLast s.tier.store } })
  ∧ (∀ (s : State), s.pw.tierScrub = 2 → s.tier.usable = true → s.tier.lost.contains (s.tierChannel (64 * s.tier.scrubBlock)) = false →
    let b := s.tier.scrubBlock
    let ch := s.tierChannel (64 * b)
    let u := (s.storeTouch (64 * b) false).tier
    let pass := fun (t : Tier) => { s with tier := { t with
      scrubBlock := if s.tierBytes ≤ 64 * (b + 1) then 0 else b + 1
      passes := if s.tierBytes ≤ 64 * (b + 1) then satAdd 64 s.tier.passes 1 else s.tier.passes } }
    (s.tierEcc (64 * b) = .clean → exec .tierPatrolScrub s = .next (pass u))
    ∧ (∀ k e, s.tierEcc (64 * b) = .correctable k e → s.tier.hostHeld.contains (s.heldKey (64 * b)) = false →
      exec .tierPatrolScrub s = .next (pass { u with
        mem := Mem.writeN u.mem (64 * b) (bvBytes 64 (s.tierDecoded (64 * b) k e)), errs := Tab.del b s.tier.errs
        corrected := Tab.put ch (satAdd 64 (Tab.get 0 s.tier.corrected ch) 1) s.tier.corrected })))

/-! The drove fabric and the folds. -/

/-- DROVE_FLIT_DEPART of a core's own due position moves its payload to the link and the position on; DROVE_FLIT_ARRIVE takes an agreeing
flit as it is and replaces another, or one whose CRC-32 is wrong, by a counted NULL; a port drops a flit of another pen;
RESET_DRAIN_NULL_SUPPLY supplies a NULL at a draining port (R251, R253, R255, R261, R282, R314, R347). -/
def Obligations.DroveFlits : Prop :=
  (∀ (s : State) (out : Nat) (e : Ent) (p : Block), outKind out = 0 → out % 8 < 4 → isLocal out e = true → s.nextEnt out = some e →
    s.flitAt out (s.outSt out) e = some (0, p) → s.roomAfter out e = true → s.holdReady out = false →
    ∃ t, exec (.droveFlitDepart out) s = .next t ∧ (t.rawOut out).pos = (s.outSt out).pos + 1 ∧ (t.rawOut out).step = (s.outSt out).step
      ∧ ∃ f : DFlit, (t.rawIn out).wire = (s.rawIn out).wire ++ [f] ∧ f.kind = 0 ∧ f.step = (s.outSt out).step ∧ f.pos = (s.outSt out).pos
        ∧ f.payload = p)
  ∧ (∀ (s : State) (input m slot : Nat) (b : Bytes) (f : DFlit) (rest : List DFlit), s.prog = some (b, m, slot) → input < 0x10000 →
    (s.rawIn input).wire = f :: rest → (s.inSt input).pos < linkCount b m input (s.inSt input).desc →
    let i := s.inSt input
    let on := fun (t : State) => (takers s.width (s.tabs i.desc) input i.pos).foldl (fun u t => u.blockedAt t.1) t
    let take := fun (g : DFlit) => s.setIn input { i with wire := rest, buf := i.buf ++ [g], pos := i.pos + 1, gen := i.gen - 1 }
    ((f.step % 256 = i.step % 256 → f.pos = i.pos → f.kind ∈ [0, 2, 3, 4] →
      exec (.droveFlitArrive { link := input, crcBad := false }) s = .next (on (take { f with step := i.step, gone := [] })))
    ∧ (∀ bad, f.pos ≠ i.pos ∨ bad = true → exec (.droveFlitArrive { link := input, crcBad := bad }) s = .next
        (on ((take { pen := f.pen, kind := 4, step := i.step, pos := i.pos, payload := 0 }).modDiag
          fun d => { d with droveOrder := satAdd 64 d.droveOrder 1 })))))
  ∧ (∀ (s : State) (k : Nat) (bad : Bool) (f : DFlit) (rest : List DFlit), k < 32 → (s.rawIn (rxLink k)).wire = f :: rest → s.pen ≠ some f.pen →
    exec (.droveFlitArrive { link := rxLink k, crcBad := bad }) s = .next ((s.setIn (rxLink k) { s.inSt (rxLink k) with wire := rest }).modPort k fun p => { p with
      foreign := satAdd 64 p.foreign 1, rFreed := (p.rFreed + 1) % 1024, dHeld := p.dHeld - 1
      foreignFirst := if p.foreignFirst = 0 then f.pen * 65536 + f.kind % 8 else p.foreignFirst }))
  ∧ (∀ (s : State) (port m slot : Nat) (b : Bytes), s.prog = some (b, m, slot) → (s.port port).drain = true →
    let l := rxLink port
    let i := s.inSt l
    i.pos < linkCount b m l i.desc → i.wire.length + i.buf.length < bufSize s.width l →
    exec (.resetDrainNullSupply port) s = .next (s.setIn l { i with
      buf := i.buf ++ [{ pen := Img.pen b, kind := 4, step := i.step, pos := i.pos, payload := 0 }], pos := i.pos + 1, gen := i.gen - 1 }))

/-- POSITION_DUE: an unstaged position of a core that was held in its step is held with the recorded cause, of one that was not is a late
send fault; HOLD flits go to every output that takes their position, queue there, depart in order and are generated by a port's receive
side; a port discards one of another pen; DROVE_STALL silences the core, records the flow and raises source 18 (R24, R48, R261 to R266,
R274, R275, R282, R333, R519). That a cause of 0 reads as 1, a case the spec leaves out, is the model's choice (log 38). -/
def Obligations.HoldFlitsAndStall : Prop :=
  (∀ (s : State) (out i : Nat) (e : Ent), outKind out ≠ 1 → s.duePosition out = some (i, e) → (s.core (out / 8)).run = .run →
    s.pw.keeper = false →
    let o := s.outSt out
    (∀ k, s.recordedCause (out / 8) o.step = some k → o.holdQ.length < 16 →
      let h : HFlit := { pen := s.pen.getD 0, cause := k, step := o.step, pos := i, omod := s.modNum, osite := out / 8, desc := o.desc }
      exec (.positionDue out) s = .next (s.setOut out { o with
        holdQ := o.holdQ ++ [h], held := h :: o.held.filter fun x => !x.isFor o.step i }))
    ∧ (s.recordedCause (out / 8) o.step = none → exec (.positionDue out) s = .next (s.faultOutside (out / 8) 12)))
  ∧ (∀ (s : State) (x : LinkHold) (cause step pos omod osite m slot d : Nat) (b : Bytes), s.prog = some (b, m, slot) →
    (x.link < 0x10000 ∨ s.pen = some x.pen) →
    let t := extendTally 8 (step % 256) (s.inSt x.link).step
    let read := if cause = 0 ∨ 9 < cause then 1 else cause
    let u := if 0x10000 ≤ x.link ∧ (cause = 0 ∨ 9 < cause) then s.modPort (x.link % 32) fun q => q.count 10 1 else s
    s.descAt b x.link t = some d →
    exec (.holdFlitArrive x cause step pos omod osite) s = .next ((takers s.width (s.tabs d) x.link pos).foldl
      (fun v y => v.holdAt y.1 { pen := x.pen, cause := read, step := t, pos := y.2, omod, osite, desc := d }) u))
  ∧ (∀ (s : State) (out m slot : Nat) (b : Bytes) (h : HFlit) (e : Ent), s.prog = some (b, m, slot) → outKind out = 0 → out % 8 < 4 →
    let o := s.outSt out
    (Img.ents b m h.desc out)[h.pos]? = some e → o.holdQ.length < 16 → isAfter 48 o.step h.step = false → (h.step = o.step → o.pos ≤ h.pos) →
    (o.held.any fun x => x.isFor h.step h.pos && x.cause != 0) = false →
    s.holdAt out h = s.setOut out { o with holdQ := o.holdQ ++ [h], held := h :: o.held })
  ∧ (∀ (s : State) (x : LinkHold) (cause step pos omod osite : Nat), 0x10000 ≤ x.link → s.pen ≠ some x.pen →
    let p := s.port (x.link % 32)
    exec (.holdFlitArrive x cause step pos omod osite) s = .next (s.setPort (x.link % 32) { p with
      foreign := satAdd 64 p.foreign 1, foreignFirst := if p.foreignFirst = 0 then x.pen * 65536 + 1 else p.foreignFirst }))
  ∧ (∀ (s : State) (out : Nat) (h : HFlit) (rest : List HFlit), (s.outSt out).holdQ = h :: rest →
    let u := s.setOut out { s.outSt out with holdQ := rest }
    (outKind out ≠ 1 → s.holdRoom out h = true → exec (.holdFlitDepart out) s = .next (u.holdOnLink out h))
    ∧ (outKind out = 1 → (s.port (out % 32)).drain = false → (s.port (out % 32)).st = .active → (s.port (out % 32)).holdQ = [] →
        exec (.holdFlitDepart out) s = .next (u.setPort (out % 32) { s.port (out % 32) with holdQ := [h] })))
  ∧ (∀ (s : State) (port m slot cause : Nat) (b : Bytes), s.prog = some (b, m, slot) → (s.port port).holdCause = some cause →
    let l := rxLink port
    let i := s.inSt l
    i.pos + i.gen < linkCount b m l i.desc → exec (.portHoldGenerate port) s = .next ((s.setIn l { i with gen := i.gen + 1 }).holdOnLink l
      { pen := Img.pen b, cause, step := i.step, pos := i.pos + i.gen, omod := s.modNum, osite := 0x8000 + port, desc := i.desc }))
  ∧ (∀ (s : State) (n flow : Nat), (s.core n).stalls flow = true → ∃ u, exec (.droveStall n flow) s = .next (u.coreEvent n 18)
      ∧ u = s.setCore n { (s.core n).failed 7 n with
          run := .silent, stopping := false, holds := [], hurdles := [], stepStart := some ((s.core n).stepStart.getD s.now)
          stallRec := flow * 2 ^ 48 + (s.core n).tally % 2 ^ 48 })

/-- The fold unit: a core's arrival carries the lowest of its failing conditions; the module's arrival is sent, at the root as the
outcome; a child's arrival and the parent's outcome are taken, an outcome that comes before the arrival once it is formed; the outcome opens a new stray epoch at a core it reaches; at the timeout
what is missing fails with reason 8 (R35, R235, R279 to R281, R300, R301, R597, R602). -/
def Obligations.FoldEvents : Prop :=
  (∀ (s : State) (n f t : Nat), s.foldNow = some (f, t) → (s.core n).run ≠ .idle → (s.core n).foldSent = false → (s.core n).tally = t →
    s.foldNamed n = some f → s.fab.fold.outcome = none → s.fab.fold.arrival = none → (s.core n).foldReady = true →
    exec (.foldArrivalSend n) s = .next ((s.setCore n { s.core n with
      failing := [], foldSent := true, hurdles := (s.core n).hurdles.filter fun h => !h.fold }).modFold fun u => { u with
      cores := u.cores ++ [(n, lowestFailure ((s.core n).failing.map fun g => { reason := g.1, fmod := s.modNum, fsite := g.2 }))] }))
  ∧ (∀ (s : State) (f t : Nat), s.foldNow = some (f, t) → s.allArrived f = true → s.fab.fold.arrival = none → s.fab.fold.outcome = none →
    let a := s.formArrival
    let u := s.modFold fun k => { k with arrival := some a }
    ((s.foldPlace f).1 = 0x3F → exec .foldArrivalComplete s = .next (u.holdOutcome (foldMsg f t a)))
    ∧ ((s.foldPlace f).1 ≠ 0x3F → (s.port (s.foldPlace f).1).drain = false →
        let v := u.modFold fun k => { k with tx := k.tx ++ [((s.foldPlace f).1, 2, foldMsg f t a)] }
        (s.fab.fold.early = none → exec .foldArrivalComplete s = .next v)
        ∧ (∀ m, s.fab.fold.early = some (some m) → exec .foldArrivalComplete s = .next (v.holdOutcome m))))
  ∧ (∀ (s : State) (f t port : Nat) (m : FoldMsg), s.foldNow = some (f, t) → s.fab.fold.outcome = none → s.fab.fold.arrival = none →
    port ∈ (s.foldPlace f).2 → (s.fab.fold.children.any fun c => c.1 == port) = false → m.status ≤ 1 → m.reason ≤ 8 →
    exec (.foldUpReceive port m) s = .next ((s.modDiag fun d => { d with droveOrder := satAdd 64 d.droveOrder 0 }).modFold fun u => { u with
      children := u.children ++ [(port, if m.status = 0 then none else some { reason := m.reason, fmod := m.fmod, fsite := m.fsite },
        if m.status = 0 then 0 else m.nfail)] }))
  ∧ (∀ (s : State) (f t port : Nat) (m : FoldMsg), s.foldNow = some (f, t) → (s.foldPlace f).1 = port →
    m.tally = t → m.status ≤ 1 → m.reason ≤ 8 →
    let u := s.modDiag fun d => { d with droveOrder := satAdd 64 d.droveOrder 0 }
    (s.fab.fold.arrival ≠ none → exec (.foldDownReceive port m) s = .next (u.holdOutcome m))
    ∧ (s.fab.fold.arrival = none → exec (.foldDownReceive port m) s =
        .next (u.modFold fun k => { k with early := some (k.early.getD (some m)) })))
  ∧ (∀ (s : State) (n : Nat) (m : FoldMsg), s.fab.fold.outcome = some m → (s.core n).run ≠ .idle → (s.core n).foldDone = false →
    let c := { (s.core n).keepCount.fresh with foldDone := true, holds := (s.core n).holds.filter fun h => !(h.1 == 8 && h.2.2 == 6) }
    (m.status ≠ 0 → exec (.foldOutcomeReachCore n) s = .next ((s.setCore n c).nextFold.finishFold))
    ∧ (m.status = 0 → exec (.foldOutcomeReachCore n) s = .next ((s.setCore n { c with
        epoch := (c.epoch + 1) % 4, sendSeq := [], recvSeq := [] }).nextFold.finishFold)))
  ∧ (∀ (s : State) (f t k : Nat), s.foldNow = some (f, t) → s.fab.fold.outcome = none → s.fab.fold.arrival = none → s.fab.fold.cores ≠ [] →
    s.allArrived f = false → s.missingSite f = some k → exec .foldTimeout s = .next ((s.addFailure 8 k).sendArrival f t))

/-! The stray network. -/

/-- A packet that has come to its core: the eject output has it whole with its last flit, and the host accesses are counted (R89, R291). -/
def Sys2Proof.Spec.ejected (s : State) (n : Nat) (p : Packet) : State :=
  { s with net := { s.net with packets := [] } }.setCore n { s.core n with
    ejectQ := (s.core n).ejectQ ++ [{ p with bounced := false }]
    hostWaiting := if p.isReq && 2048 ≤ p.src then (s.core n).hostWaiting ++ [(p.srcKey, p.pseq)] else (s.core n).hostWaiting }

/-- A stray waits and ages and is ejected at its destination, at once when it is one flit and over further slot times when it has data
flits, a bad CRC-32 losing it; a request in order is performed line by line and answered, and its response, when its line's bank is free,
retires the request; a request without a response goes out once more and then is retired with STATUS 4 while a SKIP takes its place (R85,
R243, R244, R285, R287, R290 to R292, R294, R296, R300 to R304). -/
def Obligations.StrayEvents : Prop :=
  (∀ (s : State) (n k : Nat) (bad : List Nat) (a : StrayAt), n < s.nCores → (s.core n).respQ = [] → s.net.injQ = [] → s.net.sending = [] →
    s.net.packets = [(k, a)] → a.node = n → s.isHere a.packet = true → a.packet.dag = 0 → a.packet.dest = n → a.packet.escapes = false →
    a.packet.bounced = false → s.strayFree (routerOut n 4) a.packet.ch a.packet.isReq = true →
    (a.packet.ndi = 0 → bad.contains (routerOut n 4) = false → exec (.strayRoute { node := n, bad }) s = .next (Spec.ejected s n a.packet))
    ∧ (a.packet.ndi = 0 → bad.contains (routerOut n 4) = true → exec (.strayRoute { node := n, bad }) s =
        .next ({ s with net := { s.net with packets := [] } }.modDiag fun d => { d with framing := satAdd 64 d.framing 1 }))
    ∧ (a.packet.ndi ≠ 0 → exec (.strayRoute { node := n, bad }) s = .next { s with net := { s.net with
        sending := [{ out := routerOut n 4, packet := k, left := a.packet.ndi, lost := bad.contains (routerOut n 4), deflected := false }] } }))
  ∧ (∀ (s : State) (k : Nat), exec (.strayAgeTick k) s = .next { s with net := { s.net with packets := s.net.packets.map fun e =>
      if e.1 = k then (k, if 16 ≤ e.2.waited then { e.2 with waited := e.2.waited - 16, packet := { e.2.packet with age := min 255 (e.2.packet.age + 1) } }
        else e.2) else e } })
  ∧ (∀ (s : State) (n k : Nat) (a : StrayAt), n < s.nCores → s.net.sending = [] → s.net.packets = [(k, a)] → a.node = n →
    s.isHere a.packet = true → a.packet.dag = 0 → a.packet.dest = n → a.packet.bounced = false →
    s.strayFree (routerOut n 4) a.packet.ch a.packet.isReq = true →
    let u : State := if a.packet.escapes = true then { s with net := { s.net with served := Tab.put (routerOut n 4) (s.inputNo n a) s.net.served } } else s
    (a.packet.ndi = 0 → exec (.strayEject n) s = .next (Spec.ejected u n { a.packet with
      ch := if 64 ≤ a.packet.age ∧ a.packet.ch < 2 then a.packet.ch + 2 else a.packet.ch }))
    ∧ (a.packet.ndi ≠ 0 → exec (.strayEject n) s = .next { u with net := { u.net with
        sending := [{ out := routerOut n 4, packet := k, left := a.packet.ndi, lost := false, deflected := false }] } }))
  ∧ (∀ (s : State) (n k : Nat) (a : StrayAt) (x : Sending), n < s.nCores → s.net.sending = [x] → x.out = routerOut n 4 → x.packet = k →
    s.net.packets = [(k, a)] → a.packet.escapes = false → s.droveNow (routerOut n 4) = false →
    (x.left = 1 → x.lost = false → x.deflected = false →
      exec (.strayEject n) s = .next (Spec.ejected { s with net := { s.net with sending := [] } } n a.packet))
    ∧ (1 < x.left → exec (.strayEject n) s = .next { s with net := { s.net with sending := [{ x with left := x.left - 1 }] } }))
  ∧ (∀ (s : State) (n : Nat) (q : Packet) (d : Block), s.pw.keeper = false →
    let c := s.core n
    let line := q.addr / 64
    c.work = none → c.loads = [] → c.reorder = [] → c.hurdles = [] → c.holds = [] → c.hostHold = none → c.queue ≠ [] → c.inbound.length < 24 →
    c.respQ.length < 4 → c.ejectQ = [q] → q.type = 1 → q.src < 2048 → q.fep = c.epoch → q.datas = [d] →
    (c.recvSeq.any fun e => e.1 == q.srcKey) = true → Tab.get 0 c.recvSeq q.srcKey = q.pseq → c.lets (s.runSlot.getD 4) line 0 = true →
    q.mask = 0xFFFF →
    (s.bankForStray n (bankOf line) = true → exec (.strayRequestPerform n) s = .next (s.setCore n { c.writeLine line (lineOf d 0) with
      ejectQ := [], banks := bankOf line :: c.banks, respQ := c.respQ ++ [q.response 0 0 []]
      recvSeq := Tab.put q.srcKey ((q.pseq + 1) % 1024) c.recvSeq, hostWaiting := c.hostWaiting.erase (q.srcKey, q.pseq) }))
    ∧ (s.bankForStray n (bankOf line) = false → exec (.strayRequestPerform n) s = .next (s.setCore n { c with ejectQ := [], work := some { req := q } })))
  ∧ (∀ (s : State) (n : Nat) (q : Packet), n < 2048 → (s.core n).ejectQ = [q] → (s.core n).reorder = [] → q.isRsp = true →
    let u := s.setCore n { s.core n with ejectQ := [] }
    (matchOut (s.core n).outs 0 q = none →
      exec (.strayResponseLand n) s = .next ((u.modDiag fun d => { d with staleRsp := satAdd 64 d.staleRsp 1 }).refresh n))
    ∧ (∀ o, matchOut (s.core n).outs 0 q = some o → inOrder (s.core n).outs o = true → s.mayLand n o = true →
        exec (.strayResponseLand n) s = .next (u.retire n o q))
    ∧ (∀ o, matchOut (s.core n).outs 0 q = some o → inOrder (s.core n).outs o = false →
        exec (.strayResponseLand n) s = .next ((s.setCore n { s.core n with ejectQ := [], reorder := [q] }).refresh n)))
  ∧ (∀ (s : State) (a k : Nat) (z : StrayAt), a < 3 → s.net.packets = [(k, z)] → z.node = 12288 + a →
    let u : State := { s with net := { s.net with packets := [] } }
    (matchOut s.net.agents (65536 * a) z.packet = none →
      exec (.strayResponseLand (2048 + a)) s = .next (u.modDiag fun d => { d with staleRsp := satAdd 64 d.staleRsp 1 }))
    ∧ (∀ o, matchOut s.net.agents (65536 * a) z.packet = some o → inOrder (s.agentTab a) o = true →
        exec (.strayResponseLand (2048 + a)) s = .next (u.agentRetire a o z.packet)))
  ∧ (∀ (s : State) (n rtag : Nat) (e : Nat × OutReq), n < 2048 → ((s.core n).outs.find? fun o => o.1 == rtag) = some e →
    (e.2.resent = false → exec (.strayResponseTimeout n rtag) s = .next ((s.setCore n { s.core n with
      outs := Tab.put rtag { e.2 with resent := true } (s.core n).outs }).injectAt n e.2.packet))
    ∧ (e.2.resent = true → s.mayLand n e.2 = true →
        exec (.strayResponseTimeout n rtag) s = .next ((s.retire n e.2 e.2.packet.unknown).injectAt n e.2.packet.skip)))
  ∧ (∀ (s : State) (a rtag : Nat) (e : Nat × OutReq), (s.net.agents.find? fun o => o.1 == 65536 * a + rtag) = some e →
    (e.2.resent = false → exec (.strayResponseTimeout (2048 + a) rtag) s = .next (({ s with net := { s.net with
      agents := Tab.put (65536 * a + rtag) { e.2 with resent := true } s.net.agents } }).injectAt (4096 + agentDie a) e.2.packet))
    ∧ (e.2.resent = true → exec (.strayResponseTimeout (2048 + a) rtag) s =
        .next ((s.agentRetire a e.2 e.2.packet.unknown).injectAt (4096 + agentDie a) e.2.packet.skip)))

/-! The Xancel link. -/

/-- CODEWORD_RECEIVE counts a decoded codeword and its corrected symbols by lane, and an uncorrectable one puts an ACTIVE receiver into
RETRY; a flit with a bad CRC does so too; the next expected drove flit of the running pen advances E, ends RETRY and waits on the link in
the clear; the two slices of an IDLE's SIDE make a link message (that SOM = 1 always begins one is log 42's); ACK frees replay entries and starts a replay for a new NAKID; CREDIT and STEP messages are taken; more credits than were sent
reset the port (R254, R268, R313, R317, R319, R321, R329, R331, R332, R337, R340, R344). -/
def Obligations.LinkReceives : Prop :=
  (∀ (s : State) (port : Nat) (lanes : List Nat), (s.port port).st ≠ .off → (s.port port).st ≠ .detect →
    let p := s.port port
    (lanes.length ≤ 16 → (∀ m cw, p.laneOp ≠ .switchOut m cw) → exec (.codewordReceive port lanes) s = .next (s.setPort port { p.count 1 lanes.length with
      badCws := 0, cwRecv := (p.cwRecv + 1) % 65536
      laneErrs := lanes.map (fun l => (s.now, l)) ++ p.laneErrs.filter fun e => decide (s.now < e.1 + 3600000)
      laneCorrected := lanes.foldl (fun t l => Tab.put l (satAdd 64 (Tab.get 0 t l) 1) t) p.laneCorrected }))
    ∧ (16 < lanes.length → p.st = .active → p.retry = false → (∀ m cw, p.laneOp ≠ .switchOut m cw) →
      exec (.codewordReceive port lanes) s = .next (s.setPort port { p.count 2 1 with
      badCws := p.badCws + 1, cwRecv := (p.cwRecv + 1) % 65536, trainRun := 0, rxSlice := none
      retry := true, nakid := (p.nakid + 1) % 8, nakNew := true, retries := p.retries + 1 })))
  ∧ (∀ (s : State) (port : Nat) (raw : Bytes), s.must.slot = none → (s.port port).st = .active → (s.port port).retry = false →
    crc32 (raw.take 268) ≠ field raw 268 4 →
    let p := s.port port
    exec (.sequencedFlitReceive port raw) s = .next (s.setPort port { p.count 3 1 with
      rxSlice := none, trainRun := 0, retry := true, nakid := (p.nakid + 1) % 8, nakNew := true, retries := p.retries + 1 }))
  ∧ (∀ (s : State) (port : Nat) (raw : Bytes) (keys : Bytes × Bytes), s.must.slot = none → (s.port port).st = .active → (s.port port).keys = some keys →
    raw.length = 272 → crc32 (raw.take 268) = field raw 268 4 → bits (field raw 0 4) 15 14 = 1 →
    bits (field raw 0 4) 31 16 = (s.port port).expect % 65536 → bit (field raw 0 4) 13 = false → (s.port port).rxSlice = none →
    let tag := field raw 4 8
    s.pen = some (bits tag 63 48) → bit tag 47 = false → bits tag 46 44 = 0 → (s.port port).dHeld < 160 → (s.port port).drain = false →
    let p := s.port port
    let i := s.rawIn (rxLink port)
    exec (.sequencedFlitReceive port raw) s = .next (((s.setPort port { p with expect := p.expect + 1, retry := false, retries := 0 }).setIn
      (rxLink port) { i with wire := i.wire ++ [{ pen := bits tag 63 48, kind := 0, step := bits tag 39 32, pos := bits tag 31 16
                                                  payload := sealPayload keys.2 p.expect (bytesBv 2048 (slice raw 12 256)) }] }).setPort port
      { p with expect := p.expect + 1, retry := false, retries := 0, dHeld := p.dHeld + 1 }))
  ∧ (∀ (s : State) (port : Nat) (raw : Bytes), s.must.slot = none → (s.port port).st = .active → raw.length = 272 →
    crc32 (raw.take 268) = field raw 268 4 → bits (field raw 0 4) 15 14 = 0 → bits (field raw 0 4) 31 16 = (s.port port).expect % 65536 →
    let p := s.port port
    let w := field raw 0 4
    (bit w 13 = true → exec (.sequencedFlitReceive port raw) s = .next (s.setPort port { p with rxSlice := some (bits w 12 0) }))
    ∧ (∀ a, bit w 13 = false → p.rxSlice = some a → exec (.sequencedFlitReceive port raw) s =
        .next ((s.setPort port { p with rxSlice := none }).linkMessage port (8192 * a + bits w 12 0))))
  ∧ (∀ (s : State) (port : Nat) (a : BitVec 16) (retry : Bool) (nakid : BitVec 3), s.must.slot = none →
    (s.port port).st = .active ∨ (s.port port).st = .retrain →
    let p := s.port port
    let d := wrapDiff 16 a.toNat ((p.eseq - p.replay.length) % 65536)
    0 ≤ d → d ≤ p.replay.length →
    exec (.ackReceive port a retry nakid) s = .next (s.setPort port (p.acked d.toNat retry nakid.toNat)))
  ∧ (∀ (p : Port) (d nakid : Nat) (retry : Bool), (p.acked d retry nakid).replay = p.replay.drop d ∧ (p.acked d retry nakid).proofRepeat = false
    ∧ (retry = true → nakid ≠ p.nakActed → (p.acked d retry nakid).replayAt = (p.replay.drop d).head?.map (·.1)
        ∧ (p.acked d retry nakid).nakActed = nakid)
    ∧ (retry = false → (p.acked d retry nakid).nakActed = p.nakActed))
  ∧ (∀ (s : State) (port : Nat) (df : BitVec 10) (q r eq er : BitVec 2), s.must.slot = none → (s.port port).st = .active ∨ (s.port port).st = .retrain →
    let p := s.port port
    let fr := [q.toNat, r.toNat, eq.toNat, er.toNat]
    (p.dSent + 1024 - df.toNat) % 1024 ≤ 160 → (∀ k < 4, (Tab.get 0 p.sSent k + 4 - fr.getD k 0) % 4 ≤ 2) →
    exec (.creditReceive port df q r eq er) s = .next (s.setPort port { p with
      dFreed := df.toNat, sFreed := Tab.put 3 er.toNat (Tab.put 2 eq.toNat (Tab.put 1 r.toNat (Tab.put 0 q.toNat p.sFreed))) }))
  ∧ (∀ (s : State) (port : Nat) (df : BitVec 10) (q r eq er : BitVec 2), s.must.slot = none → (s.port port).st = .active →
    160 < ((s.port port).dSent + 1024 - df.toNat) % 1024 → exec (.creditReceive port df q r eq er) s = .next (s.resetPort port 2 true false))
  ∧ (∀ (s : State) (port : Nat) (t : BitVec 16), (s.port port).st = .active ∨ (s.port port).st = .retrain →
    exec (.stepMessageReceive port t) s = .next (s.stepReport port (extendTally 16 t.toNat s.moduleTally)))

/-- What a port that enters RETRAIN is, at the EQUALIZE part of it, WITHDRAWs yet unsent kept (R323, R335, R342, R343). -/
def Sys2Proof.Spec.retraining (p : Port) : Port :=
  { p.count 8 1 with
    st := .retrain, laneOp := .none, ignored := false, laneMsgs := p.laneMsgs.filter fun b => bits b 22 20 == 3
    retrainCmd := false, converged := 0, relock := false, trainRun := 0, locked := false, peerLocked := false, badCws := 0, replayAt := none
    cwFlits := [], slice2 := none, rxSlice := none, deskew := 0 }

/-- FLIT_TIME_TRANSMIT sends the oldest drove flit of an ACTIVE port that has nothing before it, sealed, sequenced and kept for replay, a
TRAIN flit in LOCK, and training frames in DETECT; loss of codeword lock, a missing ACK, sixteen retries and the peer's RETRAIN-REQ put the
port into RETRAIN with source 80; locked again at both ends it is ACTIVE in RETRY, one RETRY more (log 42's reading); a commanded retrain
queues three RETRAIN-REQs once no lane operation is in progress (R318, R323, R324, R329, R331, R333, R335, R339, R343). -/
def Obligations.LinkTransmitsAndRetrains : Prop :=
  (∀ (s : State) (port : Nat) (f : DFlit) (rest : List DFlit), s.must.slot = none →
    let p := s.port port
    p.st = .active → p.laneOp = .none → p.retrainCmd = false → p.deskew = 0 → p.holdQ = [] → p.replayAt = none → p.replay.length < 8212 → p.droveQ = f :: rest →
    let body := flitBody (droveTag f) (sealPayload (match p.keys with | some k => k.1 | none => []) p.eseq f.payload)
    exec (.flitTimeTransmit port) s = .next ((s.setPort port { p with
      droveQ := rest, dSent := (p.dSent + 1) % 1024, eseq := p.eseq + 1, replay := p.replay ++ [(p.eseq, body)]
      counts := Tab.put 5 (max (p.replay.length + 1) (Tab.get 0 p.counts 5)) p.counts }).putFlit port p.eseq 1 body))
  ∧ (∀ (s : State) (port : Nat), s.must.slot = none →
    ((s.port port).st = .lock → exec (.flitTimeTransmit port) s = .next (s.sendTrain port))
    ∧ ((s.port port).st = .detect → exec (.flitTimeTransmit port) s = .next { s with
        sent := [Sent.trainFrame port 3 (s.port port).converged none, .trainFrame port 2 (s.port port).converged none
                 , .trainFrame port 1 (s.port port).converged none, .trainFrame port 0 (s.port port).converged none] ++ s.sent }))
  ∧ (∀ (s : State) (port : Nat), s.must.slot = none → (s.port port).st = .active →
    let t := (s.setPort port (Spec.retraining (s.port port))).assertEvent (port / 16) (80 + port % 16)
    (8 ≤ (s.port port).badCws → exec (.codewordLockLoss port) s = .next t)
    ∧ ((s.port port).replay ≠ [] → exec (.ackTimeout port) s = .next t)
    ∧ (16 ≤ (s.port port).retries → exec (.replayRetryLimit port) s = .next t)
    ∧ ((s.port port).laneOp = .none → exec (.retrainReqReceive port) s = .next t))
  ∧ (∀ (s : State) (port : Nat) (rx peer : BitVec 4), (s.port port).st = .retrain → (s.port port).relock = true →
    (s.port port).locked = true → (s.port port).peerLocked = true → rx ≠ 0 → peer ≠ 0 →
    let p := s.port port
    exec (.retrainRelock port rx peer) s = .next (s.setPort port { p with
      st := .active, converged := rx, rxLanes := rx, txLanes := peer, retry := true, nakid := (p.nakid + 1) % 8, nakNew := true
      retries := p.retries + 1, badCws := 0, cwSent := 0, cwRecv := 0 }))
  ∧ (∀ (s : State) (port : Nat), (s.port port).st = .active →
    ((s.port port).laneOp = .none → exec (.portCmdRetrain port) s = .next (s.setPort port { s.port port with
      laneMsgs := (s.port port).laneMsgs ++ [2 * 2 ^ 20, 2 * 2 ^ 20, 2 * 2 ^ 20], laneOp := .retrainOut, laneSent := false, retrainCmd := false }))
    ∧ ((s.port port).laneOp ≠ .none → exec (.portCmdRetrain port) s = .next (s.setPort port { s.port port with retrainCmd := true })))

/-- The lane operations of an ACTIVE port: SWITCH is taken for its codeword, takes effect there with two codewords for deskew, and ends at
the receiver after them; ADD-REQ and WITHDRAW; a lane over the threshold is dropped by SWITCH, the last one forces a retrain; a locked
lane is switched in, a late one withdrawn, a dropped one tried again (R339 to R343, R491, R503). -/
def Obligations.LaneOperations : Prop :=
  (∀ (s : State) (port : Nat) (mask : BitVec 4) (cw : BitVec 16), s.must.slot = none → (s.port port).st = .active → (s.port port).laneOp = .none →
    mask.toNat ≠ 0 → mask.toNat &&& (s.port port).txLanes.toNat = mask.toNat →
    (isAfter 16 cw.toNat (s.port port).cwSent = true → exec (.switchReceive port mask cw) s = .next (s.setPort port { s.port port with
      laneOp := .switchIn mask.toNat cw.toNat }))
    ∧ (isAfter 16 cw.toNat (s.port port).cwSent = false → exec (.switchReceive port mask cw) s = .next (s.setPort port { s.port port with
      laneOp := .none, laneMsgs := (s.port port).laneMsgs ++ [3 * 2 ^ 20] })))
  ∧ (∀ (s : State) (port m cw : Nat), (s.port port).st = .active →
    let p := s.port port
    let new := BitVec.ofNat 4 m
    (p.laneOp = .switchIn m cw → p.deskew = 0 → p.cwFlits = [] → atOrAfter 16 p.cwSent cw = true →
      exec (.laneSwitchEffect port) s = .next ((s.setPort port { p.countLanes p.txLanes new with txLanes := new, deskew := 2 }).assertEvent
        (port / 16) (80 + port % 16)))
    ∧ (p.laneOp = .switchOut m cw → atOrAfter 16 p.cwRecv (cw + 2) = true →
      exec (.laneSwitchEffect port) s = .next ((s.setPort port { p.countLanes p.rxLanes new with rxLanes := new, laneOp := .none }).assertEvent
        (port / 16) (80 + port % 16))))
  ∧ (∀ (s : State) (port : Nat) (mask : BitVec 4), (s.port port).st = .active → (s.port port).laneOp = .none →
    exec (.addReqReceive port mask) s = .next (s.setPort port { s.port port with laneOp := .addIn mask.toNat }))
  ∧ (∀ (s : State) (port : Nat), (s.port port).st = .active → (s.port port).ignored = false → (s.port port).deskew = 0 →
    exec (.withdrawReceive port) s = .next (s.setPort port { s.port port with laneOp := .none }))
  ∧ (∀ (s : State) (port lane : Nat), s.must.slot = none → (s.port port).st = .active → (s.port port).rxLanes.getLsbD lane = true →
    (Tab.get ({} : PortNv) s.nv.ports port).drop < ((s.port port).laneErrs.filter fun e => e.2 == lane && decide (s.now < e.1 + 3600000)).length →
    let p := s.port port
    let cw := (p.cwRecv + 64) % 65536
    let mask := p.rxLanes.toNat - 2 ^ lane
    (laneCount p.rxLanes ≠ 1 → p.laneOp = .none → exec (.laneDropThreshold port lane) s = .next (s.setPort port { p with
      laneMsgs := p.laneMsgs ++ [laneBody 0 mask cw], laneOp := .switchOut mask cw, laneSent := false }))
    ∧ (laneCount p.rxLanes = 1 → exec (.laneDropThreshold port lane) s = .next
        ((s.setPort port (Spec.retraining p)).assertEvent (port / 16) (80 + port % 16))))
  ∧ (∀ (s : State) (port lane mask : Nat), (s.port port).laneOp = .addOut lane mask →
    let p := s.port port
    let cw := (p.cwRecv + 64) % 65536
    exec (.laneAddLocked port) s = .next (s.setPort port { p with laneMsgs := p.laneMsgs ++ [laneBody 0 mask cw], laneOp := .switchOut mask cw })
    ∧ exec (.laneAddTimeout port) s = .next (s.setPort port { p with laneMsgs := p.laneMsgs ++ [3 * 2 ^ 20], laneOp := .none }))
  ∧ (∀ (s : State) (port lane : Nat), (s.port port).st = .active → lane < 4 → (s.port port).rxLanes.getLsbD lane = false →
    (s.port port).laneOp = .none → (Tab.get ({} : PortNv) s.nv.ports port).autoAdd = 1 →
    let p := s.port port
    let mask := p.rxLanes.toNat + 2 ^ lane
    exec (.laneAddRetry port lane) s = .next (s.setPort port { p with laneMsgs := p.laneMsgs ++ [laneBody 1 mask 0], laneOp := .addOut lane mask, laneSent := false }))

/-- What a port that goes back to DETECT is (R323, R327). -/
def Sys2Proof.Spec.detecting (p : Port) : Port :=
  { p with st := .detect, ephKey := 0, keys := none, peerHello := none, proofRepeat := false, ctlQ := [], converged := 0
           trainRun := 0, locked := false, peerLocked := false }

/-- The lane sets are taken and a new codeword stream and TRAIN attempt begin (R311, R322 to R324). -/
def Sys2Proof.Spec.locking (p : Port) (rx tx : BitVec 4) : Port :=
  { p with converged := rx, rxLanes := rx, txLanes := tx, trainRun := 0, locked := false, peerLocked := false, cwFlits := [], symbols := 0
           flitCount := 0, slice2 := none, rxSlice := none, cseq := Tab.put 1 ((Tab.get 0 p.cseq 1 + 1) % 256) p.cseq }

/-- The states of a port on its way to ACTIVE: signal, equalization (a lane whose frames carry another number has not converged), TRAIN flits until both ends are locked, SEAL with its HELLO and PROOF
and their refusals, and the timeouts back to DETECT, which erase the keys (R323 to R328). -/
def Obligations.PortTraining : Prop :=
  (∀ (s : State) (port : Nat), (s.port port).st = .detect → exec (.portSignalDetect port) s = .next (s.setPort port { s.port port with
    st := .equalize, converged := 0 }))
  ∧ (∀ (x : LaneFrames) (i : Nat), i < 4 → (LaneFrames.lanes x).getLsbD i = (x.set.getLsbD i && x.numbers.getD i 4 == i))
  ∧ (∀ (s : State) (port : Nat) (x : LaneFrames) (peer : BitVec 4),
    ((s.port port).st = .equalize → (LaneFrames.lanes x) ≠ 0 → peer ≠ 0 →
      exec (.equalizeEnd port x peer) s = .next (s.setPort port { Spec.locking (s.port port) (LaneFrames.lanes x) peer with st := .lock }))
    ∧ ((s.port port).st = .equalize → (LaneFrames.lanes x) = 0 ∨ peer = 0 →
      exec (.equalizeEnd port x peer) s = .next (s.setPort port (Spec.detecting (s.port port))))
    ∧ ((s.port port).st = .retrain → (s.port port).relock = false → (LaneFrames.lanes x) ≠ 0 → peer ≠ 0 →
      exec (.equalizeEnd port x peer) s = .next (s.setPort port { Spec.locking (s.port port) (LaneFrames.lanes x) peer with relock := true })))
  ∧ (∀ (s : State) (port : Nat) (b : Block), (s.port port).st = .lock → Block.field b 0 1 = 1 →
    let p := s.port port
    let q := { p with trainRun := p.trainRun + 1, locked := p.locked || decide (16 ≤ p.trainRun + 1), peerLocked := bit (Block.field b 3 1) 0 }
    exec (.trainFlitReceive port b) s = .next (if q.locked && q.peerLocked then (s.setPort port q).enterSeal port else s.setPort port q))
  ∧ (∀ (s : State) (port : Nat),
    ((s.port port).st = .lock → exec (.lockTimeout port) s = .next (s.setPort port (Spec.detecting (s.port port))))
    ∧ ((s.port port).st = .seal → exec (.sealTimeout port) s = .next (s.setPort port (Spec.detecting (s.port port))))
    ∧ ((s.port port).st = .seal → (s.port port).peerHello = none → exec (.sealHelloSend port) s = .next (s.setPort port { s.port port with
        cseq := Tab.put 2 (Tab.get 0 (s.port port).cseq 2 % 256) (s.port port).cseq
        ctlQ := (s.port port).ctlQ ++ [(2, Tab.get 0 (s.port port).cseq 2 % 256, (s.port port).hello)] }))
    ∧ ((s.port port).proofRepeat = true → (s.port port).st = .seal ∨ (s.port port).st = .active →
        exec (.sealProofRepeat port) s = .next (s.setPort port { s.port port with
          cseq := Tab.put 3 (Tab.get 0 (s.port port).cseq 3 % 256) (s.port port).cseq
          ctlQ := (s.port port).ctlQ ++ [(3, Tab.get 0 (s.port port).cseq 3 % 256, (s.port port).proof)] })))
  ∧ (∀ (s : State) (port : Nat) (h : Block), (s.port port).st = .seal → (s.port port).peerHello = none →
    match s.helloRefusal h with
    | some r => exec (.sealHelloReceive port h) s = .next (s.setPort port { Spec.detecting (s.port port) with
        refuse := r, refusePeer := Block.field h 0 8 })
    | none => ∃ t, exec (.sealHelloReceive port h) s = .next t ∧ (t.port port).peerHello = some h
        ∧ (t.port port).keys = some (sealKeys (s.port port).ephKey (s.port port).hello h) ∧ (t.port port).ephKey = 0
        ∧ (t.port port).proofRepeat = true ∧ (t.port port).st = .seal)
  ∧ (∀ (s : State) (port : Nat) (b h : Block), (s.port port).st = .seal → (s.port port).peerHello = some h →
    exec (.sealProofReceive port b) s = .next (s.setPort port
      (if ecdsaVerify (pointOf (helloBytes h 44 64)) (proofText (s.port port).hello h) (helloBytes b 0 64) then (s.port port).toActive
       else { Spec.detecting (s.port port) with refuse := 3, refusePeer := Block.field h 0 8 })))

/-- A retrain timeout, a LINK-RESET flit and a reset command reset the port with reasons 1, the flit's and 3; a reset erases keys, replay
buffer and queues, keeps its reason and the tally, and leaves the port in DETECT (R344, R345). -/
def Obligations.PortResets : Prop :=
  (∀ (s : State) (port : Nat), s.must.slot = none →
    ((s.port port).st = .retrain → exec (.retrainTimeout port) s = .next (s.resetPort port 1 true false))
    ∧ ((s.port port).st = .active → exec (.portCmdReset port) s = .next (s.resetPort port 3 true false))
    ∧ (∀ r, (s.port port).st ∈ [PortSt.lock, .seal, .active, .retrain] → exec (.linkResetReceive port r) s = .next (s.resetPort port r false false)))
  ∧ (∀ (s : State) (port r : Nat) (own off : Bool),
    let q := (s.resetPort port r own off).port port
    q.st = (if off then PortSt.off else .detect) ∧ q.keys = none ∧ q.replay = [] ∧ q.droveQ = [] ∧ q.strayQ = [] ∧ q.holdQ = [] ∧ q.ctlQ = []
      ∧ q.resetReason = r ∧ q.resetTally = s.moduleTally)

/-! Discovery and muster. -/

/-- Discovery: an ACTIVE port sends probes, answers a probe with its stamps, and records the neighbour of a reply; a USE = 1 port is
classed and the muster goes on. Muster: RECORD and READY are kept and compared, READY with its round; FAIL ends the muster with reason 14
as it came; the latest flit is repeated; the timeout fails the muster with reason 13, and ends a FAIL sent without a muster (R357 to R363, R599). -/
def Obligations.DiscoveryAndMuster : Prop :=
  (∀ (s : State) (port : Nat), (s.port port).st = .active → exec (.discoveryProbeSend port) s = .next (s.setPort port { s.port port with
    cseq := Tab.put 4 ((Tab.get 0 (s.port port).cseq 4 + 1) % 256) (s.port port).cseq
    ctlQ := (s.port port).ctlQ ++ [(4, (Tab.get 0 (s.port port).cseq 4 + 1) % 256, s.discovery port 0 0 0)] }))
  ∧ (∀ (s : State) (port : Nat) (b : Block) (st : BitVec 64), (s.port port).st = .active → Block.field b 9 1 = 0 →
    exec (.discoveryProbeReceive port b st) s = .next (s.setPort port { s.port port with
      cseq := Tab.put 4 ((Tab.get 0 (s.port port).cseq 4 + 1) % 256) (s.port port).cseq
      ctlQ := (s.port port).ctlQ ++ [(4, (Tab.get 0 (s.port port).cseq 4 + 1) % 256, s.discovery port 1 (Block.field b 40 8) st.toNat)] }))
  ∧ (∀ (s : State) (port : Nat) (b : Block) (st : BitVec 64), (s.port port).st = .active → Block.field b 9 1 = 1 → s.must.slot = none →
    exec (.discoveryReplyReceive port b st) s = .next (s.setPort port { s.port port with
      peer := some (Block.field b 0 8, Block.field b 8 1, Block.field b 12 2, Block.field b 14 2) }))
  ∧ (∀ (s : State) (port slot m : Nat), s.must.slot = some slot → Img.find (s.ctx slot).image s.fuse.modid = some m →
    Img.use (s.ctx slot).image m port = 1 → port ∉ s.must.classed →
    let ls := if 8 ≤ (s.port port).lats.length then (s.port port).lats else (s.port port).latsAll
    let u := s.setPort port { s.port port with latency := ls.foldl max 0 % 2 ^ 32 }
    let v := u.setClass (s.ctx slot).image m port (u.classOne (s.ctx slot).image m port) (s.port port).classedBy
    exec (.portClassify port) s = .next ({ v with must := { v.must with classed := port :: v.must.classed } } : State).musterGo)
  ∧ (∀ (s : State) (port slot : Nat) (b : Block), (s.port port).st = .active → s.must.slot = some slot → Block.field b 12 4 = s.must.attempt →
    let kept := (port, b) :: s.must.recs.filter fun r => r.1 != port
    (Block.field b 8 1 = 0 → s.pw.keeper = false → exec (.musterRecordReceive port b) s = .next
      ({ s with must := { s.must with recs := kept } } : State).musterGo)
    ∧ (Block.field b 8 1 = 1 → exec (.musterReadyReceive port b) s = .next ({ s with must := { s.must with
        recs := kept, rounds := Tab.put port (max (Tab.get 0 s.must.rounds port) (Block.field b 9 1 + 1)) s.must.rounds } } : State).musterGo)
    ∧ (Block.field b 8 1 = 2 → Block.field b 10 2 = 0xFFFF → ∃ t, exec (.musterFailReceive port b) s = .next t ∧ t.must.slot = none
        ∧ t.must.failed = true ∧ t.must.latest = some b ∧ (t.ctx slot).st = (s.ctx slot).origin ∧ (t.ctx slot).musterReason = 14
        ∧ (t.ctx slot).musterFmodid = Block.field b 138 8 ∧ (t.ctx slot).musterRx = Block.field b 136 1))
  ∧ (∀ (s : State) (b : Block) (p : Nat), s.must.latest = some b → s.must.ports = [p] → s.must.fails = [] → (s.port p).st = .active →
    exec .musterRepeat s = .next (s.setPort p { s.port p with
      cseq := Tab.put 5 (Tab.get 0 (s.port p).cseq 5 % 256) (s.port p).cseq
      ctlQ := (s.port p).ctlQ ++ [(5, Tab.get 0 (s.port p).cseq 5 % 256, b)] }))
  ∧ (∀ (s : State) (slot : Nat), s.must.slot = some slot → s.must.ready = false → (∀ f ∈ s.must.fails, s.must.timer ≤ f.2.1) →
    ∃ t, exec .musterTimeout s = .next t ∧ t.must.slot = none ∧ (t.ctx slot).st = (s.ctx slot).origin ∧ (t.ctx slot).musterReason = 13
      ∧ (t.ctx slot).musterFmodid = s.fuse.modid)
  ∧ (∀ (s : State) (f : Nat × Nat × Block), s.must.slot = none → s.must.failed = false → s.must.fails = [f] →
    exec .musterTimeout s = .next { s with must := { s.must with fails := [] } })

/-! Time. -/

/-- The edges of RACKREF and SYNC and the states of time: edge 0 of an arm sets the anchor and enters REF, but for a module in COAST, which only REJOIN and NET end; a later edge in REF re-anchors,
a count that is no multiple of 65,536 is rejected; loss of RACKREF; the commands SYNC_ARM, NET at edge, NET now, REJOIN, COAST and REF at
edge (R366, R368, R370 to R374, R380, R386, R387, R583). -/
def Obligations.TimeEdgesAndStates : Prop :=
  (∀ (s : State) (ts count : Nat) (st : BitVec 64), s.time.armed = some ts → s.time.st ≠ .coast → ∃ t, exec (.syncEdge count st) s = .next t ∧ t.time.st = .ref
    ∧ t.time.sa = st.toNat ∧ t.time.off = ts * 2 ^ 32 ∧ t.time.arm = some (ts, 0) ∧ t.time.armed = none ∧ t.time.rate = s.time.rate
    ∧ t.time.lastCount = some 0)
  ∧ (∀ (s : State) (ts count : Nat) (st : BitVec 64), s.time.armed = some ts → s.time.st = .coast → ∃ t, exec (.syncEdge count st) s = .next t
    ∧ t.time.st = .coast ∧ t.time.sa = s.time.sa ∧ t.time.off = s.time.off ∧ t.time.arm = some (ts, 0) ∧ t.time.armed = none)
  ∧ (∀ (s : State) (ts k last count : Nat) (st : BitVec 64), s.time.armed = none → s.time.arm = some (ts, k) → s.time.lastCount = some last →
    (count % 65536 ≠ 0 → exec (.syncEdge count st) s = .next { s with time := { s.time with
      present := 1, rejected := satAdd 64 s.time.rejected 1 } })
    ∧ (count % 65536 = 0 → s.time.st = .ref → s.time.atEdge = none → ∃ t, exec (.syncEdge count st) s = .next t ∧ t.time.sa = st.toNat
        ∧ t.time.off = (ts * 2 ^ 32 + count / 65536 * 4194304 * 2 ^ 32 / 10) % 2 ^ 96 ∧ t.time.arm = some (ts, count / 65536)
        ∧ t.time.gateEdge = s.time.gateEdge + 1))
  ∧ (∀ (s : State), exec .rackrefLoss s = .next { s with time := { s.time with
      present := 0, lastCount := none, losses := if s.time.lastCount.isSome then satAdd 64 s.time.losses 1 else s.time.losses } })
  ∧ (∀ (s : State) (ts : BitVec 64), exec (.syncArm ts) s = .next { s with time := { s.time with armed := some ts.toNat } })
  ∧ (∀ (s : State), s.time.st = .ref → exec .netAtEdge s = .next { s with time := { s.time with atEdge := some (1, s.now) } })
  ∧ (∀ (s : State), s.time.st ≠ .net → ∃ t, exec .netNow s = .next t ∧ t.time.st = .net ∧ t.time.freq = s.time.rate ∧ t.time.off = s.time.off
      ∧ t.time.stepNext = (decide (s.time.st ≠ .ref) && decide (s.fuse.modid ≠ s.nv.bell)))
  ∧ (∀ (s : State), s.time.st = .coast → ∃ t, exec .rejoin s = .next t ∧ t.time.st = .net ∧ t.time.stepNext = decide (s.fuse.modid ≠ s.nv.bell))
  ∧ (∀ (s : State), ∃ t, exec .coast s = .next t ∧ t.time.st = .coast ∧ t.time.atEdge = none ∧ t.time.rate = s.time.rate ∧ t.time.off = s.time.off ∧ t.time.sa = s.time.sa)
  ∧ (∀ (s : State), s.mayRef = true → exec .refAtEdge s = .next { s with time := { s.time with atEdge := some (5, s.now) } })

/-- TIME over the links: a module in NET asks its parent with the next XSEQ; an ACTIVE port answers every request; a usable reply within the
jump bound slews, a first one after COAST steps, a larger one is refused and coasts, or the trial of another parent goes on; the slew ends with RATE := FREQ; with no parent left
the module coasts (R368, R375 to R380). -/
def Obligations.TimeExchange : Prop :=
  (∀ (s : State) (p : Nat), s.time.st = .net → s.fuse.modid ≠ s.nv.bell → s.time.trying = [] → s.time.asked = none → s.parentNow = some p →
    (s.port p).st = .active → exec .timeRequestSend s = .next (s.askTime p))
  ∧ (∀ (s : State) (p : Nat), (s.askTime p).time.xseq = (s.time.xseq + 1) % 256 ∧ (s.askTime p).time.asked = some p
    ∧ ((s.askTime p).port p).ctlQ = (s.port p).ctlQ ++ [(7, (Tab.get 0 (s.port p).cseq 7 + 1) % 256,
        s.timePayload p 0 0 0 0 0 ((s.time.xseq + 1) % 256))])
  ∧ (∀ (s : State) (port : Nat) (b : Block) (st : BitVec 64), (s.port port).st = .active → Block.field b 9 1 = 0 →
    exec (.timeRequestReceive port b st) s = .next (s.setPort port { s.port port with
      cseq := Tab.put 7 ((Tab.get 0 (s.port port).cseq 7 + 1) % 256) (s.port port).cseq
      ctlQ := (s.port port).ctlQ ++ [(7, (Tab.get 0 (s.port port).cseq 7 + 1) % 256, s.timePayload port 1
        (if s.time.st = .net then (if s.fuse.modid = s.nv.bell then 0 else s.time.hops) else 0xFF)
        (Block.field b 40 8) st.toNat (s.time.nt st.toNat) (Block.field b 60 1))] }))
  ∧ (∀ (s : State) (port : Nat) (b : Block) (st : BitVec 64), Block.field b 9 1 = 1 → s.usable port b = true →
    let th := (s.time.theta (Block.field b 24 8) (Block.field b 32 8) (Block.field b 40 8) st.toNat (Block.field b 48 12)).1
    (s.time.stepNext = true → ∃ t, exec (.timeReplyReceive port b st) s = .next t ∧ t.time.stepNext = false ∧ t.time.freq = s.time.rate
      ∧ t.time.off = (((s.time.off : Int) + roundDiv th 40) % 2 ^ 96).toNat ∧ t.time.parent = port ∧ t.time.asked = none)
    ∧ (s.time.stepNext = false → th.natAbs ≤ s.nv.jump * 40 * 2 ^ 32 → ∃ t, exec (.timeReplyReceive port b st) s = .next t ∧ t.time.slewing = true
      ∧ t.time.freq = satInt 32 (s.time.freq + roundDiv (th * 2 ^ 8) (640 * (1000 * s.nv.interval)))
      ∧ t.time.rate = satInt 32 (t.time.freq + roundDiv (th * 2 ^ 8) (40 * (1000 * s.nv.interval)))
      ∧ t.time.parent = port ∧ t.time.hops = min 0xFF (Block.field b 10 1 + 1))
    ∧ (s.time.stepNext = false → s.nv.jump * 40 * 2 ^ 32 < th.natAbs → s.time.trying = [] → ∃ t, exec (.timeReplyReceive port b st) s = .next t
      ∧ t.time.st = .coast ∧ t.time.refusals = satAdd 32 s.time.refusals 1 ∧ t.time.off = s.time.off)
    ∧ (s.time.stepNext = false → s.nv.jump * 40 * 2 ^ 32 < th.natAbs → s.time.trying ≠ [] → ∃ t, exec (.timeReplyReceive port b st) s = .next t
      ∧ t.time.st = .net ∧ t.time.asked = none ∧ t.time.refusals = satAdd 32 s.time.refusals 1 ∧ t.time.off = s.time.off))
  ∧ (∀ (s : State), s.time.slewing = true → exec .slewEnd s = .next { s with time := { s.time with
      off := s.time.nt s.stamp, sa := s.stamp, rate := s.time.freq, slewing := false } })
  ∧ (∀ (s : State), s.time.st = .net → s.fuse.modid ≠ s.nv.bell → s.parentLost = true → s.time.trying.length ≤ 1 →
    (s.time.trying = [] → ((s.timePorts.filter fun p => p != s.time.parent).filter fun p => (s.port p).st == .active) = []) →
    ∃ t, exec .timeParentLost s = .next t ∧ t.time.st = .coast ∧ t.time.off = s.time.off ∧ t.time.rate = s.time.rate)

/-! Contexts. -/

/-- The commands of a context slot in the states that take them: LOAD begins or waits for the unload, UNLOAD, which cancels a load with status
14, MUSTER, which on a slot in FAILED sends FAIL with reason 12, ABORT, KILL; an
uploaded shard attempt ends, a fetch timeout fetches again while attempts are left; a completed unload empties the slot; KV requests are
queued while the context runs (R400, R418, R422, R423, R425 to R427, R432, R433, R599). -/
def Obligations.ContextCommands : Prop :=
  (∀ (s : State) (k : Nat), s.cmdTaken k 1 = true →
    let u := s.setCtx k { s.ctx k with loadAddr := (s.ctx k).cpbAddr, unloaded := false }
    ((s.ctx k).st = .empty → exec (.load k) s = .next (u.startLoad k))
    ∧ ((s.ctx k).st = .unloading → exec (.load k) s = .next (u.ctxState k .pending)))
  ∧ (∀ (s : State) (k : Nat), s.cmdTaken k 2 = true → (s.ctx k).st ≠ .pending → (s.ctx k).st ≠ .loading →
    exec (.unload k) s = .next (s.ctxState k .unloading))
  ∧ (∀ (s : State) (k : Nat), s.cmdTaken k 2 = true →
    ((s.ctx k).st = .pending → exec (.unload k) s = .next ((s.setCtx k { s.ctx k with unloaded := false }).ctxState k
      (if (s.ctx k).unloaded then .empty else .unloading)))
    ∧ ((s.ctx k).st = .loading → ∃ t, exec (.unload k) s = .next t ∧ (t.ctx k).st = .unloading ∧ (t.ctx k).status = 14))
  ∧ (∀ (s : State) (k : Nat), s.cmdTaken k 3 = true → (s.ctx k).st ≠ .failed → exec (.muster k) s = .next (s.startMuster k (s.ctx k).attempt))
  ∧ (∀ (s : State) (k : Nat), s.cmdTaken k 3 = true → (s.ctx k).st = .failed → ∃ t, exec (.muster k) s = .next t
    ∧ (t.ctx k).musterReason = 12 ∧ (t.ctx k).musterFmodid = s.fuse.modid)
  ∧ (∀ (s : State) (k : Nat), s.cmdTaken k 4 = true → s.must.slot = some k → ∃ t, exec (.abort k) s = .next t ∧ t.must.slot = none
    ∧ (t.ctx k).st = (s.ctx k).origin ∧ (t.ctx k).musterReason = 15)
  ∧ (∀ (s : State) (k : Nat), s.cmdTaken k 5 = true → (s.ctx k).st = .running → exec (.kill k) s = .next (s.setCtx k { s.ctx k with killed := true }))
  ∧ (∀ (s : State) (k i : Nat), s.inIntake k i = true → (Tab.get {} (s.ctx k).shards i).attempts < 4 →
    exec (.shardAttemptEnd k i none) s = .next (s.fetchShard k i) ∧ exec (.shardFetchTimeout k i) s = .next (s.fetchShard k i))
  ∧ (∀ (s : State) (k i : Nat) (d out : Bytes) (cs : Nat × Nat × Nat), s.inIntake k i = true →
    shardResult (shardEnt (s.ctx k).manifest i) (s.ctx k).seeds d = (1, cs, some out) →
    exec (.shardAttemptEnd k i (some d)) s = .next ((s.deliverShard k (shardEnt (s.ctx k).manifest i) out).endAttempt k i 1 cs))
  ∧ (∀ (s : State) (k : Nat), k < 4 → (s.ctx k).st = .unloading → s.loadsLeft k = false → ∃ t, exec (.unloadComplete k) s = .next t ∧ (t.ctx k).st = .empty
    ∧ (t.ctx k).image = [] ∧ (t.ctx k).kv = [] ∧ (t.ctx k).tierRegion = none ∧ (t.ctx k).pen = none)
  ∧ (∀ (s : State) (k kvs core toff op : Nat), k < 4 → (s.ctx k).st = .running → s.kvStatusOf k op kvs core 0 toff = 0 →
    let t := s.setCtx k { s.ctx k with kvStatus := 0, kvQueue := (s.ctx k).kvQueue ++ [(op, kvs, core, toff)] }
    (op = 1 → exec (.kvReset k kvs core 0 toff) s = .next t) ∧ (op = 2 → exec (.kvSpill k kvs core 0 toff) s = .next t))
  ∧ (∀ (s : State) (k kvs core reserved toff st : Nat), k < 4 → st ≠ 0 → s.kvStatusOf k 1 kvs core reserved toff = st →
    exec (.kvReset k kvs core reserved toff) s = .next (s.setCtx k { s.ctx k with kvStatus := st }))

/-! The host attachment. -/

/-- BAR2 writes become WRITE requests and reads READ requests of the port's agent, reads behind outstanding writes; a ring enables with
sound sizes and bases, waits for a drain, shows BUSY, and shuts off; SQ_TAIL and its mirror line set the tail, a tail past the ring shows
CFGERR; a UIO request is unsupported; a fetched descriptor enters the ring and moves SQ_HEAD (R436, R441 to R447, R451, R454, R459). -/
def Obligations.HostWindowAndRings : Prop :=
  (∀ (s : State) (port offset : Nat) (data : Bytes), s.hostOpen port = true → s.windowOk offset data.length = true → data ≠ [] →
    offset % 4 = 0 → data.length % 4 = 0 → exec (.hostWindowWrite port offset data) s = .next
      ((windowPackets (offset % 2 ^ 23) data).foldl (fun (t : State) p =>
        t.agentAsk port (offset / 2 ^ 23) (s.cxl port).winSlot (0, port, 0, 0) p) s))
  ∧ (∀ (s : State) (port offset length : Nat), s.hostOpen port = true → s.windowOk offset length = true → 0 < length → length ≤ 1024 →
    let t := s.modCxl port fun c => { c with readsWaiting := c.readsWaiting ++ [(offset, length)] }
    (t.windowBusy port = true → exec (.hostWindowRead port offset length) s = .next t)
    ∧ (t.windowBusy port = false → (s.cxl port).readsWaiting = [] →
        exec (.hostWindowRead port offset length) s = .next ((t.modCxl port fun c => { c with readsWaiting := [] }).issueRead port offset length)))
  ∧ (∀ (s : State) (port ring : Nat), port < 2 → ring < 16 → (s.cxl port).up = true →
    let r := s.ring port ring
    (r.st = 0 → r.sqsz ≤ 12 → r.cqsz ≤ 12 → r.sqsz ≤ r.cqsz → r.sqBase % 4096 = 0 → r.cqBase % 4096 = 0 → s.hostBlocked port = false →
      ∃ t, exec (.ringEnable port ring) s = .next t ∧ t.ring port ring = { r with
        st := 1, sqHead := 0, sqTail := 0, cqTail := 0, phase := true, cqUsed := 0, cfgErr := false, fetched := [], descs := []
        reading := false, waitLeft := false }
      ∧ (r.snoop = false → (t.cxl port).cache = (s.cxl port).cache)
      ∧ (r.snoop = true → (s.cxl port).cache.length < 1024 →
        (t.cxl port).cache = (s.cxl port).cache.filter (· != r.tailAddr / 64 * 64) ++ [r.tailAddr / 64 * 64]))
    ∧ (r.st = 0 → s.hostBlocked port = true ∨ 12 < r.sqsz ∨ 12 < r.cqsz ∨ r.cqsz < r.sqsz ∨ r.sqBase % 4096 ≠ 0 ∨ r.cqBase % 4096 ≠ 0 →
        exec (.ringEnable port ring) s = .next (s.modRing port ring fun r => { r with st := 0, cfgErr := true }))
    ∧ (r.st = 2 → exec (.ringEnable port ring) s = .next (s.modRing port ring fun r => { r with st := 3 }))
    ∧ (r.st = 3 → exec (.ringEnable port ring) s = .next (s.modRing port ring fun r => { r with busy := true })))
  ∧ (∀ (s : State) (port ring : Nat), s.hostOpen port = true → ring < 16 →
    (∀ v, v < (s.ring port ring).sqSize → exec (.sqTail port ring v) s = .next
      ((s.modRing port ring fun r => { r with sqTail := v, cfgErr := false }).fillRing port ring))
    ∧ (∀ v, (s.ring port ring).sqSize ≤ v → exec (.sqTail port ring v) s = .next (s.modRing port ring fun r => { r with cfgErr := true }))
    ∧ ((s.ring port ring).st = 1 → (s.ring port ring).descs = [] → (s.ring port ring).fetched = [] →
        ∃ t, exec (.ringDisable port ring) s = .next t ∧ (t.ring port ring).st = 0)
    ∧ ((s.ring port ring).st = 1 → (s.ring port ring).descs ≠ [] → ∃ t, exec (.ringDisable port ring) s = .next t ∧ (t.ring port ring).st = 2
        ∧ (t.ring port ring).fetched = [])
    ∧ ((s.ring port ring).st = 3 → exec (.ringDisable port ring) s = .next (s.modRing port ring fun r => { r with st := 2 })))
  ∧ (∀ (s : State) (port ring v : Nat), s.hostOpen port = true → ring < 16 → (s.ring port ring).snoop = true →
    let line := (s.ring port ring).tailAddr / 64 * 64
    (s.cxl port).cache.contains line = true → v % 65536 < (s.ring port ring).sqSize → exec (.tailLineSnoop port ring v) s = .next
      (((s.cacheRead port line).modRing port ring fun r => { r with sqTail := v % 65536, cfgErr := false }).fillRing port ring))
  ∧ (∀ (s : State) (port : Nat), port < 2 → (s.cxl port).up = true → ∃ t, exec (.uioRequestReceive port) s = .next t
    ∧ t.sent = .unsupported port 0 :: s.sent ∧ t.cores = s.cores ∧ t.tier = s.tier ∧ t.net = s.net)
  ∧ (∀ (s : State) (port ring : Nat) (d : Bytes), (s.ring port ring).st = 1 → (s.ring port ring).reading = true →
    s.hostBlocked port = false → d.length = 64 →
    exec (.hostReadCompletion (.descriptor port ring) (some d)) s = .next ((s.modRing port ring fun r => { r with
      reading := false, fetched := r.fetched ++ [(r.sqHead, some d)], sqHead := (r.sqHead + 1) % r.sqSize }).fillRing port ring))

/-- Descriptors: a malformed one ends with status 1, one whose slot or range refuses it with its error, a sound one starts; H2D and ZERO
write the device range, D2H reads it, TIER_RELEASE clears the host-held bits of its granules and NOP only completes; a completion writes
the CQ entry at the ring's tail, turns the phase at its end and raises MSI-X when asked (R448 to R453, R458, R460). -/
def Obligations.Descriptors : Prop :=
  (∀ (s : State) (port ring i : Nat) (b : Bytes) (rest : List (Nat × Option Bytes)), (s.ring port ring).st = 1 →
    s.hostBlocked port = false →
    (s.ring port ring).descs.length < 4 → (s.ring port ring).fetched = (i, some b) :: rest →
    (s.badDesc b = true → exec (.descriptorStart port ring) s = .next (s.takeDesc port ring i { raw := b, status := 1, ran := true }))
    ∧ (s.badDesc b = false → bit (field b 1 1) 2 = false → bit (field b 1 1) 1 = false → dscOp b ≠ 1 →
        exec (.descriptorStart port ring) s = .next (s.takeDesc port ring i
          { raw := b, status := s.startError b, ran := s.startError b != 0, startTally := (s.ctx (dscSlot b)).lastFold, tally := (s.ctx (dscSlot b)).lastFold }))
    ∧ (s.badDesc b = false → bit (field b 1 1) 2 = true → (s.ring port ring).descs ≠ [] → exec (.descriptorStart port ring) s = .next s))
  ∧ (∀ (s : State) (port ring i : Nat) (d : Desc),
    (∀ b : Bytes, s.readyDesc port ring i 1 = some d → s.hostBlocked port = false → b.length = dscLen d.raw →
      exec (.h2d port ring i (some b)) s = .next (s.copyIn port ring i d.raw b))
    ∧ (s.readyDesc port ring i 1 = some d → exec (.h2d port ring i none) s = .next
        (s.modDesc port ring i fun d => { d with ran := true, status := 2 }))
    ∧ (s.readyDesc port ring i 2 = some d → s.hostBlocked port = false → exec (.d2h port ring i) s = .next (s.copyOut port ring i d.raw))
    ∧ (s.readyDesc port ring i 3 = some d → s.hostBlocked port = false →
      exec (.zero port ring i) s = .next (s.copyIn port ring i d.raw (List.replicate (dscLen d.raw) 0)))
    ∧ (s.readyDesc port ring i 4 = some d → ∃ t, exec (.tierRelease port ring i) s = .next t ∧ t.tier.mem = s.tier.mem
        ∧ ∀ k, k ∈ t.tier.hostHeld ↔ k ∈ s.tier.hostHeld ∧ ¬ (dscAddr d.raw ≤ k / 2 * 65536 ∧ k / 2 * 65536 < dscAddr d.raw + dscLen d.raw))
    ∧ (s.readyDesc port ring i 5 = some d → exec (.descNop port ring i) s = .next (s.modDesc port ring i fun d => { d with ran := true })))
  ∧ (∀ (s : State) (port ring i : Nat) (b d : Bytes), dscTier b = false → s.copyIn port ring i b d =
    s.sendAll port ring i (dscCore b) (dscSlot b) (copyPackets (dscAddr b) d))
  ∧ (∀ (s : State) (port ring i : Nat) (d : Desc), (s.ring port ring).descs = [(i, d)] → (s.ring port ring).st = 1 → d.ran = true → d.left = 0 →
    (s.ring port ring).cqUsed < (s.ring port ring).cqSize → bit (field d.raw 1 1) 0 = false →
    let r := s.ring port ring
    let last := decide (r.cqTail + 1 = r.cqSize)
    exec (.descriptorComplete port ring i) s = .next ((s.modRing port ring fun r => { r with
      descs := [], cqUsed := r.cqUsed + 1, cqTail := if last then 0 else r.cqTail + 1, phase := if last then !r.phase else r.phase }).emit
        (.hostWrite port (r.cqBase + 16 * r.cqTail) (cqEntry r i d))))

/-- CXL.mem: reads and writes of the tier over the port whose decoder is committed: data, zeros while the slot loads or unloads, a write
discarded and counted then; Any or Shared takes the granule as host-held; the answer of a back-invalidation ends it, its write-back
performed, or the rewrite of a corrected block that waited for it; the decoder commits on one port alone (R438, R455 to R457). -/
def Obligations.CxlMemory : Prop :=
  (∀ (s : State) (port ta : Nat) (keep : Bool), s.memOpen port ta = true → s.tierDead ta = false →
    let s1 : State := if keep then { s with tier := { s.tier with
      hostHeld := s.heldKey ta :: s.tier.hostHeld.filter (· != s.heldKey ta) } } else s
    (s.memHidden ta = true → exec (.cxlMemRead port ta keep) s = .next { s1 with sent := .memData port ta 0 false :: s1.sent })
    ∧ (s.memHidden ta = false → (s1.tierRead ta 2).2.1 = false → exec (.cxlMemRead port ta keep) s = .next
        ((s1.tierRead ta 2).2.2.emit (.memData port ta (s1.tierRead ta 2).1 false))))
  ∧ (∀ (s : State) (port ta : Nat) (data : Line) (poison : Bool), s.memOpen port ta = true → s.tierDead ta = false →
    (s.memHidden ta = true → exec (.cxlMemWrite port ta data poison) s = .next { s with
      diag := { s.diag with memDiscarded := satAdd 64 s.diag.memDiscarded 1 }, sent := .memDone port ta :: s.sent })
    ∧ (s.memHidden ta = false → s.runSlot = none → exec (.cxlMemWrite port ta data poison) s = .next
        ((s.tierWrite ta data poison).emit (.memDone port ta))))
  ∧ (∀ (s : State) (port line : Nat), (port, line) ∈ s.tier.backInv → s.tier.superseded = [] → s.tier.backQ = [] →
    s.tier.rewrites = [] →
    (∀ d : Line, ∃ t, exec (.bisnpinvResponse port line (some d)) s = .next t ∧ (port, line) ∉ t.tier.backInv
      ∧ t.tier.mem = (s.tierWrite (64 * line) d false).tier.mem)
    ∧ exec (.bisnpinvResponse port line none) s = .next { s with tier := { s.tier with
        backInv := s.tier.backInv.filter (· != (port, line)), answered := s.tier.answered ++ [line] } })
  ∧ (∀ (s : State) (port line k e : Nat), (port, line) ∈ s.tier.backInv → s.tier.rewrites = [line] → s.tier.backQ = [] →
    s.tierEcc (64 * line) = .correctable k e → ∃ t, exec (.bisnpinvResponse port line none) s = .next t
      ∧ t.tier.mem = Mem.writeN s.tier.mem (64 * line) (bvBytes 64 (s.tierDecoded (64 * line) k e))
      ∧ Tab.get [] t.tier.errs line = [] ∧ t.tier.answered = s.tier.answered ∧ t.tier.rewrites = [])
  ∧ (∀ (s : State) (port : Nat), port < 2 → (s.cxl port).up = true →
    ((s.cxl (1 - port)).hdm = false → s.hostBlocked port = false → s.pw.startFail = 0 →
      exec (.hdmCommit port) s = .next (s.setCxl port { s.cxl port with hdm := true, hdmError := false }))
    ∧ ((s.cxl (1 - port)).hdm = true ∨ s.hostBlocked port = true ∨ s.pw.startFail ≠ 0 →
      exec (.hdmCommit port) s = .next (s.setCxl port { s.cxl port with hdmError := true })))

/-- A CXL port's link: it comes up at a width and a rate of R435, goes down with a reset of the port, counted and raised as source 128;
PERST_N holds it down; a function-level reset keeps the link; an IDE stream goes insecure with source 129 and secure again by IDE_KM in a
finished session (R435, R436, R438, R466, R467, R492, R503, R538, R577). -/
def Obligations.CxlPort : Prop :=
  (∀ (s : State) (port width rate : Nat) (f : Bool), port < 2 → (s.cxl port).link = 0 → s.mayTrainCxl port = true → width ∈ [8, 4, 2] → rate ∈ [64, 32] →
    exec (.cxlLinkUp port width rate f) s = .next { s with
      cxls := Tab.put port { s.cxl port with link := 1, width, rate, flit256 := f.toNat } s.cxls
      sec := { s.sec with svnFloor := max s.sec.svnFloor s.sec.bootSvn } })
  ∧ (∀ (s : State) (port : Nat), port < 2 → (s.cxl port).up = true →
    let down := fun (perst : Bool) => ((s.resetCxl port).modCxl port fun c => { c with
      perst := perst || c.perst, link := 0, width := 0, rate := 0, flit256 := 0, downs := satAdd 32 c.downs 1 }).assertEvent port 128
    exec (.cxlLinkDown port) s = .next (down false) ∧ exec (.perstAssert port) s = .next (down true)
    ∧ exec (.functionLevelReset port) s = .next (s.resetCxl port))
  ∧ (∀ (s : State) (port : Nat), port < 2 → exec (.perstDeassert port) s = .next (s.setCxl port { s.cxl port with perst := false }))
  ∧ (∀ (s : State) (port stream : Nat), port < 2 → stream < 2 →
    (bit (s.cxl port).ide stream = true → exec (.ideStreamInsecure port stream) s = .next
      ((s.setCxl port { s.cxl port with ide := setBit (s.cxl port).ide stream false }).assertEvent port 129))
    ∧ ((s.cxl port).up = true → (s.cxl port).sessions.any (·.finished) = true →
        exec (.ideKmRequest port stream) s = .next (s.setCxl port { s.cxl port with ide := setBit (s.cxl port).ide stream true })))

/-- The mailbox answers and then raises its message: dictionary reads and writes with the status of R470, event records read and cleared,
the interrupt policy, logs, identity and the timestamp; a bad length or handle is Invalid Input (R461, R462, R470, R471). -/
def Obligations.MailboxCommands : Prop :=
  ∀ (s : State) (port : Nat), s.mailOpen port = true →
    let answer := fun (t : State) (code : Nat) (out : Bytes) => (Host.Outcome.next ((t.emit (.mailbox port code out)).msix port 16) : Out)
    (∀ p : Bytes, p.length = 8 → field p 3 1 = 0 → field p 4 4 = 0 →
      let r := s.dictRead (field p 0 2) (field p 2 1)
      exec (.dictRead port p) s = answer r.2.2 0 (leBytes 2 r.1 ++ leBytes 6 0 ++ r.2.1))
    ∧ (∀ p : Bytes, p.length ≠ 8 → exec (.dictRead port p) s = answer s 2 [])
    ∧ (∀ p : Bytes, 8 ≤ p.length → field p 3 1 = 0 → p.length = 8 + field p 4 4 →
        let st := s.writeStatus true (field p 0 2) (field p 2 1) (p.drop 8)
        (st ≠ 0 → exec (.dictWrite port p) s = answer s 0 (leBytes 2 st ++ leBytes 6 0))
        ∧ (st = 0 → answersFirst (field p 0 2) = false →
            exec (.dictWrite port p) s = answer (s.dictDo (field p 0 2) (field p 2 1) (p.drop 8)) 0 (leBytes 2 0 ++ leBytes 6 0)))
    ∧ (∀ log : Nat, exec (.getEventRecords port log) s = answer { s with free := s.free + 1 } 0
        (Config.externalBytes s.free ++ (Tab.get [] (s.cxl port).logs log).flatMap fun (r : Nat × Bytes) => leBytes 2 r.1 ++ r.2))
    ∧ (∀ (log : Nat) (hs : List Nat), exec (.clearEventRecords port log true hs) s =
        answer (s.setCxl port { s.cxl port with logs := Tab.put log [] (s.cxl port).logs }) 0 [])
    ∧ (∀ (log h : Nat), h ∉ (Tab.get [] (s.cxl port).logs log).map (·.1) → exec (.clearEventRecords port log false [h]) s = answer s 2 [])
    ∧ exec (.getEventInterruptPolicy port) s = answer s 0 (s.cxl port).policy
    ∧ (∀ p : Bytes, p.length = 4 ∨ p.length = 5 → exec (.setEventInterruptPolicy port p) s =
        answer (s.setCxl port { s.cxl port with policy := p ++ (s.cxl port).policy.drop p.length }) 0 [])
    ∧ exec (.getSupportedLogs port) s = answer s 0 (Config.externalTable 1)
    ∧ (∀ o n : Nat, o + n ≤ (Config.externalTable 2).length → exec (.getLog port o n) s = answer s 0 (slice (Config.externalTable 2) o n))
    ∧ (∀ o n : Nat, (Config.externalTable 2).length < o + n → exec (.getLog port o n) s = answer s 2 [])
    ∧ exec (.identifyMemoryDevice port) s = answer s 0 (Config.externalTable 3)
    ∧ exec (.getTimestamp port) s = answer s 0 (leBytes 8 (s.mailStamp port))
    ∧ (∀ v : BitVec 64, exec (.setTimestamp port v) s = answer (s.setCxl port { s.cxl port with stamp := v.toNat, stampAt := s.now }) 0 [])

/-- The DOE mailbox over a link that is up: discovery, the CDAT table entry by entry, and SPDM in its order: version, capabilities,
algorithms, then digests, certificates, challenge, measurements and sessions; out of order is UnexpectedRequest (R463, R464). -/
def Obligations.DoeAndSpdm : Prop :=
  ∀ (s : State) (port : Nat), port < 2 → (s.cxl port).up = true →
    (∀ k : Nat, exec (.doeDiscovery port k) s = .next { s with sent := .doe port (Config.externalTable (16 + min k 4)) :: s.sent })
    ∧ (∀ e : Nat, e ≤ 5 → exec (.cdatRead port e) s = .next { s with
        sent := .doe port (leBytes 2 0 ++ leBytes 2 (if e = 5 then 0xFFFF else e + 1) ++ s.cdat e) :: s.sent })
    ∧ (∃ t, exec (.getVersion port) s = .next t ∧ (t.cxl port).spdm = 1
        ∧ t.sent = .doe port [0x10, 0x04, 0, 0, 0, 1, 0x00, 0x12] :: s.sent ∧ (t.cxl port).transcript = [0x10, 0x84, 0, 0, 0x10, 0x04, 0, 0, 0, 1, 0x00, 0x12])
    ∧ (∀ q : Bytes, (s.cxl port).spdm = 1 → exec (.getCapabilities port q) s = .next (s.spdmSay port 2 q (spdmMsg 0x61 0 0 (Config.externalTable 24))))
    ∧ (∀ q : Bytes, (s.cxl port).spdm ≠ 1 → exec (.getCapabilities port q) s = .next { s with sent := .doe port [0x12, 0x7F, 4, 0] :: s.sent })
    ∧ (∀ q : Bytes, (s.cxl port).spdm = 2 → exec (.negotiateAlgorithms port q) s = .next (s.spdmSay port 3 q (spdmMsg 0x63 0 0 (Config.externalTable 25))))
    ∧ (∀ (q : Bytes) (st a b : Nat), (s.cxl port).spdm ≠ 3 →
        exec (.getDigests port q) s = .next (s.spdmError port 4) ∧ exec (.getCertificate port st a b q) s = .next (s.spdmError port 4)
        ∧ exec (.challenge port st q) s = .next (s.spdmError port 4) ∧ exec (.keyExchange port q) s = .next (s.spdmError port 4))
    ∧ (∀ q : Bytes, (s.cxl port).spdm = 3 → exec (.getDigests port q) s = .next (s.spdmSay port 3 q (spdmMsg 0x01 0 1 (sha256 certChain))))
    ∧ (∀ (q : Bytes) (o n : Nat), (s.cxl port).spdm = 3 → o ≤ certChain.length → let d := slice certChain o n
        exec (.getCertificate port 0 o n q) s = .next (s.spdmSay port 3 q (spdmMsg 0x02 0 0
          (leBytes 2 d.length ++ leBytes 2 (certChain.length - o - d.length) ++ d))))
    ∧ (∀ q : Bytes, (s.cxl port).spdm = 3 →
        let m := spdmMsg 0x03 0 1 (sha256 certChain ++ bvBytes 32 (Config.drbg s.free) ++ leBytes 2 0)
        let sig := ecdsaSign s.fuse.idKey (1 + Config.sigNonce (s.free + 1) % (p256N - 1)) ((s.cxl port).transcript ++ (q ++ m))
        exec (.challenge port 0 q) s = .next (({ s with free := s.free + 2 } : State).spdmSay port 3 q (m ++ sig)))
    ∧ (∀ (q : Bytes) (k : Nat), (s.cxl port).spdm = 3 → k ∈ measurements →
        exec (.getMeasurements port k false q) s = .next (({ s with free := s.free + 1 } : State).spdmSay port 3 q
          (spdmMsg 0x60 0 0 (leBytes 1 1 ++ leBytes 3 (s.measBlock k).length ++ s.measBlock k
            ++ bvBytes 32 (Config.drbg s.free) ++ leBytes 2 0))))
    ∧ (∀ q : Bytes, (s.cxl port).spdm = 3 → 104 ≤ q.length → onCurve (pointOf (slice q 40 64)) = true →
        ∃ t e, exec (.keyExchange port q) s = .next t ∧ (t.cxl port).sessions = (s.cxl port).sessions ++ [e]
          ∧ e.secret = ecdh (1 + (Config.drbg s.free).toNat % (p256N - 1)) (pointOf (slice q 40 64)) ∧ e.finished = false)
    ∧ (∀ x : Nat, (s.cxl port).sessions.any (fun e => e.id == x) = true →
        exec (.finish port x true) s = .next ((s.modCxl port fun c => { c with
          sessions := c.sessions.map fun e => if e.id == x then { e with finished := true } else e }).emit (.doe port [0x12, 0x65, 0, 0]))
        ∧ exec (.finish port x false) s = .next { s with sent := .doe port [0x12, 0x7F, 1, 0] :: s.sent }
        ∧ exec (.endSession port x) s = .next ((s.modCxl port fun c => { c with
          sessions := c.sessions.filter fun e => e.id != x }).emit (.doe port [0x12, 0x6C, 0, 0])))

/-! Management, functions, events and power. -/

/-- The management port: a frame of another version answers VERSION, a malformed one is counted, an untagged one but IDENTIFY is refused
with AUTH, a tagged one with a fresh counter is performed, a repeated one gets the held answer; IDENTIFY answers untagged; a register
without a row of its own takes its write, and a register of BAR0 or of a function answers its read (R436 to R440, R474, R481 to R487; that
REGISTER_WRITE carries these reads, and the functions' bits, are log 45's). -/
def Obligations.ManagementPort : Prop :=
  (∀ (s : State) (i : Instr) (f : Bytes), s.mcUp = true →
    (i = .jendyRead f ∧ field f 1 1 ≠ 2 ∧ field f 1 1 ≠ 3) ∨ (i = .jendyWrite f ∧ field f 1 1 = 2) ∨ (i = .identify f ∧ field f 1 1 = 3) →
    (field f 0 1 ≠ 1 → exec i s = .next { s with sent := .jendy 0 (s.jendyAnswer f false 10 []) :: s.sent })
    ∧ (field f 0 1 = 1 → jendyMalformed f = true → exec i s = .next { s with
        mgmt := { s.mgmt with malformed := satAdd 64 s.mgmt.malformed 1 } }))
  ∧ (∀ (s : State) (f : Bytes), s.mcUp = true → field f 0 1 = 1 → jendyMalformed f = false → bit (field f 7 1) 0 = false →
    (field f 1 1 = 3 → exec (.identify f) s = .next { s with
        sent := .jendy (s.identifyDelay f) (s.jendyAnswer f false 0 s.identifyData) :: s.sent
        mgmt := { s.mgmt with performed := satAdd 64 s.mgmt.performed 1 } })
    ∧ (field f 1 1 = 2 → exec (.jendyWrite f) s = .next { s with
        sent := .jendy 0 (s.jendyAnswer f false 7 []) :: s.sent, mgmt := { s.mgmt with refused := satAdd 64 s.mgmt.refused 1 } })
    ∧ (field f 1 1 = 1 → s.nv.mgmtKey ≠ none → exec (.jendyRead f) s = .next { s with
        sent := .jendy 0 (s.jendyAnswer f false 7 []) :: s.sent, mgmt := { s.mgmt with refused := satAdd 64 s.mgmt.refused 1 } }))
  ∧ (∀ (s : State) (f k : Bytes), s.mcUp = true → field f 0 1 = 1 → jendyMalformed f = false → bit (field f 7 1) 0 = true →
    s.nv.mgmtKey = some k → jendyTag k s.sec.bootid 0 f = slice f 20 16 →
    (∀ h, (s.mgmt.held.find? fun h => h.1 == field f 12 8 && h.2.1 == field f 2 2) = some h →
      (field f 1 1 = 1 → exec (.jendyRead f) s = .next { s with sent := .jendy 0 h.2.2 :: s.sent })
      ∧ (field f 1 1 = 2 → exec (.jendyWrite f) s = .next { s with sent := .jendy 0 h.2.2 :: s.sent }))
    ∧ ((s.mgmt.held.find? fun h => h.1 == field f 12 8 && h.2.1 == field f 2 2) = none → s.sec.mgmtCtr < field f 12 8 →
      let t := s.countJendy false
      (field f 1 1 = 1 → exec (.jendyRead f) s =
        let r := t.dictRead (field f 4 2) (field f 6 1)
        .next (r.2.2.jendySend f true r.1 r.2.1))
      ∧ (field f 1 1 = 2 → s.mailboxOnly (field f 4 2) (field f 6 1) = false →
          t.writeStatus false (field f 4 2) (field f 6 1) (slice f 36 (field f 10 2)) = 0 → answersFirst (field f 4 2) = false →
          exec (.jendyWrite f) s = .next ((t.dictDo (field f 4 2) (field f 6 1) (slice f 36 (field f 10 2))).jendySend f true 0 []))))
  ∧ (∀ (s : State) (f : Bytes) (st : Nat) (d : Bytes), (s.jendySend f true st d).sec.mgmtCtr = field f 12 8
    ∧ (s.jendySend f true st d).mgmt.held = pushRecent 4 (field f 12 8, field f 2 2, s.jendyAnswer f true st d) s.mgmt.held)
  ∧ (∀ (s : State) (i sub : Nat) (data : Bytes), s.mcUp = true →
    (s.writeStatus true i sub data = 0 → exec (.registerWrite (.dict i sub) data) s = .next (s.dictDo i sub data))
    ∧ (s.writeStatus true i sub data ≠ 0 → exec (.registerWrite (.dict i sub) data) s = .next s))
  ∧ (∀ (s : State) (port o size : Nat) (data : Bytes), s.hostOpen port = true → size = 4 ∨ size = 8 → o % size = 0 → data.length = size → o < 2 ^ 20 →
    exec (.registerWrite (.bar0 port o size) data) s = .next (s.barReg port o size (leNat data)))
  ∧ (∀ (s : State) (port o size : Nat) (data : Bytes), port < 2 → (s.cxl port).up = true →
    (s.hostOpen port = true → size = 4 ∨ size = 8 → o % size = 0 → o < 2 ^ 20 → barExternal o = false →
      exec (.registerWrite (.bar0Read port o size) data) s = .next { s with
        sent := .registerData port (leBytes size (s.barWord port (o / 8 * 8) / 2 ^ (8 * (o % 8)) % 2 ^ (8 * size))) :: s.sent })
    ∧ (o % 4 ≠ 0 → size = 4 → exec (.registerWrite (.bar0Read port o size) data) s = .next (s.abortRead port o)))
  ∧ (∀ (s : State) (port : Nat) (reg : FuncReg) (data d : Bytes), port < 2 → (s.cxl port).up = true → s.retriesConfig reg = false →
    s.hostBlocked port = false → s.funcData port reg = some d →
    exec (.registerWrite (.funcRead port reg) data) s = .next { s with sent := .registerData port d :: s.sent })
  ∧ (∀ (s : State) (port : Nat) (data : Bytes), port < 2 → (s.cxl port).up = true → s.retriesConfig .aerStatus = false →
    exec (.registerWrite (.func port .aerStatus) data) s = .next (s.setCxl port { s.cxl port with
      aer := (BitVec.ofNat 32 (s.cxl port).aer &&& ~~~BitVec.ofNat 32 (leNat data)).toNat }))

/-- A function follows its enable: OFF to STARTING, ON or STARTING to STOPPING, STOPPING to PENDING, PENDING refused; its start makes it ON,
its shutdown OFF or again STARTING. A port that is on shows DETECT, compute brings its cores up as tested (R323, R488, R489, R572). -/
def Obligations.FunctionEnables : Prop :=
  (funcWrite 0 1 = some 1 ∧ funcWrite 1 1 = some 1 ∧ funcWrite 2 1 = some 2 ∧ funcWrite 3 1 = some 4 ∧ funcWrite 4 1 = none
    ∧ funcWrite 0 0 = some 0 ∧ funcWrite 1 0 = some 3 ∧ funcWrite 2 0 = some 3 ∧ funcWrite 3 0 = some 3 ∧ funcWrite 4 0 = some 3)
  ∧ (∀ (s : State) (v : Byte), v = 0 ∨ v = 1 →
    (∀ st, s.serves 0x3010 = true → funcWrite s.pw.sramScrub v.toNat = some st → exec (.sramScrubEn v) s = .next { s with
      nv := { s.nv with sramScrub := v.toNat }, pw := { s.pw with sramScrub := st } })
    ∧ (∀ st, s.serves 0x3012 = true → funcWrite s.pw.tierScrub v.toNat = some st → exec (.tierScrubEn v) s = .next { s with
      nv := { s.nv with tierScrub := v.toNat }, pw := { s.pw with tierScrub := st } })
    ∧ (∀ st, s.serves 0x6010 = true → s.computeBusy v.toNat = false → funcWrite s.pw.compute v.toNat = some st → exec (.computeEn v) s = .next { s with
      nv := { s.nv with computeEn := v.toNat }, pw := { s.pw with compute := st } })
    ∧ (s.computeBusy v.toNat = true → exec (.computeEn v) s = .next s)
    ∧ (∀ p st, p < 32 → s.serves 0x2001 = true → funcWrite (s.port p).func v.toNat = some st → (st = 3 → (s.port p).func = 3 ∨ (s.port p).func = 4) →
      exec (.portEn p v) s = .next ((s.modPortNv p fun q => { q with en := v.toNat }).setPort p { s.port p with func := st }))
    ∧ (∀ p, p < 32 → (s.port p).func = 2 → s.serves 0x2001 = true → v = 0 → ∃ t, exec (.portEn p v) s = .next t ∧ (t.port p).func = 3
      ∧ (t.port p).st = .reset))
  ∧ (∀ (s : State) (p : Nat), p < 32 →
    ((s.port p).func = 1 → s.portPower p = true → s.pw.startFail = 0 →
      exec (.functionStartComplete (.port p)) s = .next (s.setPort p { s.port p with func := 2, st := .detect }))
    ∧ ((s.port p).func = 3 → exec (.functionShutdownComplete (.port p)) s = .next (s.setPort p { s.port p with func := 0, st := .off }))
    ∧ ((s.port p).func = 4 → exec (.functionShutdownComplete (.port p)) s = .next (s.setPort p { s.port p with func := 1, st := .off })))
  ∧ (∀ (s : State), s.pw.sramScrub = 1 → exec (.functionStartComplete .sramScrub) s = .next { s with pw := { s.pw with sramScrub := 2 } })
  ∧ (∀ (s : State), s.pw.tierScrub = 1 → exec (.functionStartComplete .tierScrub) s = .next { s with pw := { s.pw with tierScrub := 2 } })
  ∧ (∀ (s : State), s.pw.compute = 1 → s.pw.stage = 6 → exec (.functionStartComplete .compute) s = .next { s with
      cores := Tab.map (fun _ c => c.tested) s.cores, pw := { s.pw with compute := 2, railsOff := s.pw.railsOff.filter fun r => r < 14 } })
  ∧ (∀ (s : State), s.pw.compute = 4 → ∃ t, exec (.functionShutdownComplete .compute) s = .next t ∧ t.pw.compute = 1
      ∧ t.cores = Tab.map (fun _ c => c.tested) s.cores ∧ t.tier = s.tier ∧ t.ports = s.ports)
  ∧ (∀ (s : State), s.pw.sramScrub = 3 → exec (.functionShutdownComplete .sramScrub) s = .next { s with pw := { s.pw with sramScrub := 0 } })
  ∧ (∀ (s : State), s.pw.tierScrub = 4 → exec (.functionShutdownComplete .tierScrub) s = .next { s with pw := { s.pw with tierScrub := 1 } })

/-- Keeper mode is entered by its key, by the watchdog, by the entropy source and by the range timer, with its cause; a module reset
restarts from step 2 and keeps the RWS entries, with a new BOOTID; a zeroization puts them at their defaults and advances the store epoch;
firmware is staged into the other bank, checked, selected, and any other key changes nothing (R517, R526, R534, R537 to R539, R545 to R547,
R563, R573). -/
def Obligations.KeeperAndFirmware : Prop :=
  (∀ (s : State), s.pw.keeper = false → s.powered = true →
    (s.serves 0x5004 = true → ∃ t, exec (.keeperEnter 0xA5) s = .next t ∧ t.pw.keeper = true ∧ t.pw.keeperCause = 8 ∧ t.nv = s.nv
      ∧ t.cores = Tab.map (fun _ c => c.halt) s.cores)
    ∧ (∃ t, exec .mcWatchdogExpire s = .next t ∧ t.pw.keeper = true ∧ t.pw.keeperCause = 7)
    ∧ (∀ d, d < 2 → ∃ t, exec (.entropyHealthFail d) s = .next t ∧ t.pw.keeper = true ∧ t.pw.keeperCause = 9 + 256 * (13 + d))
    ∧ (∀ v, s.pw.vinOut = true → ∃ t, exec (.vinRangeTimeout v) s = .next t ∧ t.pw.keeper = true ∧ t.pw.keeperCause = 6 + 65536 * (v % 65536)))
  ∧ (∀ (s : State) (v : Byte), (v ≠ 0xA5 → exec (.keeperEnter v) s = .next s ∧ exec (.moduleReset v) s = .next s)
    ∧ (v ≠ 0x5A → exec (.zeroize v) s = .next s))
  ∧ (∀ (s : State), s.serves 0x6012 = true → s.pw.failWait = false → s.nv.spareApply = 0 → ∃ t, exec (.moduleReset 0xA5) s = .next t
      ∧ t.pw.on = true ∧ t.pw.step = 2 ∧ t.pw.stage = 0 ∧ t.cores = [] ∧ t.ctxs = [] ∧ t.nv = s.nv ∧ t.pw.keeper = false)
  ∧ (∀ (s : State), s.serves 0x8017 = true → ∃ t, exec (.zeroize 0x5A) s = .next t ∧ t.nv = nvDefault s.fuse.grade
      ∧ t.sec.storeEpoch = min 128 (s.sec.storeEpoch + 1) ∧ t.sec.zeroizing = true ∧ t.pw.step = 2 ∧ t.cores = [] ∧ t.ctxs = [])
  ∧ (∀ (s : State), s.serves 0x8032 = true →
    (s.sec.fwStatus ≠ 1 → (s.cxl 0).up = true → exec .stage s = .next { s with
      sec := { s.sec with fwStatus := 1 }, sent := .hostRead 0 s.sec.fwAddr s.sec.fwLen :: s.sent })
    ∧ (s.sec.fwStatus = 1 → exec .stage s = .next s)
    ∧ (s.sec.fwStatus = 2 → exec .select s = .next { s with sec := { s.sec with selected := some (1 - s.sec.bank) } })
    ∧ (s.sec.fwStatus ≠ 2 → exec .select s = .next s))
  ∧ (∀ (s : State), s.sec.fwStatus = 1 →
    exec (.fwStageComplete none) s = .next { s with sec := { s.sec with fwStatus := 5 } }
    ∧ ∀ b : Bytes, exec (.fwStageComplete (some b)) s = .next { s with sec := { s.sec with
        banks := (1 - s.sec.bank, b.take s.sec.fwLen) :: s.sec.banks.filter fun (x : Nat × Bytes) => x.1 != 1 - s.sec.bank
        fwStatus := fwCheck s.sec.svnFloor (b.take s.sec.fwLen) } })
  ∧ (∀ (s : State),
    (s.pw.on = false → exec .tamperBreach s = .next { s with sec := { s.sec with meshOk := false } })
    ∧ (s.pw.on = true → s.pw.step ≠ 1 → s.sec.zeroizing = false → ∃ t, exec .tamperBreach s = .next t ∧ t.sec.breach = true
        ∧ t.sec.meshOk = false ∧ t.sec.zeroizing = true ∧ t.nv = nvDefault s.fuse.grade))

/-- A write of a bank of an event controller: the controller becomes `e1`, a source that thereby becomes open to delivery is delivered,
and `g` follows. -/
def Sys2Proof.Spec.BankWrite (i : Instr) (s : State) (die bank : Nat) (e1 : Evc) (g : State → State) : Prop :=
  let rise := e1.open bank &&& ~~~((s.evc die).open bank)
  (rise = 0 → exec i s = .next (g (s.setEvc die e1)))
  ∧ ∀ j < 64, rise = (1 : BitVec 64) <<< j → exec i s = .next (g ((s.setEvc die e1).deliver die (64 * bank + j)))

/-- The event controller: an edge source that asserts becomes pending, a level source follows its input, writes of PEND, of its clear and
of MASK change their bank and deliver what they open, a clear of STORM or STUCK clears its bits, SRC_CFG names a vector unless the field
is out of its range, and the limit marks a level source STUCK (R503 to R516). -/
def Obligations.EventController : Prop :=
  (∀ (s : State) (die source : Nat), die < 2 → (sourceClass die source).isSome = true → source ≠ 1 →
    (sourceLevel source = false → exec (.eventAssert die source) s = .next (s.assertEvent die source))
    ∧ (sourceLevel source = true → bankBit (s.evc die).level source = true → exec (.eventAssert die source) s = .next (s.setEvc die
        { s.evc die with level := setBankBit (s.evc die).level source true }))
    ∧ (sourceLevel source = true → bankBit (s.evc die).level source = false → exec (.eventAssert die source) s = .next ((s.setEvc die
        { s.evc die with level := setBankBit (s.evc die).level source true }).assertEvent die source)))
  ∧ (∀ (s : State) (die source : Nat), (sourceClass die source).isSome = true → bankBit ((s.assertEvent die source).evc die).pend source = true)
  ∧ (∀ (s : State) (die bank : Nat) (v : BitVec 64), die < 2 → bank < 16 →
    let e := s.evc die
    Spec.BankWrite (.pendWrite die bank v) s die bank { e with pend := Tab.put bank ((v &&& bankValid die bank) ||| Tab.get 0 e.level bank) e.pend } id
    ∧ Spec.BankWrite (.pendW1cWrite die bank v) s die bank
        { e with pend := Tab.put bank ((Tab.get 0 e.pend bank &&& ~~~v) ||| Tab.get 0 e.level bank) e.pend } id
    ∧ Spec.BankWrite (.maskWrite die bank v) s die bank { e with mask := Tab.put bank (v &&& bankValid die bank) e.mask } id
    ∧ Spec.BankWrite (.stormClear die bank v) s die bank
        { e with storm := Tab.put bank (Tab.get 0 e.storm bank &&& ~~~v) e.storm
                 windows := e.windows.filter fun w => !(w.1 / 64 == bank && v.getLsbD (w.1 % 64) && bankBit e.storm w.1) } (·.guardSummary die)
    ∧ Spec.BankWrite (.stuckClear die bank v) s die bank
        { e with stuck := Tab.put bank (Tab.get 0 e.stuck bank &&& ~~~v) e.stuck } (·.guardSummary die))
  ∧ (∀ (s : State) (die source : Nat) (v : BitVec 64), die < 2 → (sourceClass die source).isSome = true →
    let n := bits v.toNat 15 10
    exec (.srcCfgWrite die source v) s = .next (s.setEvc die { s.evc die with
      cfg := (source, if 1 ≤ n ∧ n ≤ 16 then (s.evc die).vector die source else n, bit v.toNat 9) :: (s.evc die).cfg.filter (·.1 != source) }))
  ∧ (∀ (s : State) (die source : Nat), die < 2 → source ∈ [6, 7, 8] → bankBit (s.evc die).level source = true →
    bankBit (s.evc die).stuck source = false → exec (.stuckLimitExpire die source) s = .next
      (({ (s.setEvc die { s.evc die with stuck := setBankBit (s.evc die).stuck source true }) with
        diag := { s.diag with events := satAdd 64 s.diag.events 1 } } : State).guardSummary die))

/-- Power and start-up: the module turns on and starts from step 1, each step that completes begins the next and the last makes the module
ready, a start without a bank recovers; the input voltage, the rails, the PLLs and MRST_N do what their thresholds and groups say: source 8,
a wait with all groups but M off, a module reset, protective shutdown with its record, keeper mode with its cause, the loss of a memory
controller's channels (R526, R550 to R557, R561 to R565, R573). -/
def Obligations.PowerEvents : Prop :=
  (∀ (s : State), s.pw.on = false → s.pw.shutdown = false →
    (s.pw.disconnected = false → ∃ t, exec .powerOn s = .next t ∧ t.pw.on = true ∧ t.pw.step = 1 ∧ t.pw.stage = 0 ∧ t.cores = [])
    ∧ (s.pw.disconnected = true → ∃ t, exec .inputReconnect s = .next t ∧ t.pw.on = true ∧ t.pw.step = 1 ∧ t.pw.disconnected = false))
  ∧ (∀ (s : State), s.pw.on = true → s.pw.failWait = false → s.pw.mrstWait = false → s.pw.stage ≠ 6 →
    (s.pw.step = 1 → exec (.startupStepComplete none) s = .next { s with
      pw := { s.pw with stage := 1, step := 2, railsOff := (List.range 22).map (· + 4) } })
    ∧ (s.pw.step = 2 → ∃ t, exec (.startupStepComplete (some .noBank)) s = .next t ∧ t.pw.recovery = true ∧ t.pw.step = 0 ∧ t.pw.startFail = 2)
    ∧ (s.pw.step = 3 → exec (.startupStepComplete none) s = .next { s with
      pw := { s.pw with stage := 3, step := 4, railsOff := if s.pw.compute = 1 then [] else (List.range 12).map (· + 14) } })
    ∧ (s.pw.step = 4 → exec (.startupStepComplete none) s = .next { s with
      pw := { s.pw with stage := 4, step := 5 }, time := { s.time with lock := some s.now } })
    ∧ (s.pw.step = 5 → ∃ t, exec (.startupStepComplete none) s = .next t ∧ t.pw.stage = 5 ∧ t.pw.step = 6 ∧ t.tier.usable = true ∧ t.tier.mem = [])
    ∧ (s.pw.step = 6 → s.pw.startFail = 0 → ∃ t, exec (.startupStepComplete none) s = .next t ∧ t.pw.stage = 6
      ∧ ∀ p < 32, (t.port p).st = if (Tab.get {} s.nv.ports p).en = 1 then .detect else (s.port p).st))
  ∧ (∀ (s : State), s.pw.on = true →
    (∃ t, exec .vinOutOfRange s = .next t ∧ t.pw.vinOut = true ∧ bankBit (t.evc 0).level 8 = true)
    ∧ (∃ t, exec .vinReturnToRange s = .next t ∧ t.pw.vinOut = false ∧ bankBit (t.evc 0).level 8 = false)
    ∧ (s.pw.failWait = false → ∃ t, exec .powerFail s = .next t ∧ t.pw.failWait = true ∧ t.pw.stage = 0 ∧ t.pw.seqRec = 1 ∧ t.pw.modOk = false
        ∧ t.cores = [] ∧ t.ctxs = [] ∧ t.tier.mem = [] ∧ t.nv = s.nv)
    ∧ (s.pw.failWait = true → ∃ t, exec .powerFailRecovery s = .next t ∧ t.pw.failWait = false ∧ t.pw.vinOut = false ∧ t.pw.step = 2))
  ∧ (∀ (s : State), (∃ t, exec .vinBelow36 s = .next t ∧ t.pw.on = false ∧ t.pw.shutdown = false ∧ t.cores = [] ∧ t.nv = s.nv)
    ∧ (∃ t, exec .inputDisconnect s = .next t ∧ t.pw.on = false ∧ t.pw.disconnected = true ∧ t.cores = []))
  ∧ (∀ (s : State) (rail : Nat), s.pw.on = true → 1 ≤ rail → rail ≤ 25 → s.pw.railsOff.contains rail = false →
    (rail < 14 → ∃ t, exec (.railOutOfRegulation rail) s = .next t ∧ t.pw.on = false ∧ t.pw.shutdown = true ∧ t.pw.seqRec = 3 + 256 * rail)
    ∧ (14 ≤ rail → s.starting = false → s.pw.keeper = false → s.powered = true → ∃ t, exec (.railOutOfRegulation rail) s = .next t
        ∧ t.pw.keeper = true ∧ t.pw.keeperCause = 2 + 256 * (rail - 13) + 65536 * rail ∧ rail ∈ t.pw.railsOff))
  ∧ (∀ (s : State), s.powered = true →
    (∀ pll w, (pll, w) ∈ [(Pll.ioFabric 0, 13), (.ioFabric 1, 14), (.mc, 13), (.timeUnit, 13), (.reference, 0)] →
      ∃ t, exec (.pllLossOfLock pll) s = .next t ∧ t.pw.on = false ∧ t.pw.shutdown = true ∧ t.pw.seqRec = 4 + 256 * w)
    ∧ (∀ d, d < 4 → s.pw.railsOff.contains (14 + d) = false → s.starting = false → s.pw.keeper = false →
      ∃ t, exec (.pllLossOfLock (.compute d)) s = .next t ∧ t.pw.keeper = true ∧ t.pw.keeperCause = 3 + 256 * (1 + d))
    ∧ (∀ i, i < 2 → exec (.pllLossOfLock (.memory i)) s = .next { s with tier := { s.tier with
        lost := s.tier.lost ++ (s.channels.filter fun c => c / 32 == i && !s.tier.lost.contains c) } })
    ∧ (∀ i, i < 2 → exec (.pllLossOfLock (.fabricPorts i)) s = .next (s.portsDown i)))
  ∧ (∀ (s : State), (s.pw.mrst = false → s.powered = true → ∃ t, exec .mrstAssert s = .next t ∧ t.pw.mrst = true ∧ t.pw.mrstWait = true
      ∧ t.pw.step = 2 ∧ t.cores = [])
    ∧ exec .mrstDeassert s = .next { s with pw := { s.pw with mrst := false, mrstWait := false } })

/-- Throttling: the power duty rises by 8 up to 224, falls by 4 and jumps to at least 128 over the maximum power; the thermal duties follow
the temperatures; a frame takes the largest duty of its die; 110 °C enters keeper mode with cause 1, and in keeper mode switches
a further die off (R7, R526, R567 to R569, R571). -/
def Obligations.Throttling : Prop :=
  (∀ (s : State) (w : Nat), s.pw.on = true →
    (∃ t, exec (.powerThrottleEval w) s = .next t ∧ t.pw = { s.pw with
      duty := if s.nv.powerLimit < w then min (s.pw.duty + 8) 224 else if 100 * w < 98 * s.nv.powerLimit then s.pw.duty - 4 else s.pw.duty })
    ∧ (s.maxPower < w → ∃ t, exec (.powerFastCheck w) s = .next t ∧ t.pw = { s.pw with duty := max s.pw.duty 128 })
    ∧ (w ≤ s.maxPower → exec (.powerFastCheck w) s = .next s))
  ∧ (∀ (s : State) (d p : List Int), s.pw.on = true → ∃ t, exec (.thermalThrottleEval d p) s = .next t
    ∧ t.pw.dieTemp = takeTemps s.pw.dieTemp (d.take 14) ∧ t.pw.pkgTemp = takeTemps s.pw.pkgTemp (p.take (if s.fuse.grade = 0 then 16 else 8))
    ∧ (let x := fun (k : Nat) => Tab.get 0 t.pw.dieTemp k
       let lim := s.nv.throttleTemp
       (∀ k < 4, t.pw.dutyDie.getD k 0 =
          let hot := max (x (1 + k)) (max (x (5 + 2 * k)) (x (6 + 2 * k)))
          if lim ≤ hot then min (s.pw.dutyDie.getD k 0 + 8) 224 else if hot < lim - 20 then s.pw.dutyDie.getD k 0 - 4 else s.pw.dutyDie.getD k 0)
       ∧ (lim ≤ max (x 13) (x 14) → t.pw.dutyGlobal = min (s.pw.dutyGlobal + 8) 224)))
  ∧ (∀ (s : State) (die : Nat), die < 4 → s.pw.compute = 2 → s.pw.railsOff.contains (14 + die) = false →
    exec (.throttleFrameStart die) s = .next { s with pw := { s.pw with
      frameE := (die, max s.pw.duty (max (s.pw.dutyDie.getD die 0) s.pw.dutyGlobal), s.now) :: s.pw.frameE.filter (·.1 != die) } })
  ∧ (∀ (s : State) (k c : Nat), s.pw.on = true → s.pw.keeper = true → 1 ≤ k → k ≤ 12 → s.pw.railsOff.contains (13 + k) = false →
    exec (.shutdownTempReached false k c) s = .next { s with pw := { s.pw with railsOff := s.pw.railsOff ++ [13 + k] } })
  ∧ (∀ (s : State) (k c : Nat), s.pw.on = true → s.pw.keeper = false →
    (1 ≤ k → k ≤ 14 → ∃ t, exec (.shutdownTempReached false k c) s = .next t ∧ t.pw.keeper = true ∧ t.pw.keeperCause = 1 + 256 * k + 65536 * (c % 256))
    ∧ (1 ≤ k → k ≤ (if s.fuse.grade = 0 then 16 else 8) → ∃ t, exec (.shutdownTempReached true k c) s = .next t ∧ t.pw.keeper = true
        ∧ t.pw.keeperCause = 1 + 256 * packageDie k + 65536 * (c % 256 + 256 * k)))

/-! The machine. -/

/-- A step with a command in front of the queue is that command's effect on the state with the queue's rest (R474). -/
def Obligations.StepRunsTheFrontCommand : Prop :=
  ∀ (s : State) (c : Instr) (rest : List Instr), s.pending = c :: rest → step s = exec c { s with pending := rest }

/-- With nothing commanded one core cycle passes: every core that is active has its cycle, the ports count their holds, and the clock
counts one (log 1: the model's choice). -/
def Obligations.EmptyQueueIsOneCoreCycle : Prop :=
  ∀ (s : State), s.pending = [] → step s = .next { (s.activeCores.foldl State.coreCycle s).countPorts with now := s.now + 1 }

/-- Right after reset no command waits, memory and tier list nothing, the start-up stands at step 2, every core is idle with zero
registers and a zero tally, no context is loaded, every port and ring is off, and no event is pending (logs 9 and 10 name the values that the spec does not give). -/
def Obligations.ResetState : Prop :=
  State.reset.pending = [] ∧ State.reset.tier.mem = [] ∧ State.reset.pw.step = 2 ∧ State.reset.pw.stage = 0
  ∧ (∀ n, (State.reset.core n).sram = [] ∧ (State.reset.core n).run = .idle ∧ (State.reset.core n).tally = 0
      ∧ (∀ r, (State.reset.core n).s r = 0) ∧ (∀ r, (State.reset.core n).v r = 0))
  ∧ (∀ k, (State.reset.ctx k).st = .empty) ∧ (∀ p, (State.reset.port p).st = .off) ∧ (∀ p r, (State.reset.ring p r).st = 0)
  ∧ (∀ d k, bankBit (State.reset.evc d).pend k = false)

/-- The memories are in canonical form: addresses strictly rising, no zero byte listed. -/
def Sys2Proof.Spec.MemoryForm (s : State) : Prop := (∀ e ∈ s.cores, Memory.wf e.2.sram = true) ∧ Memory.wf s.tier.mem = true

/-- Every step keeps the canonical form of every core's memory and of the tier. -/
def Obligations.MemoryFormKept : Prop :=
  ∀ (s t : State), Spec.MemoryForm s → step s = .next t → Spec.MemoryForm t

/-- The canonical form holds right after reset. -/
def Obligations.MemoryFormAtReset : Prop := Spec.MemoryForm State.reset

/-- A line of a core's memory that is written reads back, its code clean, and every byte outside it reads as before (R81, R102, R105). -/
def Obligations.LineReadsBack : Prop :=
  ∀ (c : Core) (line : Nat) (d : Line), Memory.wf c.sram = true →
    (c.writeLine line d).readLine line = d ∧ (c.writeLine line d).lineEcc line = .clean
    ∧ ∀ a, a < 64 * line ∨ 64 * line + 64 ≤ a → Mem.read (c.writeLine line d).sram a = Mem.read c.sram a

/-- Every core operation whose operand values its encoding allows reads back from its slot's bits, every operand at every such value
(R161 to R177). -/
def Obligations.OperationsDecodeAsEncoded : Prop :=
  ∀ (i : Instr) (n : Nat), i.coreOf = some n → opValid i = true →
    (∀ w, encodeC i = some w → decodeC n w = some i) ∧ (∀ w, encodeM i = some w → decodeM n w = some i)
    ∧ (∀ w, encodeX i = some w → decodeX n w = some i) ∧ (∀ w, encodeV i = some w → decodeV n w = some i)
    ∧ (∀ w, encodeL i = some w → decodeL n w = some i)

/-- A bundle made of slot values gives each slot its own bits back, decoded, and END its own. -/
def Obligations.BundlesDecodeBySlot : Prop :=
  ∀ (n : Nat) (last : Bool) (c : BitVec 48) (m : BitVec 56) (x : BitVec 48) (v : BitVec 56) (l : BitVec 44),
    decodeBundle n (encodeBundle last c m x v l) =
      { last, reserved := false, slots := [decodeC n c, decodeM n m, decodeX n x, decodeV n v, decodeL n l] }

/-- An operation of a core, in a core cycle in which the core need not wait, changes no other core, and not the tier, the ports, the
retained settings or time, whether it issues or faults; HURDLE is left out, whose class 4 clears fill bits of landing lines at every core. -/
def Obligations.OperationsKeepOtherCores : Prop :=
  ∀ (s t : State) (i : Instr) (n m : Nat), (slotOf i).isSome = true → i.coreOf = some n → (∀ cl, i ≠ .hurdle n cl) → s.mustWait n i = false →
    m ≠ n → exec i s = .next t →
    t.core m = s.core m ∧ t.tier = s.tier ∧ t.ports = s.ports ∧ t.nv = s.nv ∧ t.time = s.time

/-- A branch at issue inside the shadow of an issued branch, taken or not, raises the branch in shadow fault, class 5 code 21: the fault is
among those of its bundle, and where the bundle has no fault of a lower class or as a whole it is the one taken, in place of the issue
(R223). -/
def Obligations.BranchInShadowFaults : Prop :=
  ∀ (s : State) (i : Instr) (n a : Nat) (off : BitVec 19) (p : Core → Bool) (w : BitVec 256) (rest : List (Nat × BitVec 256)),
    Spec.branches i = some (n, off, p) → (s.core n).shadow.isSome = true → (decodeBundle n w).slots.getD 0 none = some i →
    let slot := s.runSlot.getD 0
    (5, 0, 21) ∈ (s.slotFaults n slot (opsOf n w)).1
    ∧ (n < s.nCores → (s.core n).run = .run → (s.core n).ended = false → (s.core n).holds = [] → (s.core n).hurdles = [] →
        s.throttled n = false → (s.core n).dueNow = [] → (s.core n).cleared = false → (s.core n).issued = [] →
        (s.core n).queue = (a, w) :: rest → s.bundleFaults n slot a w = [] →
        (decodeBundle n w).slots = [some i, some (.nop n 1), some (.nop n 2), some (.nop n 3), some (.nop n 4)] →
        exec i s = .next (s.fault n a 0 5 21))

/-- A write of PEND or of its clear leaves the bit of a level source whose input is active set, and a source whose effective mask is 1
becomes pending without a message (R508, R511, R513). -/
def Obligations.ActiveLevelsStayPending : Prop :=
  (∀ (s t : State) (i : Instr) (die bank j : Nat) (v : BitVec 64), die < 2 → bank < 16 → i = .pendWrite die bank v ∨ i = .pendW1cWrite die bank v →
    (Tab.get 0 (s.evc die).level bank).getLsbD j = true → exec i s = .next t → (Tab.get 0 (t.evc die).pend bank).getLsbD j = true)
  ∧ (∀ (s : State) (die src : Nat), (s.evc die).masked src = true →
    (s.setPend die src).sent = s.sent ∧ (s.setPend die src).cxls = s.cxls ∧ bankBit ((s.setPend die src).evc die).pend src = true)
end

