-- ==== Sys2Proof/Laws/Memory.lean ====
section
/-! SUPPORT. Laws of sparse tables and of byte memories: a read after a write, and that every memory operation keeps the canonical
form. -/

namespace Sys2Proof.Machine

@[simp] theorem Tab.get_nil {α : Type} (d : α) (k : Nat) : Tab.get d [] k = d := rfl

@[simp] theorem Tab.get_put_self {α : Type} (d : α) (k : Nat) (v : α) (t : List (Nat × α)) : Tab.get d (Tab.put k v t) k = v := by
  induction t with
  | nil => simp [Tab.put, Tab.get]
  | cons e t ih =>
    obtain ⟨j, w⟩ := e
    unfold Tab.put
    split
    · simp [Tab.get]
    · split
      · simp [Tab.get]
      · simp [Tab.get, *]

theorem Tab.get_put_ne {α : Type} (d : α) (k m : Nat) (v : α) (t : List (Nat × α)) (h : m ≠ k) :
    Tab.get d (Tab.put k v t) m = Tab.get d t m := by
  induction t with
  | nil => simp [Tab.put, Tab.get, h]
  | cons e t ih =>
    obtain ⟨j, w⟩ := e
    by_cases hkj : k < j
    · simp only [Tab.put, hkj, if_true, Tab.get]
      by_cases hm : m < k
      · simp [hm, Nat.lt_trans hm hkj]
      · simp [hm, h]
    · by_cases he : k = j
      · subst he; simp [Tab.put, Tab.get, h]
      · simp only [Tab.put, hkj, he, if_false, Tab.get, ih]

theorem Tab.get_put {α : Type} (d : α) (k m : Nat) (v : α) (t : List (Nat × α)) :
    Tab.get d (Tab.put k v t) m = if m = k then v else Tab.get d t m := by
  by_cases h : m = k
  · subst h; simp
  · simp [h, Tab.get_put_ne d k m v t h]

@[simp] theorem Tab.put_put {α : Type} (k : Nat) (v w : α) (t : List (Nat × α)) : Tab.put k v (Tab.put k w t) = Tab.put k v t := by
  induction t with
  | nil => simp [Tab.put]
  | cons e t ih =>
    obtain ⟨j, x⟩ := e
    by_cases hkj : k < j
    · simp [Tab.put, hkj]
    · by_cases he : k = j
      · subst he; simp [Tab.put]
      · simp [Tab.put, hkj, he, ih]

/-- A bound below every listed address. -/
def Mem.above (lo : Nat) (m : List (Nat × Byte)) : Bool := Mem.wfFrom (some lo) m

theorem Mem.wfFrom_none_cons (j : Nat) (w : Byte) (t : List (Nat × Byte)) :
    Mem.wfFrom none ((j, w) :: t) = ((w != 0) && Mem.wfFrom (some j) t) := by simp [Mem.wfFrom]

theorem Mem.wfFrom_some_cons (lo j : Nat) (w : Byte) (t : List (Nat × Byte)) :
    Mem.wfFrom (some lo) ((j, w) :: t) = (decide (lo < j) && (w != 0) && Mem.wfFrom (some j) t) := by simp [Mem.wfFrom]

theorem Mem.wfFrom_mono {lo lo' : Nat} (h : lo' ≤ lo) (m : List (Nat × Byte)) (hm : Mem.wfFrom (some lo) m = true) :
    Mem.wfFrom (some lo') m = true := by
  cases m with
  | nil => rfl
  | cons e t =>
    obtain ⟨j, w⟩ := e
    simp only [Mem.wfFrom_some_cons, Bool.and_eq_true, decide_eq_true_eq] at hm ⊢
    exact ⟨⟨Nat.lt_of_le_of_lt h hm.1.1, hm.1.2⟩, hm.2⟩

theorem Mem.wfFrom_weaken {lo : Option Nat} (m : List (Nat × Byte)) (hm : Mem.wfFrom lo m = true) : Mem.wfFrom none m = true := by
  cases m with
  | nil => rfl
  | cons e t =>
    obtain ⟨j, w⟩ := e
    cases lo <;> simp_all [Mem.wfFrom]

/-- Below every listed address a memory reads zero. -/
theorem Mem.read_below (lo a : Nat) (m : List (Nat × Byte)) (hm : Mem.wfFrom (some lo) m = true) (h : a ≤ lo) : Mem.read m a = 0 := by
  cases m with
  | nil => rfl
  | cons e t =>
    obtain ⟨j, w⟩ := e
    simp only [Mem.wfFrom_some_cons, Bool.and_eq_true, decide_eq_true_eq] at hm
    have : a < j := by omega
    simp [Mem.read, Tab.get, this]

theorem Mem.wfFrom_write (lo : Option Nat) (a : Nat) (v : Byte) (m : List (Nat × Byte)) (hm : Mem.wfFrom lo m = true)
    (ha : ∀ l, lo = some l → l < a) : Mem.wfFrom lo (Mem.write a v m) = true := by
  induction m generalizing lo with
  | nil =>
    unfold Mem.write
    split
    · rfl
    · cases lo <;> simp_all [Mem.wfFrom]
  | cons e t ih =>
    obtain ⟨j, w⟩ := e
    unfold Mem.write
    have hw : (w != 0) = true ∧ Mem.wfFrom (some j) t = true := by cases lo <;> simp_all [Mem.wfFrom]
    have hl : ∀ l, lo = some l → l < j := by intro l h; subst h; simp_all [Mem.wfFrom]
    split
    · split
      · exact hm
      · rename_i haj hv
        cases lo <;> simp_all [Mem.wfFrom]
    · split
      · split
        · cases lo with
          | none => exact Mem.wfFrom_weaken t hw.2
          | some l => exact Mem.wfFrom_mono (Nat.le_of_lt (hl l rfl)) t hw.2
        · cases lo <;> simp_all [Mem.wfFrom]
      · rename_i h1 h2
        have := ih (some j) hw.2 (by intro l h; cases h; omega)
        cases lo <;> simp_all [Mem.wfFrom]

/-- A byte write keeps the canonical form. -/
theorem Memory.wf_write (a : Nat) (v : Byte) (m : List (Nat × Byte)) (hm : Memory.wf m = true) : Memory.wf (Mem.write a v m) = true :=
  Mem.wfFrom_write none a v m hm (by simp)

/-- Writing consecutive bytes keeps the canonical form. -/
theorem Memory.wf_writeN (bs : Bytes) (a : Nat) (m : List (Nat × Byte)) (hm : Memory.wf m = true) :
    Memory.wf (Mem.writeN m a bs) = true := by
  induction bs generalizing a m with
  | nil => exact hm
  | cons b bs ih => exact ih (a + 1) _ (Memory.wf_write a b m hm)

theorem Mem.wfFrom_filter (p : Nat × Byte → Bool) (lo : Option Nat) (m : List (Nat × Byte)) (hm : Mem.wfFrom lo m = true) :
    Mem.wfFrom lo (m.filter p) = true := by
  induction m generalizing lo with
  | nil => rfl
  | cons e t ih =>
    obtain ⟨j, w⟩ := e
    have hw : (w != 0) = true ∧ Mem.wfFrom (some j) t = true := by cases lo <;> simp_all [Mem.wfFrom]
    by_cases hp : p (j, w) = true
    · simp only [List.filter_cons, hp, if_true]
      have := ih (some j) hw.2
      cases lo <;> simp_all [Mem.wfFrom]
    · simp only [List.filter_cons, hp, if_false, Bool.false_eq_true]
      have := ih (some j) hw.2
      cases lo with
      | none => exact Mem.wfFrom_weaken _ this
      | some l =>
        refine Mem.wfFrom_mono ?_ _ this
        simp only [Mem.wfFrom_some_cons, Bool.and_eq_true, decide_eq_true_eq] at hm
        omega

/-- Clearing a range keeps the canonical form. -/
theorem Memory.wf_clear (m : List (Nat × Byte)) (lo hi : Nat) (hm : Memory.wf m = true) : Memory.wf (Mem.clear m lo hi) = true :=
  Mem.wfFrom_filter _ none m hm

@[simp] theorem Memory.wf_nil : Memory.wf [] = true := rfl

theorem Mem.read_write_from (lo : Option Nat) (a b : Nat) (v : Byte) (m : List (Nat × Byte)) (hm : Mem.wfFrom lo m = true) :
    Mem.read (Mem.write a v m) b = if b = a then v else Mem.read m b := by
  induction m generalizing lo with
  | nil =>
    by_cases hv : v = 0
    · subst hv; simp [Mem.write, Mem.read, Tab.get]
    · have hv' : Mem.write a v [] = [(a, v)] := if_neg hv
      by_cases hb : b = a <;> simp [hv', Mem.read, Tab.get, hb]
  | cons e t ih =>
    obtain ⟨j, w⟩ := e
    have hw : Mem.wfFrom (some j) t = true := by cases lo <;> simp_all [Mem.wfFrom]
    unfold Mem.write
    split
    · rename_i haj
      split
      · rename_i hv
        by_cases hb : b = a
        · subst hb; simp [Mem.read, Tab.get, haj, hv]
        · simp [hb]
      · by_cases hb : b = a
        · subst hb; simp [Mem.read, Tab.get]
        · by_cases hba : b < a
          · have : b < j := by omega
            simp [Mem.read, Tab.get, hb, hba, this]
          · simp [Mem.read, Tab.get, hb, hba]
    · split
      · rename_i h1 h2
        subst h2
        split
        · rename_i hv
          by_cases hb : b = a
          · subst hb; simp [hv, Mem.read_below b b t hw (Nat.le_refl b)]
          · by_cases hba : b < a
            · simp [hb, Mem.read_below a b t hw (by omega)]
              simp [Mem.read, Tab.get, hba]
            · simp [Mem.read, Tab.get, hb, hba]
        · by_cases hb : b = a
          · subst hb; simp [Mem.read, Tab.get]
          · simp [Mem.read, Tab.get, hb]
      · rename_i h1 h2
        have := ih (some j) hw
        by_cases hb : b = a
        · subst hb
          simp only [Mem.read, if_true] at this ⊢
          rw [Tab.get, if_neg h1, if_neg h2, this]
        · simp only [Mem.read, hb, if_false] at this ⊢
          rw [Tab.get, this, Tab.get]

/-- A read after a write: the value at its address, and every other byte as before. -/
theorem Mem.read_write (a b : Nat) (v : Byte) (m : List (Nat × Byte)) (hm : Memory.wf m = true) :
    Mem.read (Mem.write a v m) b = if b = a then v else Mem.read m b := Mem.read_write_from none a b v m hm

/-- A read after consecutive writes: their bytes in the range, and every other byte as before. -/
theorem Mem.read_writeN (bs : Bytes) (a b : Nat) (m : List (Nat × Byte)) (hm : Memory.wf m = true) :
    Mem.read (Mem.writeN m a bs) b = if a ≤ b ∧ b < a + bs.length then bs.getD (b - a) 0 else Mem.read m b := by
  induction bs generalizing a m with
  | nil =>
    have : ¬(a ≤ b ∧ b < a + ([] : Bytes).length) := by simp
    rw [if_neg this]; rfl
  | cons x bs ih =>
    simp only [Mem.writeN]
    rw [ih (a + 1) _ (Memory.wf_write a x m hm), Mem.read_write a b x m hm]
    simp only [List.length_cons]
    by_cases h : b = a
    · subst h
      have h2 : ¬(b + 1 ≤ b ∧ b < b + 1 + bs.length) := by omega
      rw [if_neg h2]; simp
    · by_cases h2 : a + 1 ≤ b ∧ b < a + 1 + bs.length
      · have h3 : a ≤ b ∧ b < a + (bs.length + 1) := by omega
        have h4 : b - a = (b - (a + 1)) + 1 := by omega
        simp [h2, h3, h4]
      · have h3 : ¬(a ≤ b ∧ b < a + (bs.length + 1)) := by omega
        rw [if_neg h2, if_neg h3, if_neg h]

end Sys2Proof.Machine
end

