-- ==== Sys2Proof/Laws/State.lean ====
section
/-! SUPPORT. What each update of the state leaves alone, one lemma per field, and reads after replacements. -/

namespace Sys2Proof.Machine

/-! `setCore` changes `cores` alone. -/

@[simp] theorem State.setCore_pending (s : State) (n : Nat) (c : Core) : (s.setCore n c).pending = s.pending := rfl
@[simp] theorem State.setCore_now (s : State) (n : Nat) (c : Core) : (s.setCore n c).now = s.now := rfl
@[simp] theorem State.setCore_free (s : State) (n : Nat) (c : Core) : (s.setCore n c).free = s.free := rfl
@[simp] theorem State.setCore_sent (s : State) (n : Nat) (c : Core) : (s.setCore n c).sent = s.sent := rfl
@[simp] theorem State.setCore_fuse (s : State) (n : Nat) (c : Core) : (s.setCore n c).fuse = s.fuse := rfl
@[simp] theorem State.setCore_nv (s : State) (n : Nat) (c : Core) : (s.setCore n c).nv = s.nv := rfl
@[simp] theorem State.setCore_fab (s : State) (n : Nat) (c : Core) : (s.setCore n c).fab = s.fab := rfl
@[simp] theorem State.setCore_net (s : State) (n : Nat) (c : Core) : (s.setCore n c).net = s.net := rfl
@[simp] theorem State.setCore_ports (s : State) (n : Nat) (c : Core) : (s.setCore n c).ports = s.ports := rfl
@[simp] theorem State.setCore_tier (s : State) (n : Nat) (c : Core) : (s.setCore n c).tier = s.tier := rfl
@[simp] theorem State.setCore_strm (s : State) (n : Nat) (c : Core) : (s.setCore n c).strm = s.strm := rfl
@[simp] theorem State.setCore_ctxs (s : State) (n : Nat) (c : Core) : (s.setCore n c).ctxs = s.ctxs := rfl
@[simp] theorem State.setCore_switchTo (s : State) (n : Nat) (c : Core) : (s.setCore n c).switchTo = s.switchTo := rfl
@[simp] theorem State.setCore_switchAttempt (s : State) (n : Nat) (c : Core) : (s.setCore n c).switchAttempt = s.switchAttempt := rfl
@[simp] theorem State.setCore_switchRefused (s : State) (n : Nat) (c : Core) : (s.setCore n c).switchRefused = s.switchRefused := rfl
@[simp] theorem State.setCore_must (s : State) (n : Nat) (c : Core) : (s.setCore n c).must = s.must := rfl
@[simp] theorem State.setCore_time (s : State) (n : Nat) (c : Core) : (s.setCore n c).time = s.time := rfl
@[simp] theorem State.setCore_cxls (s : State) (n : Nat) (c : Core) : (s.setCore n c).cxls = s.cxls := rfl
@[simp] theorem State.setCore_evcs (s : State) (n : Nat) (c : Core) : (s.setCore n c).evcs = s.evcs := rfl
@[simp] theorem State.setCore_diag (s : State) (n : Nat) (c : Core) : (s.setCore n c).diag = s.diag := rfl
@[simp] theorem State.setCore_pw (s : State) (n : Nat) (c : Core) : (s.setCore n c).pw = s.pw := rfl
@[simp] theorem State.setCore_sec (s : State) (n : Nat) (c : Core) : (s.setCore n c).sec = s.sec := rfl
@[simp] theorem State.setCore_mgmt (s : State) (n : Nat) (c : Core) : (s.setCore n c).mgmt = s.mgmt := rfl

/-! `modCore` changes `cores` alone. -/

@[simp] theorem State.modCore_pending (s : State) (n : Nat) (f : Core → Core) : (s.modCore n f).pending = s.pending := rfl
@[simp] theorem State.modCore_now (s : State) (n : Nat) (f : Core → Core) : (s.modCore n f).now = s.now := rfl
@[simp] theorem State.modCore_free (s : State) (n : Nat) (f : Core → Core) : (s.modCore n f).free = s.free := rfl
@[simp] theorem State.modCore_sent (s : State) (n : Nat) (f : Core → Core) : (s.modCore n f).sent = s.sent := rfl
@[simp] theorem State.modCore_fuse (s : State) (n : Nat) (f : Core → Core) : (s.modCore n f).fuse = s.fuse := rfl
@[simp] theorem State.modCore_nv (s : State) (n : Nat) (f : Core → Core) : (s.modCore n f).nv = s.nv := rfl
@[simp] theorem State.modCore_fab (s : State) (n : Nat) (f : Core → Core) : (s.modCore n f).fab = s.fab := rfl
@[simp] theorem State.modCore_net (s : State) (n : Nat) (f : Core → Core) : (s.modCore n f).net = s.net := rfl
@[simp] theorem State.modCore_ports (s : State) (n : Nat) (f : Core → Core) : (s.modCore n f).ports = s.ports := rfl
@[simp] theorem State.modCore_tier (s : State) (n : Nat) (f : Core → Core) : (s.modCore n f).tier = s.tier := rfl
@[simp] theorem State.modCore_strm (s : State) (n : Nat) (f : Core → Core) : (s.modCore n f).strm = s.strm := rfl
@[simp] theorem State.modCore_ctxs (s : State) (n : Nat) (f : Core → Core) : (s.modCore n f).ctxs = s.ctxs := rfl
@[simp] theorem State.modCore_switchTo (s : State) (n : Nat) (f : Core → Core) : (s.modCore n f).switchTo = s.switchTo := rfl
@[simp] theorem State.modCore_switchAttempt (s : State) (n : Nat) (f : Core → Core) : (s.modCore n f).switchAttempt = s.switchAttempt := rfl
@[simp] theorem State.modCore_switchRefused (s : State) (n : Nat) (f : Core → Core) : (s.modCore n f).switchRefused = s.switchRefused := rfl
@[simp] theorem State.modCore_must (s : State) (n : Nat) (f : Core → Core) : (s.modCore n f).must = s.must := rfl
@[simp] theorem State.modCore_time (s : State) (n : Nat) (f : Core → Core) : (s.modCore n f).time = s.time := rfl
@[simp] theorem State.modCore_cxls (s : State) (n : Nat) (f : Core → Core) : (s.modCore n f).cxls = s.cxls := rfl
@[simp] theorem State.modCore_evcs (s : State) (n : Nat) (f : Core → Core) : (s.modCore n f).evcs = s.evcs := rfl
@[simp] theorem State.modCore_diag (s : State) (n : Nat) (f : Core → Core) : (s.modCore n f).diag = s.diag := rfl
@[simp] theorem State.modCore_pw (s : State) (n : Nat) (f : Core → Core) : (s.modCore n f).pw = s.pw := rfl
@[simp] theorem State.modCore_sec (s : State) (n : Nat) (f : Core → Core) : (s.modCore n f).sec = s.sec := rfl
@[simp] theorem State.modCore_mgmt (s : State) (n : Nat) (f : Core → Core) : (s.modCore n f).mgmt = s.mgmt := rfl

/-! `setPort` changes `ports` alone. -/

@[simp] theorem State.setPort_pending (s : State) (n : Nat) (p : Port) : (s.setPort n p).pending = s.pending := rfl
@[simp] theorem State.setPort_now (s : State) (n : Nat) (p : Port) : (s.setPort n p).now = s.now := rfl
@[simp] theorem State.setPort_free (s : State) (n : Nat) (p : Port) : (s.setPort n p).free = s.free := rfl
@[simp] theorem State.setPort_sent (s : State) (n : Nat) (p : Port) : (s.setPort n p).sent = s.sent := rfl
@[simp] theorem State.setPort_fuse (s : State) (n : Nat) (p : Port) : (s.setPort n p).fuse = s.fuse := rfl
@[simp] theorem State.setPort_nv (s : State) (n : Nat) (p : Port) : (s.setPort n p).nv = s.nv := rfl
@[simp] theorem State.setPort_cores (s : State) (n : Nat) (p : Port) : (s.setPort n p).cores = s.cores := rfl
@[simp] theorem State.setPort_fab (s : State) (n : Nat) (p : Port) : (s.setPort n p).fab = s.fab := rfl
@[simp] theorem State.setPort_net (s : State) (n : Nat) (p : Port) : (s.setPort n p).net = s.net := rfl
@[simp] theorem State.setPort_tier (s : State) (n : Nat) (p : Port) : (s.setPort n p).tier = s.tier := rfl
@[simp] theorem State.setPort_strm (s : State) (n : Nat) (p : Port) : (s.setPort n p).strm = s.strm := rfl
@[simp] theorem State.setPort_ctxs (s : State) (n : Nat) (p : Port) : (s.setPort n p).ctxs = s.ctxs := rfl
@[simp] theorem State.setPort_switchTo (s : State) (n : Nat) (p : Port) : (s.setPort n p).switchTo = s.switchTo := rfl
@[simp] theorem State.setPort_switchAttempt (s : State) (n : Nat) (p : Port) : (s.setPort n p).switchAttempt = s.switchAttempt := rfl
@[simp] theorem State.setPort_switchRefused (s : State) (n : Nat) (p : Port) : (s.setPort n p).switchRefused = s.switchRefused := rfl
@[simp] theorem State.setPort_must (s : State) (n : Nat) (p : Port) : (s.setPort n p).must = s.must := rfl
@[simp] theorem State.setPort_time (s : State) (n : Nat) (p : Port) : (s.setPort n p).time = s.time := rfl
@[simp] theorem State.setPort_cxls (s : State) (n : Nat) (p : Port) : (s.setPort n p).cxls = s.cxls := rfl
@[simp] theorem State.setPort_evcs (s : State) (n : Nat) (p : Port) : (s.setPort n p).evcs = s.evcs := rfl
@[simp] theorem State.setPort_diag (s : State) (n : Nat) (p : Port) : (s.setPort n p).diag = s.diag := rfl
@[simp] theorem State.setPort_pw (s : State) (n : Nat) (p : Port) : (s.setPort n p).pw = s.pw := rfl
@[simp] theorem State.setPort_sec (s : State) (n : Nat) (p : Port) : (s.setPort n p).sec = s.sec := rfl
@[simp] theorem State.setPort_mgmt (s : State) (n : Nat) (p : Port) : (s.setPort n p).mgmt = s.mgmt := rfl

/-! `modPort` changes `ports` alone. -/

@[simp] theorem State.modPort_pending (s : State) (n : Nat) (f : Port → Port) : (s.modPort n f).pending = s.pending := rfl
@[simp] theorem State.modPort_now (s : State) (n : Nat) (f : Port → Port) : (s.modPort n f).now = s.now := rfl
@[simp] theorem State.modPort_free (s : State) (n : Nat) (f : Port → Port) : (s.modPort n f).free = s.free := rfl
@[simp] theorem State.modPort_sent (s : State) (n : Nat) (f : Port → Port) : (s.modPort n f).sent = s.sent := rfl
@[simp] theorem State.modPort_fuse (s : State) (n : Nat) (f : Port → Port) : (s.modPort n f).fuse = s.fuse := rfl
@[simp] theorem State.modPort_nv (s : State) (n : Nat) (f : Port → Port) : (s.modPort n f).nv = s.nv := rfl
@[simp] theorem State.modPort_cores (s : State) (n : Nat) (f : Port → Port) : (s.modPort n f).cores = s.cores := rfl
@[simp] theorem State.modPort_fab (s : State) (n : Nat) (f : Port → Port) : (s.modPort n f).fab = s.fab := rfl
@[simp] theorem State.modPort_net (s : State) (n : Nat) (f : Port → Port) : (s.modPort n f).net = s.net := rfl
@[simp] theorem State.modPort_tier (s : State) (n : Nat) (f : Port → Port) : (s.modPort n f).tier = s.tier := rfl
@[simp] theorem State.modPort_strm (s : State) (n : Nat) (f : Port → Port) : (s.modPort n f).strm = s.strm := rfl
@[simp] theorem State.modPort_ctxs (s : State) (n : Nat) (f : Port → Port) : (s.modPort n f).ctxs = s.ctxs := rfl
@[simp] theorem State.modPort_switchTo (s : State) (n : Nat) (f : Port → Port) : (s.modPort n f).switchTo = s.switchTo := rfl
@[simp] theorem State.modPort_switchAttempt (s : State) (n : Nat) (f : Port → Port) : (s.modPort n f).switchAttempt = s.switchAttempt := rfl
@[simp] theorem State.modPort_switchRefused (s : State) (n : Nat) (f : Port → Port) : (s.modPort n f).switchRefused = s.switchRefused := rfl
@[simp] theorem State.modPort_must (s : State) (n : Nat) (f : Port → Port) : (s.modPort n f).must = s.must := rfl
@[simp] theorem State.modPort_time (s : State) (n : Nat) (f : Port → Port) : (s.modPort n f).time = s.time := rfl
@[simp] theorem State.modPort_cxls (s : State) (n : Nat) (f : Port → Port) : (s.modPort n f).cxls = s.cxls := rfl
@[simp] theorem State.modPort_evcs (s : State) (n : Nat) (f : Port → Port) : (s.modPort n f).evcs = s.evcs := rfl
@[simp] theorem State.modPort_diag (s : State) (n : Nat) (f : Port → Port) : (s.modPort n f).diag = s.diag := rfl
@[simp] theorem State.modPort_pw (s : State) (n : Nat) (f : Port → Port) : (s.modPort n f).pw = s.pw := rfl
@[simp] theorem State.modPort_sec (s : State) (n : Nat) (f : Port → Port) : (s.modPort n f).sec = s.sec := rfl
@[simp] theorem State.modPort_mgmt (s : State) (n : Nat) (f : Port → Port) : (s.modPort n f).mgmt = s.mgmt := rfl

/-! `setCtx` changes `ctxs` alone. -/

@[simp] theorem State.setCtx_pending (s : State) (n : Nat) (x : Ctx) : (s.setCtx n x).pending = s.pending := rfl
@[simp] theorem State.setCtx_now (s : State) (n : Nat) (x : Ctx) : (s.setCtx n x).now = s.now := rfl
@[simp] theorem State.setCtx_free (s : State) (n : Nat) (x : Ctx) : (s.setCtx n x).free = s.free := rfl
@[simp] theorem State.setCtx_sent (s : State) (n : Nat) (x : Ctx) : (s.setCtx n x).sent = s.sent := rfl
@[simp] theorem State.setCtx_fuse (s : State) (n : Nat) (x : Ctx) : (s.setCtx n x).fuse = s.fuse := rfl
@[simp] theorem State.setCtx_nv (s : State) (n : Nat) (x : Ctx) : (s.setCtx n x).nv = s.nv := rfl
@[simp] theorem State.setCtx_cores (s : State) (n : Nat) (x : Ctx) : (s.setCtx n x).cores = s.cores := rfl
@[simp] theorem State.setCtx_fab (s : State) (n : Nat) (x : Ctx) : (s.setCtx n x).fab = s.fab := rfl
@[simp] theorem State.setCtx_net (s : State) (n : Nat) (x : Ctx) : (s.setCtx n x).net = s.net := rfl
@[simp] theorem State.setCtx_ports (s : State) (n : Nat) (x : Ctx) : (s.setCtx n x).ports = s.ports := rfl
@[simp] theorem State.setCtx_tier (s : State) (n : Nat) (x : Ctx) : (s.setCtx n x).tier = s.tier := rfl
@[simp] theorem State.setCtx_strm (s : State) (n : Nat) (x : Ctx) : (s.setCtx n x).strm = s.strm := rfl
@[simp] theorem State.setCtx_switchTo (s : State) (n : Nat) (x : Ctx) : (s.setCtx n x).switchTo = s.switchTo := rfl
@[simp] theorem State.setCtx_switchAttempt (s : State) (n : Nat) (x : Ctx) : (s.setCtx n x).switchAttempt = s.switchAttempt := rfl
@[simp] theorem State.setCtx_switchRefused (s : State) (n : Nat) (x : Ctx) : (s.setCtx n x).switchRefused = s.switchRefused := rfl
@[simp] theorem State.setCtx_must (s : State) (n : Nat) (x : Ctx) : (s.setCtx n x).must = s.must := rfl
@[simp] theorem State.setCtx_time (s : State) (n : Nat) (x : Ctx) : (s.setCtx n x).time = s.time := rfl
@[simp] theorem State.setCtx_cxls (s : State) (n : Nat) (x : Ctx) : (s.setCtx n x).cxls = s.cxls := rfl
@[simp] theorem State.setCtx_evcs (s : State) (n : Nat) (x : Ctx) : (s.setCtx n x).evcs = s.evcs := rfl
@[simp] theorem State.setCtx_diag (s : State) (n : Nat) (x : Ctx) : (s.setCtx n x).diag = s.diag := rfl
@[simp] theorem State.setCtx_pw (s : State) (n : Nat) (x : Ctx) : (s.setCtx n x).pw = s.pw := rfl
@[simp] theorem State.setCtx_sec (s : State) (n : Nat) (x : Ctx) : (s.setCtx n x).sec = s.sec := rfl
@[simp] theorem State.setCtx_mgmt (s : State) (n : Nat) (x : Ctx) : (s.setCtx n x).mgmt = s.mgmt := rfl

/-! `modCtx` changes `ctxs` alone. -/

@[simp] theorem State.modCtx_pending (s : State) (n : Nat) (f : Ctx → Ctx) : (s.modCtx n f).pending = s.pending := rfl
@[simp] theorem State.modCtx_now (s : State) (n : Nat) (f : Ctx → Ctx) : (s.modCtx n f).now = s.now := rfl
@[simp] theorem State.modCtx_free (s : State) (n : Nat) (f : Ctx → Ctx) : (s.modCtx n f).free = s.free := rfl
@[simp] theorem State.modCtx_sent (s : State) (n : Nat) (f : Ctx → Ctx) : (s.modCtx n f).sent = s.sent := rfl
@[simp] theorem State.modCtx_fuse (s : State) (n : Nat) (f : Ctx → Ctx) : (s.modCtx n f).fuse = s.fuse := rfl
@[simp] theorem State.modCtx_nv (s : State) (n : Nat) (f : Ctx → Ctx) : (s.modCtx n f).nv = s.nv := rfl
@[simp] theorem State.modCtx_cores (s : State) (n : Nat) (f : Ctx → Ctx) : (s.modCtx n f).cores = s.cores := rfl
@[simp] theorem State.modCtx_fab (s : State) (n : Nat) (f : Ctx → Ctx) : (s.modCtx n f).fab = s.fab := rfl
@[simp] theorem State.modCtx_net (s : State) (n : Nat) (f : Ctx → Ctx) : (s.modCtx n f).net = s.net := rfl
@[simp] theorem State.modCtx_ports (s : State) (n : Nat) (f : Ctx → Ctx) : (s.modCtx n f).ports = s.ports := rfl
@[simp] theorem State.modCtx_tier (s : State) (n : Nat) (f : Ctx → Ctx) : (s.modCtx n f).tier = s.tier := rfl
@[simp] theorem State.modCtx_strm (s : State) (n : Nat) (f : Ctx → Ctx) : (s.modCtx n f).strm = s.strm := rfl
@[simp] theorem State.modCtx_switchTo (s : State) (n : Nat) (f : Ctx → Ctx) : (s.modCtx n f).switchTo = s.switchTo := rfl
@[simp] theorem State.modCtx_switchAttempt (s : State) (n : Nat) (f : Ctx → Ctx) : (s.modCtx n f).switchAttempt = s.switchAttempt := rfl
@[simp] theorem State.modCtx_switchRefused (s : State) (n : Nat) (f : Ctx → Ctx) : (s.modCtx n f).switchRefused = s.switchRefused := rfl
@[simp] theorem State.modCtx_must (s : State) (n : Nat) (f : Ctx → Ctx) : (s.modCtx n f).must = s.must := rfl
@[simp] theorem State.modCtx_time (s : State) (n : Nat) (f : Ctx → Ctx) : (s.modCtx n f).time = s.time := rfl
@[simp] theorem State.modCtx_cxls (s : State) (n : Nat) (f : Ctx → Ctx) : (s.modCtx n f).cxls = s.cxls := rfl
@[simp] theorem State.modCtx_evcs (s : State) (n : Nat) (f : Ctx → Ctx) : (s.modCtx n f).evcs = s.evcs := rfl
@[simp] theorem State.modCtx_diag (s : State) (n : Nat) (f : Ctx → Ctx) : (s.modCtx n f).diag = s.diag := rfl
@[simp] theorem State.modCtx_pw (s : State) (n : Nat) (f : Ctx → Ctx) : (s.modCtx n f).pw = s.pw := rfl
@[simp] theorem State.modCtx_sec (s : State) (n : Nat) (f : Ctx → Ctx) : (s.modCtx n f).sec = s.sec := rfl
@[simp] theorem State.modCtx_mgmt (s : State) (n : Nat) (f : Ctx → Ctx) : (s.modCtx n f).mgmt = s.mgmt := rfl

/-! `setCxl` changes `cxls` alone. -/

@[simp] theorem State.setCxl_pending (s : State) (n : Nat) (x : Cxl) : (s.setCxl n x).pending = s.pending := rfl
@[simp] theorem State.setCxl_now (s : State) (n : Nat) (x : Cxl) : (s.setCxl n x).now = s.now := rfl
@[simp] theorem State.setCxl_free (s : State) (n : Nat) (x : Cxl) : (s.setCxl n x).free = s.free := rfl
@[simp] theorem State.setCxl_sent (s : State) (n : Nat) (x : Cxl) : (s.setCxl n x).sent = s.sent := rfl
@[simp] theorem State.setCxl_fuse (s : State) (n : Nat) (x : Cxl) : (s.setCxl n x).fuse = s.fuse := rfl
@[simp] theorem State.setCxl_nv (s : State) (n : Nat) (x : Cxl) : (s.setCxl n x).nv = s.nv := rfl
@[simp] theorem State.setCxl_cores (s : State) (n : Nat) (x : Cxl) : (s.setCxl n x).cores = s.cores := rfl
@[simp] theorem State.setCxl_fab (s : State) (n : Nat) (x : Cxl) : (s.setCxl n x).fab = s.fab := rfl
@[simp] theorem State.setCxl_net (s : State) (n : Nat) (x : Cxl) : (s.setCxl n x).net = s.net := rfl
@[simp] theorem State.setCxl_ports (s : State) (n : Nat) (x : Cxl) : (s.setCxl n x).ports = s.ports := rfl
@[simp] theorem State.setCxl_tier (s : State) (n : Nat) (x : Cxl) : (s.setCxl n x).tier = s.tier := rfl
@[simp] theorem State.setCxl_strm (s : State) (n : Nat) (x : Cxl) : (s.setCxl n x).strm = s.strm := rfl
@[simp] theorem State.setCxl_ctxs (s : State) (n : Nat) (x : Cxl) : (s.setCxl n x).ctxs = s.ctxs := rfl
@[simp] theorem State.setCxl_switchTo (s : State) (n : Nat) (x : Cxl) : (s.setCxl n x).switchTo = s.switchTo := rfl
@[simp] theorem State.setCxl_switchAttempt (s : State) (n : Nat) (x : Cxl) : (s.setCxl n x).switchAttempt = s.switchAttempt := rfl
@[simp] theorem State.setCxl_switchRefused (s : State) (n : Nat) (x : Cxl) : (s.setCxl n x).switchRefused = s.switchRefused := rfl
@[simp] theorem State.setCxl_must (s : State) (n : Nat) (x : Cxl) : (s.setCxl n x).must = s.must := rfl
@[simp] theorem State.setCxl_time (s : State) (n : Nat) (x : Cxl) : (s.setCxl n x).time = s.time := rfl
@[simp] theorem State.setCxl_evcs (s : State) (n : Nat) (x : Cxl) : (s.setCxl n x).evcs = s.evcs := rfl
@[simp] theorem State.setCxl_diag (s : State) (n : Nat) (x : Cxl) : (s.setCxl n x).diag = s.diag := rfl
@[simp] theorem State.setCxl_pw (s : State) (n : Nat) (x : Cxl) : (s.setCxl n x).pw = s.pw := rfl
@[simp] theorem State.setCxl_sec (s : State) (n : Nat) (x : Cxl) : (s.setCxl n x).sec = s.sec := rfl
@[simp] theorem State.setCxl_mgmt (s : State) (n : Nat) (x : Cxl) : (s.setCxl n x).mgmt = s.mgmt := rfl

/-! `modCxl` changes `cxls` alone. -/

@[simp] theorem State.modCxl_pending (s : State) (n : Nat) (f : Cxl → Cxl) : (s.modCxl n f).pending = s.pending := rfl
@[simp] theorem State.modCxl_now (s : State) (n : Nat) (f : Cxl → Cxl) : (s.modCxl n f).now = s.now := rfl
@[simp] theorem State.modCxl_free (s : State) (n : Nat) (f : Cxl → Cxl) : (s.modCxl n f).free = s.free := rfl
@[simp] theorem State.modCxl_sent (s : State) (n : Nat) (f : Cxl → Cxl) : (s.modCxl n f).sent = s.sent := rfl
@[simp] theorem State.modCxl_fuse (s : State) (n : Nat) (f : Cxl → Cxl) : (s.modCxl n f).fuse = s.fuse := rfl
@[simp] theorem State.modCxl_nv (s : State) (n : Nat) (f : Cxl → Cxl) : (s.modCxl n f).nv = s.nv := rfl
@[simp] theorem State.modCxl_cores (s : State) (n : Nat) (f : Cxl → Cxl) : (s.modCxl n f).cores = s.cores := rfl
@[simp] theorem State.modCxl_fab (s : State) (n : Nat) (f : Cxl → Cxl) : (s.modCxl n f).fab = s.fab := rfl
@[simp] theorem State.modCxl_net (s : State) (n : Nat) (f : Cxl → Cxl) : (s.modCxl n f).net = s.net := rfl
@[simp] theorem State.modCxl_ports (s : State) (n : Nat) (f : Cxl → Cxl) : (s.modCxl n f).ports = s.ports := rfl
@[simp] theorem State.modCxl_tier (s : State) (n : Nat) (f : Cxl → Cxl) : (s.modCxl n f).tier = s.tier := rfl
@[simp] theorem State.modCxl_strm (s : State) (n : Nat) (f : Cxl → Cxl) : (s.modCxl n f).strm = s.strm := rfl
@[simp] theorem State.modCxl_ctxs (s : State) (n : Nat) (f : Cxl → Cxl) : (s.modCxl n f).ctxs = s.ctxs := rfl
@[simp] theorem State.modCxl_switchTo (s : State) (n : Nat) (f : Cxl → Cxl) : (s.modCxl n f).switchTo = s.switchTo := rfl
@[simp] theorem State.modCxl_switchAttempt (s : State) (n : Nat) (f : Cxl → Cxl) : (s.modCxl n f).switchAttempt = s.switchAttempt := rfl
@[simp] theorem State.modCxl_switchRefused (s : State) (n : Nat) (f : Cxl → Cxl) : (s.modCxl n f).switchRefused = s.switchRefused := rfl
@[simp] theorem State.modCxl_must (s : State) (n : Nat) (f : Cxl → Cxl) : (s.modCxl n f).must = s.must := rfl
@[simp] theorem State.modCxl_time (s : State) (n : Nat) (f : Cxl → Cxl) : (s.modCxl n f).time = s.time := rfl
@[simp] theorem State.modCxl_evcs (s : State) (n : Nat) (f : Cxl → Cxl) : (s.modCxl n f).evcs = s.evcs := rfl
@[simp] theorem State.modCxl_diag (s : State) (n : Nat) (f : Cxl → Cxl) : (s.modCxl n f).diag = s.diag := rfl
@[simp] theorem State.modCxl_pw (s : State) (n : Nat) (f : Cxl → Cxl) : (s.modCxl n f).pw = s.pw := rfl
@[simp] theorem State.modCxl_sec (s : State) (n : Nat) (f : Cxl → Cxl) : (s.modCxl n f).sec = s.sec := rfl
@[simp] theorem State.modCxl_mgmt (s : State) (n : Nat) (f : Cxl → Cxl) : (s.modCxl n f).mgmt = s.mgmt := rfl

/-! `setEvc` changes `evcs` alone. -/

@[simp] theorem State.setEvc_pending (s : State) (n : Nat) (e : Evc) : (s.setEvc n e).pending = s.pending := rfl
@[simp] theorem State.setEvc_now (s : State) (n : Nat) (e : Evc) : (s.setEvc n e).now = s.now := rfl
@[simp] theorem State.setEvc_free (s : State) (n : Nat) (e : Evc) : (s.setEvc n e).free = s.free := rfl
@[simp] theorem State.setEvc_sent (s : State) (n : Nat) (e : Evc) : (s.setEvc n e).sent = s.sent := rfl
@[simp] theorem State.setEvc_fuse (s : State) (n : Nat) (e : Evc) : (s.setEvc n e).fuse = s.fuse := rfl
@[simp] theorem State.setEvc_nv (s : State) (n : Nat) (e : Evc) : (s.setEvc n e).nv = s.nv := rfl
@[simp] theorem State.setEvc_cores (s : State) (n : Nat) (e : Evc) : (s.setEvc n e).cores = s.cores := rfl
@[simp] theorem State.setEvc_fab (s : State) (n : Nat) (e : Evc) : (s.setEvc n e).fab = s.fab := rfl
@[simp] theorem State.setEvc_net (s : State) (n : Nat) (e : Evc) : (s.setEvc n e).net = s.net := rfl
@[simp] theorem State.setEvc_ports (s : State) (n : Nat) (e : Evc) : (s.setEvc n e).ports = s.ports := rfl
@[simp] theorem State.setEvc_tier (s : State) (n : Nat) (e : Evc) : (s.setEvc n e).tier = s.tier := rfl
@[simp] theorem State.setEvc_strm (s : State) (n : Nat) (e : Evc) : (s.setEvc n e).strm = s.strm := rfl
@[simp] theorem State.setEvc_ctxs (s : State) (n : Nat) (e : Evc) : (s.setEvc n e).ctxs = s.ctxs := rfl
@[simp] theorem State.setEvc_switchTo (s : State) (n : Nat) (e : Evc) : (s.setEvc n e).switchTo = s.switchTo := rfl
@[simp] theorem State.setEvc_switchAttempt (s : State) (n : Nat) (e : Evc) : (s.setEvc n e).switchAttempt = s.switchAttempt := rfl
@[simp] theorem State.setEvc_switchRefused (s : State) (n : Nat) (e : Evc) : (s.setEvc n e).switchRefused = s.switchRefused := rfl
@[simp] theorem State.setEvc_must (s : State) (n : Nat) (e : Evc) : (s.setEvc n e).must = s.must := rfl
@[simp] theorem State.setEvc_time (s : State) (n : Nat) (e : Evc) : (s.setEvc n e).time = s.time := rfl
@[simp] theorem State.setEvc_cxls (s : State) (n : Nat) (e : Evc) : (s.setEvc n e).cxls = s.cxls := rfl
@[simp] theorem State.setEvc_diag (s : State) (n : Nat) (e : Evc) : (s.setEvc n e).diag = s.diag := rfl
@[simp] theorem State.setEvc_pw (s : State) (n : Nat) (e : Evc) : (s.setEvc n e).pw = s.pw := rfl
@[simp] theorem State.setEvc_sec (s : State) (n : Nat) (e : Evc) : (s.setEvc n e).sec = s.sec := rfl
@[simp] theorem State.setEvc_mgmt (s : State) (n : Nat) (e : Evc) : (s.setEvc n e).mgmt = s.mgmt := rfl

/-! `emit` changes `sent` alone. -/

@[simp] theorem State.emit_pending (s : State) (x : Sent) : (s.emit x).pending = s.pending := rfl
@[simp] theorem State.emit_now (s : State) (x : Sent) : (s.emit x).now = s.now := rfl
@[simp] theorem State.emit_free (s : State) (x : Sent) : (s.emit x).free = s.free := rfl
@[simp] theorem State.emit_fuse (s : State) (x : Sent) : (s.emit x).fuse = s.fuse := rfl
@[simp] theorem State.emit_nv (s : State) (x : Sent) : (s.emit x).nv = s.nv := rfl
@[simp] theorem State.emit_cores (s : State) (x : Sent) : (s.emit x).cores = s.cores := rfl
@[simp] theorem State.emit_fab (s : State) (x : Sent) : (s.emit x).fab = s.fab := rfl
@[simp] theorem State.emit_net (s : State) (x : Sent) : (s.emit x).net = s.net := rfl
@[simp] theorem State.emit_ports (s : State) (x : Sent) : (s.emit x).ports = s.ports := rfl
@[simp] theorem State.emit_tier (s : State) (x : Sent) : (s.emit x).tier = s.tier := rfl
@[simp] theorem State.emit_strm (s : State) (x : Sent) : (s.emit x).strm = s.strm := rfl
@[simp] theorem State.emit_ctxs (s : State) (x : Sent) : (s.emit x).ctxs = s.ctxs := rfl
@[simp] theorem State.emit_switchTo (s : State) (x : Sent) : (s.emit x).switchTo = s.switchTo := rfl
@[simp] theorem State.emit_switchAttempt (s : State) (x : Sent) : (s.emit x).switchAttempt = s.switchAttempt := rfl
@[simp] theorem State.emit_switchRefused (s : State) (x : Sent) : (s.emit x).switchRefused = s.switchRefused := rfl
@[simp] theorem State.emit_must (s : State) (x : Sent) : (s.emit x).must = s.must := rfl
@[simp] theorem State.emit_time (s : State) (x : Sent) : (s.emit x).time = s.time := rfl
@[simp] theorem State.emit_cxls (s : State) (x : Sent) : (s.emit x).cxls = s.cxls := rfl
@[simp] theorem State.emit_evcs (s : State) (x : Sent) : (s.emit x).evcs = s.evcs := rfl
@[simp] theorem State.emit_diag (s : State) (x : Sent) : (s.emit x).diag = s.diag := rfl
@[simp] theorem State.emit_pw (s : State) (x : Sent) : (s.emit x).pw = s.pw := rfl
@[simp] theorem State.emit_sec (s : State) (x : Sent) : (s.emit x).sec = s.sec := rfl
@[simp] theorem State.emit_mgmt (s : State) (x : Sent) : (s.emit x).mgmt = s.mgmt := rfl

/-! `modDiag` changes `diag` alone. -/

@[simp] theorem State.modDiag_pending (s : State) (f : Diag → Diag) : (s.modDiag f).pending = s.pending := rfl
@[simp] theorem State.modDiag_now (s : State) (f : Diag → Diag) : (s.modDiag f).now = s.now := rfl
@[simp] theorem State.modDiag_free (s : State) (f : Diag → Diag) : (s.modDiag f).free = s.free := rfl
@[simp] theorem State.modDiag_sent (s : State) (f : Diag → Diag) : (s.modDiag f).sent = s.sent := rfl
@[simp] theorem State.modDiag_fuse (s : State) (f : Diag → Diag) : (s.modDiag f).fuse = s.fuse := rfl
@[simp] theorem State.modDiag_nv (s : State) (f : Diag → Diag) : (s.modDiag f).nv = s.nv := rfl
@[simp] theorem State.modDiag_cores (s : State) (f : Diag → Diag) : (s.modDiag f).cores = s.cores := rfl
@[simp] theorem State.modDiag_fab (s : State) (f : Diag → Diag) : (s.modDiag f).fab = s.fab := rfl
@[simp] theorem State.modDiag_net (s : State) (f : Diag → Diag) : (s.modDiag f).net = s.net := rfl
@[simp] theorem State.modDiag_ports (s : State) (f : Diag → Diag) : (s.modDiag f).ports = s.ports := rfl
@[simp] theorem State.modDiag_tier (s : State) (f : Diag → Diag) : (s.modDiag f).tier = s.tier := rfl
@[simp] theorem State.modDiag_strm (s : State) (f : Diag → Diag) : (s.modDiag f).strm = s.strm := rfl
@[simp] theorem State.modDiag_ctxs (s : State) (f : Diag → Diag) : (s.modDiag f).ctxs = s.ctxs := rfl
@[simp] theorem State.modDiag_switchTo (s : State) (f : Diag → Diag) : (s.modDiag f).switchTo = s.switchTo := rfl
@[simp] theorem State.modDiag_switchAttempt (s : State) (f : Diag → Diag) : (s.modDiag f).switchAttempt = s.switchAttempt := rfl
@[simp] theorem State.modDiag_switchRefused (s : State) (f : Diag → Diag) : (s.modDiag f).switchRefused = s.switchRefused := rfl
@[simp] theorem State.modDiag_must (s : State) (f : Diag → Diag) : (s.modDiag f).must = s.must := rfl
@[simp] theorem State.modDiag_time (s : State) (f : Diag → Diag) : (s.modDiag f).time = s.time := rfl
@[simp] theorem State.modDiag_cxls (s : State) (f : Diag → Diag) : (s.modDiag f).cxls = s.cxls := rfl
@[simp] theorem State.modDiag_evcs (s : State) (f : Diag → Diag) : (s.modDiag f).evcs = s.evcs := rfl
@[simp] theorem State.modDiag_pw (s : State) (f : Diag → Diag) : (s.modDiag f).pw = s.pw := rfl
@[simp] theorem State.modDiag_sec (s : State) (f : Diag → Diag) : (s.modDiag f).sec = s.sec := rfl
@[simp] theorem State.modDiag_mgmt (s : State) (f : Diag → Diag) : (s.modDiag f).mgmt = s.mgmt := rfl

/-! `modFold` changes `fab` alone. -/

@[simp] theorem State.modFold_pending (s : State) (f : FoldUnit → FoldUnit) : (s.modFold f).pending = s.pending := rfl
@[simp] theorem State.modFold_now (s : State) (f : FoldUnit → FoldUnit) : (s.modFold f).now = s.now := rfl
@[simp] theorem State.modFold_free (s : State) (f : FoldUnit → FoldUnit) : (s.modFold f).free = s.free := rfl
@[simp] theorem State.modFold_sent (s : State) (f : FoldUnit → FoldUnit) : (s.modFold f).sent = s.sent := rfl
@[simp] theorem State.modFold_fuse (s : State) (f : FoldUnit → FoldUnit) : (s.modFold f).fuse = s.fuse := rfl
@[simp] theorem State.modFold_nv (s : State) (f : FoldUnit → FoldUnit) : (s.modFold f).nv = s.nv := rfl
@[simp] theorem State.modFold_cores (s : State) (f : FoldUnit → FoldUnit) : (s.modFold f).cores = s.cores := rfl
@[simp] theorem State.modFold_net (s : State) (f : FoldUnit → FoldUnit) : (s.modFold f).net = s.net := rfl
@[simp] theorem State.modFold_ports (s : State) (f : FoldUnit → FoldUnit) : (s.modFold f).ports = s.ports := rfl
@[simp] theorem State.modFold_tier (s : State) (f : FoldUnit → FoldUnit) : (s.modFold f).tier = s.tier := rfl
@[simp] theorem State.modFold_strm (s : State) (f : FoldUnit → FoldUnit) : (s.modFold f).strm = s.strm := rfl
@[simp] theorem State.modFold_ctxs (s : State) (f : FoldUnit → FoldUnit) : (s.modFold f).ctxs = s.ctxs := rfl
@[simp] theorem State.modFold_switchTo (s : State) (f : FoldUnit → FoldUnit) : (s.modFold f).switchTo = s.switchTo := rfl
@[simp] theorem State.modFold_switchAttempt (s : State) (f : FoldUnit → FoldUnit) : (s.modFold f).switchAttempt = s.switchAttempt := rfl
@[simp] theorem State.modFold_switchRefused (s : State) (f : FoldUnit → FoldUnit) : (s.modFold f).switchRefused = s.switchRefused := rfl
@[simp] theorem State.modFold_must (s : State) (f : FoldUnit → FoldUnit) : (s.modFold f).must = s.must := rfl
@[simp] theorem State.modFold_time (s : State) (f : FoldUnit → FoldUnit) : (s.modFold f).time = s.time := rfl
@[simp] theorem State.modFold_cxls (s : State) (f : FoldUnit → FoldUnit) : (s.modFold f).cxls = s.cxls := rfl
@[simp] theorem State.modFold_evcs (s : State) (f : FoldUnit → FoldUnit) : (s.modFold f).evcs = s.evcs := rfl
@[simp] theorem State.modFold_diag (s : State) (f : FoldUnit → FoldUnit) : (s.modFold f).diag = s.diag := rfl
@[simp] theorem State.modFold_pw (s : State) (f : FoldUnit → FoldUnit) : (s.modFold f).pw = s.pw := rfl
@[simp] theorem State.modFold_sec (s : State) (f : FoldUnit → FoldUnit) : (s.modFold f).sec = s.sec := rfl
@[simp] theorem State.modFold_mgmt (s : State) (f : FoldUnit → FoldUnit) : (s.modFold f).mgmt = s.mgmt := rfl

/-! `setOut` changes `fab` alone. -/

@[simp] theorem State.setOut_pending (s : State) (n : Nat) (o : OutSt) : (s.setOut n o).pending = s.pending := rfl
@[simp] theorem State.setOut_now (s : State) (n : Nat) (o : OutSt) : (s.setOut n o).now = s.now := rfl
@[simp] theorem State.setOut_free (s : State) (n : Nat) (o : OutSt) : (s.setOut n o).free = s.free := rfl
@[simp] theorem State.setOut_sent (s : State) (n : Nat) (o : OutSt) : (s.setOut n o).sent = s.sent := rfl
@[simp] theorem State.setOut_fuse (s : State) (n : Nat) (o : OutSt) : (s.setOut n o).fuse = s.fuse := rfl
@[simp] theorem State.setOut_nv (s : State) (n : Nat) (o : OutSt) : (s.setOut n o).nv = s.nv := rfl
@[simp] theorem State.setOut_cores (s : State) (n : Nat) (o : OutSt) : (s.setOut n o).cores = s.cores := rfl
@[simp] theorem State.setOut_net (s : State) (n : Nat) (o : OutSt) : (s.setOut n o).net = s.net := rfl
@[simp] theorem State.setOut_ports (s : State) (n : Nat) (o : OutSt) : (s.setOut n o).ports = s.ports := rfl
@[simp] theorem State.setOut_tier (s : State) (n : Nat) (o : OutSt) : (s.setOut n o).tier = s.tier := rfl
@[simp] theorem State.setOut_strm (s : State) (n : Nat) (o : OutSt) : (s.setOut n o).strm = s.strm := rfl
@[simp] theorem State.setOut_ctxs (s : State) (n : Nat) (o : OutSt) : (s.setOut n o).ctxs = s.ctxs := rfl
@[simp] theorem State.setOut_switchTo (s : State) (n : Nat) (o : OutSt) : (s.setOut n o).switchTo = s.switchTo := rfl
@[simp] theorem State.setOut_switchAttempt (s : State) (n : Nat) (o : OutSt) : (s.setOut n o).switchAttempt = s.switchAttempt := rfl
@[simp] theorem State.setOut_switchRefused (s : State) (n : Nat) (o : OutSt) : (s.setOut n o).switchRefused = s.switchRefused := rfl
@[simp] theorem State.setOut_must (s : State) (n : Nat) (o : OutSt) : (s.setOut n o).must = s.must := rfl
@[simp] theorem State.setOut_time (s : State) (n : Nat) (o : OutSt) : (s.setOut n o).time = s.time := rfl
@[simp] theorem State.setOut_cxls (s : State) (n : Nat) (o : OutSt) : (s.setOut n o).cxls = s.cxls := rfl
@[simp] theorem State.setOut_evcs (s : State) (n : Nat) (o : OutSt) : (s.setOut n o).evcs = s.evcs := rfl
@[simp] theorem State.setOut_diag (s : State) (n : Nat) (o : OutSt) : (s.setOut n o).diag = s.diag := rfl
@[simp] theorem State.setOut_pw (s : State) (n : Nat) (o : OutSt) : (s.setOut n o).pw = s.pw := rfl
@[simp] theorem State.setOut_sec (s : State) (n : Nat) (o : OutSt) : (s.setOut n o).sec = s.sec := rfl
@[simp] theorem State.setOut_mgmt (s : State) (n : Nat) (o : OutSt) : (s.setOut n o).mgmt = s.mgmt := rfl

/-! `setIn` changes `fab` alone. -/

@[simp] theorem State.setIn_pending (s : State) (n : Nat) (i : InSt) : (s.setIn n i).pending = s.pending := rfl
@[simp] theorem State.setIn_now (s : State) (n : Nat) (i : InSt) : (s.setIn n i).now = s.now := rfl
@[simp] theorem State.setIn_free (s : State) (n : Nat) (i : InSt) : (s.setIn n i).free = s.free := rfl
@[simp] theorem State.setIn_sent (s : State) (n : Nat) (i : InSt) : (s.setIn n i).sent = s.sent := rfl
@[simp] theorem State.setIn_fuse (s : State) (n : Nat) (i : InSt) : (s.setIn n i).fuse = s.fuse := rfl
@[simp] theorem State.setIn_nv (s : State) (n : Nat) (i : InSt) : (s.setIn n i).nv = s.nv := rfl
@[simp] theorem State.setIn_cores (s : State) (n : Nat) (i : InSt) : (s.setIn n i).cores = s.cores := rfl
@[simp] theorem State.setIn_net (s : State) (n : Nat) (i : InSt) : (s.setIn n i).net = s.net := rfl
@[simp] theorem State.setIn_ports (s : State) (n : Nat) (i : InSt) : (s.setIn n i).ports = s.ports := rfl
@[simp] theorem State.setIn_tier (s : State) (n : Nat) (i : InSt) : (s.setIn n i).tier = s.tier := rfl
@[simp] theorem State.setIn_strm (s : State) (n : Nat) (i : InSt) : (s.setIn n i).strm = s.strm := rfl
@[simp] theorem State.setIn_ctxs (s : State) (n : Nat) (i : InSt) : (s.setIn n i).ctxs = s.ctxs := rfl
@[simp] theorem State.setIn_switchTo (s : State) (n : Nat) (i : InSt) : (s.setIn n i).switchTo = s.switchTo := rfl
@[simp] theorem State.setIn_switchAttempt (s : State) (n : Nat) (i : InSt) : (s.setIn n i).switchAttempt = s.switchAttempt := rfl
@[simp] theorem State.setIn_switchRefused (s : State) (n : Nat) (i : InSt) : (s.setIn n i).switchRefused = s.switchRefused := rfl
@[simp] theorem State.setIn_must (s : State) (n : Nat) (i : InSt) : (s.setIn n i).must = s.must := rfl
@[simp] theorem State.setIn_time (s : State) (n : Nat) (i : InSt) : (s.setIn n i).time = s.time := rfl
@[simp] theorem State.setIn_cxls (s : State) (n : Nat) (i : InSt) : (s.setIn n i).cxls = s.cxls := rfl
@[simp] theorem State.setIn_evcs (s : State) (n : Nat) (i : InSt) : (s.setIn n i).evcs = s.evcs := rfl
@[simp] theorem State.setIn_diag (s : State) (n : Nat) (i : InSt) : (s.setIn n i).diag = s.diag := rfl
@[simp] theorem State.setIn_pw (s : State) (n : Nat) (i : InSt) : (s.setIn n i).pw = s.pw := rfl
@[simp] theorem State.setIn_sec (s : State) (n : Nat) (i : InSt) : (s.setIn n i).sec = s.sec := rfl
@[simp] theorem State.setIn_mgmt (s : State) (n : Nat) (i : InSt) : (s.setIn n i).mgmt = s.mgmt := rfl

/-! Reads after replacements. -/

theorem State.core_setCore (s : State) (n m : Nat) (c : Core) : (s.setCore n c).core m = if m = n then c else s.core m :=
  Tab.get_put _ n m c _
@[simp] theorem State.core_setCore_self (s : State) (n : Nat) (c : Core) : (s.setCore n c).core n = c := Tab.get_put_self _ n c _
@[simp] theorem State.setCore_setCore (s : State) (n : Nat) (c c' : Core) : (s.setCore n c).setCore n c' = s.setCore n c' := by
  simp [State.setCore]
theorem State.port_setPort (s : State) (n m : Nat) (p : Port) : (s.setPort n p).port m = if m = n then p else s.port m :=
  Tab.get_put _ n m p _
@[simp] theorem State.port_setPort_self (s : State) (n : Nat) (p : Port) : (s.setPort n p).port n = p := Tab.get_put_self _ n p _
@[simp] theorem State.setPort_setPort (s : State) (n : Nat) (p p' : Port) : (s.setPort n p).setPort n p' = s.setPort n p' := by
  simp [State.setPort]
theorem State.ctx_setCtx (s : State) (n m : Nat) (x : Ctx) : (s.setCtx n x).ctx m = if m = n then x else s.ctx m :=
  Tab.get_put _ n m x _
@[simp] theorem State.ctx_setCtx_self (s : State) (n : Nat) (x : Ctx) : (s.setCtx n x).ctx n = x := Tab.get_put_self _ n x _
@[simp] theorem State.setCtx_setCtx (s : State) (n : Nat) (x x' : Ctx) : (s.setCtx n x).setCtx n x' = s.setCtx n x' := by
  simp [State.setCtx]
theorem State.cxl_setCxl (s : State) (n m : Nat) (x : Cxl) : (s.setCxl n x).cxl m = if m = n then x else s.cxl m :=
  Tab.get_put _ n m x _
@[simp] theorem State.cxl_setCxl_self (s : State) (n : Nat) (x : Cxl) : (s.setCxl n x).cxl n = x := Tab.get_put_self _ n x _
@[simp] theorem State.setCxl_setCxl (s : State) (n : Nat) (x x' : Cxl) : (s.setCxl n x).setCxl n x' = s.setCxl n x' := by
  simp [State.setCxl]
theorem State.evc_setEvc (s : State) (n m : Nat) (e : Evc) : (s.setEvc n e).evc m = if m = n then e else s.evc m :=
  Tab.get_put _ n m e _
@[simp] theorem State.evc_setEvc_self (s : State) (n : Nat) (e : Evc) : (s.setEvc n e).evc n = e := Tab.get_put_self _ n e _
@[simp] theorem State.setEvc_setEvc (s : State) (n : Nat) (e e' : Evc) : (s.setEvc n e).setEvc n e' = s.setEvc n e' := by
  simp [State.setEvc]
theorem State.modCore_eq (s : State) (n : Nat) (f : Core → Core) : s.modCore n f = s.setCore n (f (s.core n)) := rfl
@[simp] theorem State.core_modCore_self (s : State) (n : Nat) (f : Core → Core) : (s.modCore n f).core n = f (s.core n) :=
  State.core_setCore_self s n _
theorem State.modPort_eq (s : State) (n : Nat) (f : Port → Port) : s.modPort n f = s.setPort n (f (s.port n)) := rfl
@[simp] theorem State.port_modPort_self (s : State) (n : Nat) (f : Port → Port) : (s.modPort n f).port n = f (s.port n) :=
  State.port_setPort_self s n _
theorem State.modCtx_eq (s : State) (n : Nat) (f : Ctx → Ctx) : s.modCtx n f = s.setCtx n (f (s.ctx n)) := rfl
@[simp] theorem State.ctx_modCtx_self (s : State) (n : Nat) (f : Ctx → Ctx) : (s.modCtx n f).ctx n = f (s.ctx n) :=
  State.ctx_setCtx_self s n _
theorem State.modCxl_eq (s : State) (n : Nat) (f : Cxl → Cxl) : s.modCxl n f = s.setCxl n (f (s.cxl n)) := rfl
@[simp] theorem State.cxl_modCxl_self (s : State) (n : Nat) (f : Cxl → Cxl) : (s.modCxl n f).cxl n = f (s.cxl n) :=
  State.cxl_setCxl_self s n _

/-! Other accessors after an update. -/

@[simp] theorem State.setCore_port (s : State) (n : Nat) (c : Core) (k : Nat) : (s.setCore n c).port k = s.port k := rfl
@[simp] theorem State.setCore_ctx (s : State) (n : Nat) (c : Core) (k : Nat) : (s.setCore n c).ctx k = s.ctx k := rfl
@[simp] theorem State.setCore_cxl (s : State) (n : Nat) (c : Core) (k : Nat) : (s.setCore n c).cxl k = s.cxl k := rfl
@[simp] theorem State.setCore_evc (s : State) (n : Nat) (c : Core) (k : Nat) : (s.setCore n c).evc k = s.evc k := rfl
@[simp] theorem State.modCore_port (s : State) (n : Nat) (f : Core → Core) (k : Nat) : (s.modCore n f).port k = s.port k := rfl
@[simp] theorem State.modCore_ctx (s : State) (n : Nat) (f : Core → Core) (k : Nat) : (s.modCore n f).ctx k = s.ctx k := rfl
@[simp] theorem State.modCore_cxl (s : State) (n : Nat) (f : Core → Core) (k : Nat) : (s.modCore n f).cxl k = s.cxl k := rfl
@[simp] theorem State.modCore_evc (s : State) (n : Nat) (f : Core → Core) (k : Nat) : (s.modCore n f).evc k = s.evc k := rfl
@[simp] theorem State.setPort_core (s : State) (n : Nat) (p : Port) (k : Nat) : (s.setPort n p).core k = s.core k := rfl
@[simp] theorem State.setPort_ctx (s : State) (n : Nat) (p : Port) (k : Nat) : (s.setPort n p).ctx k = s.ctx k := rfl
@[simp] theorem State.setPort_cxl (s : State) (n : Nat) (p : Port) (k : Nat) : (s.setPort n p).cxl k = s.cxl k := rfl
@[simp] theorem State.setPort_evc (s : State) (n : Nat) (p : Port) (k : Nat) : (s.setPort n p).evc k = s.evc k := rfl
@[simp] theorem State.modPort_core (s : State) (n : Nat) (f : Port → Port) (k : Nat) : (s.modPort n f).core k = s.core k := rfl
@[simp] theorem State.modPort_ctx (s : State) (n : Nat) (f : Port → Port) (k : Nat) : (s.modPort n f).ctx k = s.ctx k := rfl
@[simp] theorem State.modPort_cxl (s : State) (n : Nat) (f : Port → Port) (k : Nat) : (s.modPort n f).cxl k = s.cxl k := rfl
@[simp] theorem State.modPort_evc (s : State) (n : Nat) (f : Port → Port) (k : Nat) : (s.modPort n f).evc k = s.evc k := rfl
@[simp] theorem State.setCtx_core (s : State) (n : Nat) (x : Ctx) (k : Nat) : (s.setCtx n x).core k = s.core k := rfl
@[simp] theorem State.setCtx_port (s : State) (n : Nat) (x : Ctx) (k : Nat) : (s.setCtx n x).port k = s.port k := rfl
@[simp] theorem State.setCtx_cxl (s : State) (n : Nat) (x : Ctx) (k : Nat) : (s.setCtx n x).cxl k = s.cxl k := rfl
@[simp] theorem State.setCtx_evc (s : State) (n : Nat) (x : Ctx) (k : Nat) : (s.setCtx n x).evc k = s.evc k := rfl
@[simp] theorem State.modCtx_core (s : State) (n : Nat) (f : Ctx → Ctx) (k : Nat) : (s.modCtx n f).core k = s.core k := rfl
@[simp] theorem State.modCtx_port (s : State) (n : Nat) (f : Ctx → Ctx) (k : Nat) : (s.modCtx n f).port k = s.port k := rfl
@[simp] theorem State.modCtx_cxl (s : State) (n : Nat) (f : Ctx → Ctx) (k : Nat) : (s.modCtx n f).cxl k = s.cxl k := rfl
@[simp] theorem State.modCtx_evc (s : State) (n : Nat) (f : Ctx → Ctx) (k : Nat) : (s.modCtx n f).evc k = s.evc k := rfl
@[simp] theorem State.setCxl_core (s : State) (n : Nat) (x : Cxl) (k : Nat) : (s.setCxl n x).core k = s.core k := rfl
@[simp] theorem State.setCxl_port (s : State) (n : Nat) (x : Cxl) (k : Nat) : (s.setCxl n x).port k = s.port k := rfl
@[simp] theorem State.setCxl_ctx (s : State) (n : Nat) (x : Cxl) (k : Nat) : (s.setCxl n x).ctx k = s.ctx k := rfl
@[simp] theorem State.setCxl_evc (s : State) (n : Nat) (x : Cxl) (k : Nat) : (s.setCxl n x).evc k = s.evc k := rfl
@[simp] theorem State.modCxl_core (s : State) (n : Nat) (f : Cxl → Cxl) (k : Nat) : (s.modCxl n f).core k = s.core k := rfl
@[simp] theorem State.modCxl_port (s : State) (n : Nat) (f : Cxl → Cxl) (k : Nat) : (s.modCxl n f).port k = s.port k := rfl
@[simp] theorem State.modCxl_ctx (s : State) (n : Nat) (f : Cxl → Cxl) (k : Nat) : (s.modCxl n f).ctx k = s.ctx k := rfl
@[simp] theorem State.modCxl_evc (s : State) (n : Nat) (f : Cxl → Cxl) (k : Nat) : (s.modCxl n f).evc k = s.evc k := rfl
@[simp] theorem State.setEvc_core (s : State) (n : Nat) (e : Evc) (k : Nat) : (s.setEvc n e).core k = s.core k := rfl
@[simp] theorem State.setEvc_port (s : State) (n : Nat) (e : Evc) (k : Nat) : (s.setEvc n e).port k = s.port k := rfl
@[simp] theorem State.setEvc_ctx (s : State) (n : Nat) (e : Evc) (k : Nat) : (s.setEvc n e).ctx k = s.ctx k := rfl
@[simp] theorem State.setEvc_cxl (s : State) (n : Nat) (e : Evc) (k : Nat) : (s.setEvc n e).cxl k = s.cxl k := rfl
@[simp] theorem State.emit_core (s : State) (x : Sent) (k : Nat) : (s.emit x).core k = s.core k := rfl
@[simp] theorem State.emit_port (s : State) (x : Sent) (k : Nat) : (s.emit x).port k = s.port k := rfl
@[simp] theorem State.emit_ctx (s : State) (x : Sent) (k : Nat) : (s.emit x).ctx k = s.ctx k := rfl
@[simp] theorem State.emit_cxl (s : State) (x : Sent) (k : Nat) : (s.emit x).cxl k = s.cxl k := rfl
@[simp] theorem State.emit_evc (s : State) (x : Sent) (k : Nat) : (s.emit x).evc k = s.evc k := rfl
@[simp] theorem State.modDiag_core (s : State) (f : Diag → Diag) (k : Nat) : (s.modDiag f).core k = s.core k := rfl
@[simp] theorem State.modDiag_port (s : State) (f : Diag → Diag) (k : Nat) : (s.modDiag f).port k = s.port k := rfl
@[simp] theorem State.modDiag_ctx (s : State) (f : Diag → Diag) (k : Nat) : (s.modDiag f).ctx k = s.ctx k := rfl
@[simp] theorem State.modDiag_cxl (s : State) (f : Diag → Diag) (k : Nat) : (s.modDiag f).cxl k = s.cxl k := rfl
@[simp] theorem State.modDiag_evc (s : State) (f : Diag → Diag) (k : Nat) : (s.modDiag f).evc k = s.evc k := rfl
@[simp] theorem State.modFold_core (s : State) (f : FoldUnit → FoldUnit) (k : Nat) : (s.modFold f).core k = s.core k := rfl
@[simp] theorem State.modFold_port (s : State) (f : FoldUnit → FoldUnit) (k : Nat) : (s.modFold f).port k = s.port k := rfl
@[simp] theorem State.modFold_ctx (s : State) (f : FoldUnit → FoldUnit) (k : Nat) : (s.modFold f).ctx k = s.ctx k := rfl
@[simp] theorem State.modFold_cxl (s : State) (f : FoldUnit → FoldUnit) (k : Nat) : (s.modFold f).cxl k = s.cxl k := rfl
@[simp] theorem State.modFold_evc (s : State) (f : FoldUnit → FoldUnit) (k : Nat) : (s.modFold f).evc k = s.evc k := rfl
@[simp] theorem State.setOut_core (s : State) (n : Nat) (o : OutSt) (k : Nat) : (s.setOut n o).core k = s.core k := rfl
@[simp] theorem State.setOut_port (s : State) (n : Nat) (o : OutSt) (k : Nat) : (s.setOut n o).port k = s.port k := rfl
@[simp] theorem State.setOut_ctx (s : State) (n : Nat) (o : OutSt) (k : Nat) : (s.setOut n o).ctx k = s.ctx k := rfl
@[simp] theorem State.setOut_cxl (s : State) (n : Nat) (o : OutSt) (k : Nat) : (s.setOut n o).cxl k = s.cxl k := rfl
@[simp] theorem State.setOut_evc (s : State) (n : Nat) (o : OutSt) (k : Nat) : (s.setOut n o).evc k = s.evc k := rfl
@[simp] theorem State.setIn_core (s : State) (n : Nat) (i : InSt) (k : Nat) : (s.setIn n i).core k = s.core k := rfl
@[simp] theorem State.setIn_port (s : State) (n : Nat) (i : InSt) (k : Nat) : (s.setIn n i).port k = s.port k := rfl
@[simp] theorem State.setIn_ctx (s : State) (n : Nat) (i : InSt) (k : Nat) : (s.setIn n i).ctx k = s.ctx k := rfl
@[simp] theorem State.setIn_cxl (s : State) (n : Nat) (i : InSt) (k : Nat) : (s.setIn n i).cxl k = s.cxl k := rfl
@[simp] theorem State.setIn_evc (s : State) (n : Nat) (i : InSt) (k : Nat) : (s.setIn n i).evc k = s.evc k := rfl

end Sys2Proof.Machine
end

