-- ==== Sys2Proof/Laws/Events.lean ====
section
/-! SUPPORT. What the event operations, keeper mode and a change of a slot's state leave alone. -/

namespace Sys2Proof.Machine

/-- `t` differs from `s` at most in what an event touches: messages sent, CXL ports, event controllers, counts. -/
def State.EventFrame (s t : State) : Prop := { s with sent := t.sent, cxls := t.cxls, evcs := t.evcs, diag := t.diag } = t

theorem State.EventFrame.refl (s : State) : State.EventFrame s s := rfl
theorem State.EventFrame.trans {s t u : State} (h : State.EventFrame s t) (k : State.EventFrame t u) : State.EventFrame s u := by
  unfold State.EventFrame at *; rw [← k, ← h]
theorem State.eventFrame_emit (s : State) (x : Sent) : State.EventFrame s (s.emit x) := rfl
theorem State.eventFrame_setCxl (s : State) (n : Nat) (c : Cxl) : State.EventFrame s (s.setCxl n c) := rfl
theorem State.eventFrame_setEvc (s : State) (n : Nat) (e : Evc) : State.EventFrame s (s.setEvc n e) := rfl
theorem State.eventFrame_modDiag (s : State) (f : Diag → Diag) : State.EventFrame s (s.modDiag f) := rfl
theorem State.eventFrame_msix (s : State) (p v : Nat) : State.EventFrame s (s.msix p v) := by
  unfold State.msix; dsimp only; split
  · exact State.eventFrame_emit _ _
  · exact State.eventFrame_setCxl _ _ _
theorem State.eventFrame_deliver (s : State) (d x : Nat) : State.EventFrame s (s.deliver d x) := by
  unfold State.deliver; dsimp only
  split <;> split
  · exact State.eventFrame_emit _ _
  · exact (State.eventFrame_msix _ _ _).trans (State.eventFrame_emit _ _)
  · exact State.EventFrame.refl _
  · exact State.eventFrame_msix _ _ _
theorem State.eventFrame_setPend (s : State) (d x : Nat) : State.EventFrame s (s.setPend d x) := by
  unfold State.setPend; dsimp only; split
  · exact (State.eventFrame_setEvc _ _ _).trans (State.eventFrame_deliver _ _ _)
  · exact State.eventFrame_setEvc _ _ _
theorem State.eventFrame_guardSummary (s : State) (d : Nat) : State.EventFrame s (s.guardSummary d) := by
  unfold State.guardSummary; dsimp only; split
  · exact ((State.eventFrame_setEvc _ _ _).trans (State.eventFrame_modDiag _ _)).trans (State.eventFrame_setPend _ _ _)
  · exact State.eventFrame_setEvc _ _ _
theorem State.eventFrame_assertEvent (s : State) (d x : Nat) : State.EventFrame s (s.assertEvent d x) := by
  unfold State.assertEvent; dsimp only; split
  · exact State.EventFrame.refl _
  · split
    · exact (State.eventFrame_modDiag _ _).trans (State.eventFrame_setPend _ _ _)
    · have h := ((State.eventFrame_modDiag s fun d => { d with events := satAdd 64 d.events 1 }).trans
        (State.eventFrame_setEvc _ d (stormCount (Tab.get {} s.nv.guards (1024 * d + x)) s.now (s.evc d) x).1)).trans
        (State.eventFrame_setPend _ d x)
      split
      · exact (h.trans (State.eventFrame_modDiag _ _)).trans (State.eventFrame_guardSummary _ _)
      · exact h
theorem State.eventFrame_levelInput (s : State) (d x : Nat) (b : Bool) : State.EventFrame s (s.levelInput d x b) := by
  unfold State.levelInput; dsimp only; split
  · exact (State.eventFrame_setEvc _ _ _).trans (State.eventFrame_assertEvent _ _ _)
  · exact State.eventFrame_setEvc _ _ _

theorem State.EventFrame.pending {s t : State} (h : State.EventFrame s t) : t.pending = s.pending := by rw [← h]
theorem State.EventFrame.now {s t : State} (h : State.EventFrame s t) : t.now = s.now := by rw [← h]
theorem State.EventFrame.free {s t : State} (h : State.EventFrame s t) : t.free = s.free := by rw [← h]
theorem State.EventFrame.fuse {s t : State} (h : State.EventFrame s t) : t.fuse = s.fuse := by rw [← h]
theorem State.EventFrame.nv {s t : State} (h : State.EventFrame s t) : t.nv = s.nv := by rw [← h]
theorem State.EventFrame.cores {s t : State} (h : State.EventFrame s t) : t.cores = s.cores := by rw [← h]
theorem State.EventFrame.fab {s t : State} (h : State.EventFrame s t) : t.fab = s.fab := by rw [← h]
theorem State.EventFrame.net {s t : State} (h : State.EventFrame s t) : t.net = s.net := by rw [← h]
theorem State.EventFrame.ports {s t : State} (h : State.EventFrame s t) : t.ports = s.ports := by rw [← h]
theorem State.EventFrame.tier {s t : State} (h : State.EventFrame s t) : t.tier = s.tier := by rw [← h]
theorem State.EventFrame.strm {s t : State} (h : State.EventFrame s t) : t.strm = s.strm := by rw [← h]
theorem State.EventFrame.ctxs {s t : State} (h : State.EventFrame s t) : t.ctxs = s.ctxs := by rw [← h]
theorem State.EventFrame.switchTo {s t : State} (h : State.EventFrame s t) : t.switchTo = s.switchTo := by rw [← h]
theorem State.EventFrame.switchAttempt {s t : State} (h : State.EventFrame s t) : t.switchAttempt = s.switchAttempt := by rw [← h]
theorem State.EventFrame.switchRefused {s t : State} (h : State.EventFrame s t) : t.switchRefused = s.switchRefused := by rw [← h]
theorem State.EventFrame.must {s t : State} (h : State.EventFrame s t) : t.must = s.must := by rw [← h]
theorem State.EventFrame.time {s t : State} (h : State.EventFrame s t) : t.time = s.time := by rw [← h]
theorem State.EventFrame.pw {s t : State} (h : State.EventFrame s t) : t.pw = s.pw := by rw [← h]
theorem State.EventFrame.sec {s t : State} (h : State.EventFrame s t) : t.sec = s.sec := by rw [← h]
theorem State.EventFrame.mgmt {s t : State} (h : State.EventFrame s t) : t.mgmt = s.mgmt := by rw [← h]

/-! Fields that `assertEvent` leaves alone. -/

@[simp] theorem State.assertEvent_pending (s : State) (d x : Nat) : (s.assertEvent d x).pending = s.pending := (s.eventFrame_assertEvent d x).pending
@[simp] theorem State.assertEvent_now (s : State) (d x : Nat) : (s.assertEvent d x).now = s.now := (s.eventFrame_assertEvent d x).now
@[simp] theorem State.assertEvent_free (s : State) (d x : Nat) : (s.assertEvent d x).free = s.free := (s.eventFrame_assertEvent d x).free
@[simp] theorem State.assertEvent_fuse (s : State) (d x : Nat) : (s.assertEvent d x).fuse = s.fuse := (s.eventFrame_assertEvent d x).fuse
@[simp] theorem State.assertEvent_nv (s : State) (d x : Nat) : (s.assertEvent d x).nv = s.nv := (s.eventFrame_assertEvent d x).nv
@[simp] theorem State.assertEvent_cores (s : State) (d x : Nat) : (s.assertEvent d x).cores = s.cores := (s.eventFrame_assertEvent d x).cores
@[simp] theorem State.assertEvent_fab (s : State) (d x : Nat) : (s.assertEvent d x).fab = s.fab := (s.eventFrame_assertEvent d x).fab
@[simp] theorem State.assertEvent_net (s : State) (d x : Nat) : (s.assertEvent d x).net = s.net := (s.eventFrame_assertEvent d x).net
@[simp] theorem State.assertEvent_ports (s : State) (d x : Nat) : (s.assertEvent d x).ports = s.ports := (s.eventFrame_assertEvent d x).ports
@[simp] theorem State.assertEvent_tier (s : State) (d x : Nat) : (s.assertEvent d x).tier = s.tier := (s.eventFrame_assertEvent d x).tier
@[simp] theorem State.assertEvent_strm (s : State) (d x : Nat) : (s.assertEvent d x).strm = s.strm := (s.eventFrame_assertEvent d x).strm
@[simp] theorem State.assertEvent_ctxs (s : State) (d x : Nat) : (s.assertEvent d x).ctxs = s.ctxs := (s.eventFrame_assertEvent d x).ctxs
@[simp] theorem State.assertEvent_switchTo (s : State) (d x : Nat) : (s.assertEvent d x).switchTo = s.switchTo := (s.eventFrame_assertEvent d x).switchTo
@[simp] theorem State.assertEvent_switchAttempt (s : State) (d x : Nat) : (s.assertEvent d x).switchAttempt = s.switchAttempt := (s.eventFrame_assertEvent d x).switchAttempt
@[simp] theorem State.assertEvent_switchRefused (s : State) (d x : Nat) : (s.assertEvent d x).switchRefused = s.switchRefused := (s.eventFrame_assertEvent d x).switchRefused
@[simp] theorem State.assertEvent_must (s : State) (d x : Nat) : (s.assertEvent d x).must = s.must := (s.eventFrame_assertEvent d x).must
@[simp] theorem State.assertEvent_time (s : State) (d x : Nat) : (s.assertEvent d x).time = s.time := (s.eventFrame_assertEvent d x).time
@[simp] theorem State.assertEvent_pw (s : State) (d x : Nat) : (s.assertEvent d x).pw = s.pw := (s.eventFrame_assertEvent d x).pw
@[simp] theorem State.assertEvent_sec (s : State) (d x : Nat) : (s.assertEvent d x).sec = s.sec := (s.eventFrame_assertEvent d x).sec
@[simp] theorem State.assertEvent_mgmt (s : State) (d x : Nat) : (s.assertEvent d x).mgmt = s.mgmt := (s.eventFrame_assertEvent d x).mgmt

/-! Fields that `levelInput` leaves alone. -/

@[simp] theorem State.levelInput_pending (s : State) (d x : Nat) (b : Bool) : (s.levelInput d x b).pending = s.pending := (s.eventFrame_levelInput d x b).pending
@[simp] theorem State.levelInput_now (s : State) (d x : Nat) (b : Bool) : (s.levelInput d x b).now = s.now := (s.eventFrame_levelInput d x b).now
@[simp] theorem State.levelInput_free (s : State) (d x : Nat) (b : Bool) : (s.levelInput d x b).free = s.free := (s.eventFrame_levelInput d x b).free
@[simp] theorem State.levelInput_fuse (s : State) (d x : Nat) (b : Bool) : (s.levelInput d x b).fuse = s.fuse := (s.eventFrame_levelInput d x b).fuse
@[simp] theorem State.levelInput_nv (s : State) (d x : Nat) (b : Bool) : (s.levelInput d x b).nv = s.nv := (s.eventFrame_levelInput d x b).nv
@[simp] theorem State.levelInput_cores (s : State) (d x : Nat) (b : Bool) : (s.levelInput d x b).cores = s.cores := (s.eventFrame_levelInput d x b).cores
@[simp] theorem State.levelInput_fab (s : State) (d x : Nat) (b : Bool) : (s.levelInput d x b).fab = s.fab := (s.eventFrame_levelInput d x b).fab
@[simp] theorem State.levelInput_net (s : State) (d x : Nat) (b : Bool) : (s.levelInput d x b).net = s.net := (s.eventFrame_levelInput d x b).net
@[simp] theorem State.levelInput_ports (s : State) (d x : Nat) (b : Bool) : (s.levelInput d x b).ports = s.ports := (s.eventFrame_levelInput d x b).ports
@[simp] theorem State.levelInput_tier (s : State) (d x : Nat) (b : Bool) : (s.levelInput d x b).tier = s.tier := (s.eventFrame_levelInput d x b).tier
@[simp] theorem State.levelInput_strm (s : State) (d x : Nat) (b : Bool) : (s.levelInput d x b).strm = s.strm := (s.eventFrame_levelInput d x b).strm
@[simp] theorem State.levelInput_ctxs (s : State) (d x : Nat) (b : Bool) : (s.levelInput d x b).ctxs = s.ctxs := (s.eventFrame_levelInput d x b).ctxs
@[simp] theorem State.levelInput_switchTo (s : State) (d x : Nat) (b : Bool) : (s.levelInput d x b).switchTo = s.switchTo := (s.eventFrame_levelInput d x b).switchTo
@[simp] theorem State.levelInput_switchAttempt (s : State) (d x : Nat) (b : Bool) : (s.levelInput d x b).switchAttempt = s.switchAttempt := (s.eventFrame_levelInput d x b).switchAttempt
@[simp] theorem State.levelInput_switchRefused (s : State) (d x : Nat) (b : Bool) : (s.levelInput d x b).switchRefused = s.switchRefused := (s.eventFrame_levelInput d x b).switchRefused
@[simp] theorem State.levelInput_must (s : State) (d x : Nat) (b : Bool) : (s.levelInput d x b).must = s.must := (s.eventFrame_levelInput d x b).must
@[simp] theorem State.levelInput_time (s : State) (d x : Nat) (b : Bool) : (s.levelInput d x b).time = s.time := (s.eventFrame_levelInput d x b).time
@[simp] theorem State.levelInput_pw (s : State) (d x : Nat) (b : Bool) : (s.levelInput d x b).pw = s.pw := (s.eventFrame_levelInput d x b).pw
@[simp] theorem State.levelInput_sec (s : State) (d x : Nat) (b : Bool) : (s.levelInput d x b).sec = s.sec := (s.eventFrame_levelInput d x b).sec
@[simp] theorem State.levelInput_mgmt (s : State) (d x : Nat) (b : Bool) : (s.levelInput d x b).mgmt = s.mgmt := (s.eventFrame_levelInput d x b).mgmt

/-! Fields that `deliver` leaves alone. -/

@[simp] theorem State.deliver_pending (s : State) (d x : Nat) : (s.deliver d x).pending = s.pending := (s.eventFrame_deliver d x).pending
@[simp] theorem State.deliver_now (s : State) (d x : Nat) : (s.deliver d x).now = s.now := (s.eventFrame_deliver d x).now
@[simp] theorem State.deliver_free (s : State) (d x : Nat) : (s.deliver d x).free = s.free := (s.eventFrame_deliver d x).free
@[simp] theorem State.deliver_fuse (s : State) (d x : Nat) : (s.deliver d x).fuse = s.fuse := (s.eventFrame_deliver d x).fuse
@[simp] theorem State.deliver_nv (s : State) (d x : Nat) : (s.deliver d x).nv = s.nv := (s.eventFrame_deliver d x).nv
@[simp] theorem State.deliver_cores (s : State) (d x : Nat) : (s.deliver d x).cores = s.cores := (s.eventFrame_deliver d x).cores
@[simp] theorem State.deliver_fab (s : State) (d x : Nat) : (s.deliver d x).fab = s.fab := (s.eventFrame_deliver d x).fab
@[simp] theorem State.deliver_net (s : State) (d x : Nat) : (s.deliver d x).net = s.net := (s.eventFrame_deliver d x).net
@[simp] theorem State.deliver_ports (s : State) (d x : Nat) : (s.deliver d x).ports = s.ports := (s.eventFrame_deliver d x).ports
@[simp] theorem State.deliver_tier (s : State) (d x : Nat) : (s.deliver d x).tier = s.tier := (s.eventFrame_deliver d x).tier
@[simp] theorem State.deliver_strm (s : State) (d x : Nat) : (s.deliver d x).strm = s.strm := (s.eventFrame_deliver d x).strm
@[simp] theorem State.deliver_ctxs (s : State) (d x : Nat) : (s.deliver d x).ctxs = s.ctxs := (s.eventFrame_deliver d x).ctxs
@[simp] theorem State.deliver_switchTo (s : State) (d x : Nat) : (s.deliver d x).switchTo = s.switchTo := (s.eventFrame_deliver d x).switchTo
@[simp] theorem State.deliver_switchAttempt (s : State) (d x : Nat) : (s.deliver d x).switchAttempt = s.switchAttempt := (s.eventFrame_deliver d x).switchAttempt
@[simp] theorem State.deliver_switchRefused (s : State) (d x : Nat) : (s.deliver d x).switchRefused = s.switchRefused := (s.eventFrame_deliver d x).switchRefused
@[simp] theorem State.deliver_must (s : State) (d x : Nat) : (s.deliver d x).must = s.must := (s.eventFrame_deliver d x).must
@[simp] theorem State.deliver_time (s : State) (d x : Nat) : (s.deliver d x).time = s.time := (s.eventFrame_deliver d x).time
@[simp] theorem State.deliver_pw (s : State) (d x : Nat) : (s.deliver d x).pw = s.pw := (s.eventFrame_deliver d x).pw
@[simp] theorem State.deliver_sec (s : State) (d x : Nat) : (s.deliver d x).sec = s.sec := (s.eventFrame_deliver d x).sec
@[simp] theorem State.deliver_mgmt (s : State) (d x : Nat) : (s.deliver d x).mgmt = s.mgmt := (s.eventFrame_deliver d x).mgmt

/-! Fields that `msix` leaves alone. -/

@[simp] theorem State.msix_pending (s : State) (p v : Nat) : (s.msix p v).pending = s.pending := (s.eventFrame_msix p v).pending
@[simp] theorem State.msix_now (s : State) (p v : Nat) : (s.msix p v).now = s.now := (s.eventFrame_msix p v).now
@[simp] theorem State.msix_free (s : State) (p v : Nat) : (s.msix p v).free = s.free := (s.eventFrame_msix p v).free
@[simp] theorem State.msix_fuse (s : State) (p v : Nat) : (s.msix p v).fuse = s.fuse := (s.eventFrame_msix p v).fuse
@[simp] theorem State.msix_nv (s : State) (p v : Nat) : (s.msix p v).nv = s.nv := (s.eventFrame_msix p v).nv
@[simp] theorem State.msix_cores (s : State) (p v : Nat) : (s.msix p v).cores = s.cores := (s.eventFrame_msix p v).cores
@[simp] theorem State.msix_fab (s : State) (p v : Nat) : (s.msix p v).fab = s.fab := (s.eventFrame_msix p v).fab
@[simp] theorem State.msix_net (s : State) (p v : Nat) : (s.msix p v).net = s.net := (s.eventFrame_msix p v).net
@[simp] theorem State.msix_ports (s : State) (p v : Nat) : (s.msix p v).ports = s.ports := (s.eventFrame_msix p v).ports
@[simp] theorem State.msix_tier (s : State) (p v : Nat) : (s.msix p v).tier = s.tier := (s.eventFrame_msix p v).tier
@[simp] theorem State.msix_strm (s : State) (p v : Nat) : (s.msix p v).strm = s.strm := (s.eventFrame_msix p v).strm
@[simp] theorem State.msix_ctxs (s : State) (p v : Nat) : (s.msix p v).ctxs = s.ctxs := (s.eventFrame_msix p v).ctxs
@[simp] theorem State.msix_switchTo (s : State) (p v : Nat) : (s.msix p v).switchTo = s.switchTo := (s.eventFrame_msix p v).switchTo
@[simp] theorem State.msix_switchAttempt (s : State) (p v : Nat) : (s.msix p v).switchAttempt = s.switchAttempt := (s.eventFrame_msix p v).switchAttempt
@[simp] theorem State.msix_switchRefused (s : State) (p v : Nat) : (s.msix p v).switchRefused = s.switchRefused := (s.eventFrame_msix p v).switchRefused
@[simp] theorem State.msix_must (s : State) (p v : Nat) : (s.msix p v).must = s.must := (s.eventFrame_msix p v).must
@[simp] theorem State.msix_time (s : State) (p v : Nat) : (s.msix p v).time = s.time := (s.eventFrame_msix p v).time
@[simp] theorem State.msix_pw (s : State) (p v : Nat) : (s.msix p v).pw = s.pw := (s.eventFrame_msix p v).pw
@[simp] theorem State.msix_sec (s : State) (p v : Nat) : (s.msix p v).sec = s.sec := (s.eventFrame_msix p v).sec
@[simp] theorem State.msix_mgmt (s : State) (p v : Nat) : (s.msix p v).mgmt = s.mgmt := (s.eventFrame_msix p v).mgmt

/-! Fields that `guardSummary` leaves alone. -/

@[simp] theorem State.guardSummary_pending (s : State) (d : Nat) : (s.guardSummary d).pending = s.pending := (s.eventFrame_guardSummary d).pending
@[simp] theorem State.guardSummary_now (s : State) (d : Nat) : (s.guardSummary d).now = s.now := (s.eventFrame_guardSummary d).now
@[simp] theorem State.guardSummary_free (s : State) (d : Nat) : (s.guardSummary d).free = s.free := (s.eventFrame_guardSummary d).free
@[simp] theorem State.guardSummary_fuse (s : State) (d : Nat) : (s.guardSummary d).fuse = s.fuse := (s.eventFrame_guardSummary d).fuse
@[simp] theorem State.guardSummary_nv (s : State) (d : Nat) : (s.guardSummary d).nv = s.nv := (s.eventFrame_guardSummary d).nv
@[simp] theorem State.guardSummary_cores (s : State) (d : Nat) : (s.guardSummary d).cores = s.cores := (s.eventFrame_guardSummary d).cores
@[simp] theorem State.guardSummary_fab (s : State) (d : Nat) : (s.guardSummary d).fab = s.fab := (s.eventFrame_guardSummary d).fab
@[simp] theorem State.guardSummary_net (s : State) (d : Nat) : (s.guardSummary d).net = s.net := (s.eventFrame_guardSummary d).net
@[simp] theorem State.guardSummary_ports (s : State) (d : Nat) : (s.guardSummary d).ports = s.ports := (s.eventFrame_guardSummary d).ports
@[simp] theorem State.guardSummary_tier (s : State) (d : Nat) : (s.guardSummary d).tier = s.tier := (s.eventFrame_guardSummary d).tier
@[simp] theorem State.guardSummary_strm (s : State) (d : Nat) : (s.guardSummary d).strm = s.strm := (s.eventFrame_guardSummary d).strm
@[simp] theorem State.guardSummary_ctxs (s : State) (d : Nat) : (s.guardSummary d).ctxs = s.ctxs := (s.eventFrame_guardSummary d).ctxs
@[simp] theorem State.guardSummary_switchTo (s : State) (d : Nat) : (s.guardSummary d).switchTo = s.switchTo := (s.eventFrame_guardSummary d).switchTo
@[simp] theorem State.guardSummary_switchAttempt (s : State) (d : Nat) : (s.guardSummary d).switchAttempt = s.switchAttempt := (s.eventFrame_guardSummary d).switchAttempt
@[simp] theorem State.guardSummary_switchRefused (s : State) (d : Nat) : (s.guardSummary d).switchRefused = s.switchRefused := (s.eventFrame_guardSummary d).switchRefused
@[simp] theorem State.guardSummary_must (s : State) (d : Nat) : (s.guardSummary d).must = s.must := (s.eventFrame_guardSummary d).must
@[simp] theorem State.guardSummary_time (s : State) (d : Nat) : (s.guardSummary d).time = s.time := (s.eventFrame_guardSummary d).time
@[simp] theorem State.guardSummary_pw (s : State) (d : Nat) : (s.guardSummary d).pw = s.pw := (s.eventFrame_guardSummary d).pw
@[simp] theorem State.guardSummary_sec (s : State) (d : Nat) : (s.guardSummary d).sec = s.sec := (s.eventFrame_guardSummary d).sec
@[simp] theorem State.guardSummary_mgmt (s : State) (d : Nat) : (s.guardSummary d).mgmt = s.mgmt := (s.eventFrame_guardSummary d).mgmt

/-- A slot's state changes in its slot alone; other contexts, ports, cores, time and muster stay. -/
theorem State.ctxState_frame (s : State) (k : Nat) (st : CtxSt) : (s.ctxState k st).ctx k = { s.ctx k with st := st }
    ∧ (s.ctxState k st).must = s.must ∧ (s.ctxState k st).time = s.time ∧ (s.ctxState k st).ports = s.ports
    ∧ (s.ctxState k st).cores = s.cores ∧ (s.ctxState k st).tier = s.tier ∧ (s.ctxState k st).pw = s.pw := by
  unfold State.ctxState; dsimp only
  by_cases h : (((s.ctx k).st == CtxSt.running || (s.ctx k).st == CtxSt.mustering) && st != CtxSt.running && st != CtxSt.mustering) = true
  · simp only [h, if_true]
    refine ⟨?_, ?_, ?_, ?_, ?_, ?_, ?_⟩ <;> simp [State.modCtx, State.setCtx, State.ctx, Tab.get_put_self]
  · simp only [h]
    refine ⟨?_, ?_, ?_, ?_, ?_, ?_, ?_⟩ <;> simp [State.modCtx, State.setCtx, State.ctx, Tab.get_put_self]

/-- Every command answers a next state. -/
theorem exec_runs (i : Instr) (s : State) : ∃ t, exec i s = .next t := by cases i <;> exact ⟨_, rfl⟩

end Sys2Proof.Machine
end

