-- ==== Sys2Proof/Laws/Issue.lean ====
section
/-! SUPPORT. What the issue of an operation does where it can issue in the present live cycle and nothing else is due. -/

namespace Sys2Proof.Machine

theorem State.canIssue_spec (s : State) (n : Nat) (i : Instr) (h : s.canIssue n i = true) :
    n < s.nCores ∧ (s.core n).run = .run ∧ (s.core n).ended = false ∧ (s.core n).cleared = true ∧ s.dueHas n i = true := by
  simp only [State.canIssue, Bool.and_eq_true, decide_eq_true_eq, Bool.not_eq_true', beq_iff_eq] at h
  obtain ⟨⟨⟨⟨h1, h2⟩, h3⟩, h4⟩, h5⟩ := h
  exact ⟨h1, h2, h3, h4, h5⟩

/-- A bundle that has passed its checks is not held: it issues whole. -/
theorem State.heldNow_cleared (s : State) (n : Nat) (h : (s.core n).cleared = true) : s.heldNow n = false := by
  simp [State.heldNow, Core.held, h]

theorem State.mustWait_false (s : State) (n : Nat) (i : Instr) (h : s.canIssue n i = true) : s.mustWait n i = false := by
  obtain ⟨-, -, -, h4, h5⟩ := s.canIssue_spec n i h
  simp [State.mustWait, s.heldNow_cleared n h4, h5]

/-- With nothing due, a landing changes nothing. -/
theorem State.land_idle (s : State) (n : Nat) (h : (s.core n).dueNow = []) : s.land n = s := by
  unfold State.land State.settle
  split
  · simp [h]
  · rfl

/-- A due bundle that has passed its checks is not checked again. -/
theorem State.clear_cleared (s : State) (n : Nat) (i : Instr) (h : s.canIssue n i = true) : s.clear n = s := by
  obtain ⟨-, -, -, h6, h7⟩ := s.canIssue_spec n i h
  unfold State.clear
  unfold State.dueHas at h7
  cases hq : (s.core n).queue with
  | nil => simp [hq] at h7
  | cons b t => simp [hq, h6]

theorem State.atIssue_ready (s : State) (n : Nat) (i : Instr) (h : s.canIssue n i = true) (hd : (s.core n).dueNow = []) :
    s.atIssue n i = s := by
  unfold State.atIssue
  simp only [State.mustWait_false s n i h, Bool.false_eq_true, if_false, State.land_idle s n hd, State.clear_cleared s n i h, ite_self]

/-- An operation that can issue issues: its bookkeeping, then its effect. -/
theorem State.issueOp_ready (s : State) (n : Nat) (i : Instr) (eff : State → State) (h : s.canIssue n i = true)
    (hd : (s.core n).dueNow = []) : s.issueOp n i eff = eff (s.take n i) := by
  unfold State.issueOp
  simp only [State.atIssue_ready s n i h hd, h, if_true]

/-- An operation's flight on its way: the core after it. -/
theorem State.launch_setCore (s : State) (n : Nat) (c : Core) (l : Nat) (a : Act) :
    (s.setCore n c).launch n l a = s.setCore n { c.fly (c.live + l) c.live a with
      lastBank := if a.banks.isEmpty then c.lastBank else max c.lastBank (c.live + l) } := by
  simp [State.launch, State.modCore]

end Sys2Proof.Machine
end

