-- ==== Sys2Proof/Laws/Operations.lean ====
section
/-! SUPPORT. What the operations of one core's commands can change: its own core, and what the memories keep. -/

namespace Sys2Proof.Machine

/-- Every core's memory is in canonical form. -/
def State.CoresWf (s : State) : Prop := ∀ e ∈ s.cores, Memory.wf e.2.sram = true

/-- `t` differs from `s` in core `n` at most among the cores, and not in the tier, the ports, the retained settings or time; the cores'
memories keep the canonical form. -/
def State.Own (n : Nat) (s t : State) : Prop :=
  (∀ m, m ≠ n → t.core m = s.core m) ∧ t.tier = s.tier ∧ t.ports = s.ports ∧ t.nv = s.nv ∧ t.time = s.time ∧ (s.CoresWf → t.CoresWf)

theorem State.Own.refl (n : Nat) (s : State) : State.Own n s s := ⟨fun _ _ => rfl, rfl, rfl, rfl, rfl, id⟩
theorem State.Own.trans {n : Nat} {s t u : State} (h : State.Own n s t) (k : State.Own n t u) : State.Own n s u :=
  ⟨fun m hm => (k.1 m hm).trans (h.1 m hm), k.2.1.trans h.2.1, k.2.2.1.trans h.2.2.1, k.2.2.2.1.trans h.2.2.2.1,
    k.2.2.2.2.1.trans h.2.2.2.2.1, fun w => k.2.2.2.2.2 (h.2.2.2.2.2 w)⟩
/-- A state with the same cores, tier, ports, retained settings and time. -/
theorem State.Own.ofEq {n : Nat} {s t u : State} (h : State.Own n s t) (hc : u.cores = t.cores) (h1 : u.tier = t.tier) (h2 : u.ports = t.ports)
    (h3 : u.nv = t.nv) (h4 : u.time = t.time) : State.Own n s u := by
  refine h.trans ⟨fun m _ => ?_, h1, h2, h3, h4, fun w => ?_⟩
  · unfold State.core; rw [hc]
  · unfold State.CoresWf; rw [hc]; exact w

theorem Tab.mem_put {α : Type} {k : Nat} {v : α} {t : List (Nat × α)} {e : Nat × α} (h : e ∈ Tab.put k v t) : e = (k, v) ∨ e ∈ t := by
  induction t with
  | nil => simpa [Tab.put] using h
  | cons x t ih =>
    unfold Tab.put at h
    split at h
    · simpa using h
    · split at h
      · simp only [List.mem_cons] at h ⊢
        exact h.imp_right .inr
      · simp only [List.mem_cons] at h ⊢
        rcases h with h | h
        · exact .inr (.inl h)
        · exact (ih h).imp_right .inr

theorem Tab.mem_get {α : Type} (d : α) (k : Nat) (t : List (Nat × α)) : Tab.get d t k = d ∨ ∃ e ∈ t, e.2 = Tab.get d t k := by
  induction t with
  | nil => exact .inl rfl
  | cons x t ih =>
    unfold Tab.get
    split
    · exact .inl rfl
    · split
      · exact .inr ⟨x, by simp, rfl⟩
      · rcases ih with h | ⟨e, he, h⟩
        · exact .inl h
        · exact .inr ⟨e, by simp [he], h⟩

theorem State.CoresWf.core {s : State} (h : s.CoresWf) (n : Nat) : Memory.wf (s.core n).sram = true := by
  unfold State.core
  rcases Tab.mem_get {} n s.cores with h1 | ⟨e, he, h1⟩
  · rw [h1]; rfl
  · rw [← h1]; exact h e he

/-- A core replaced by one whose memory is in canonical form if the core's was. -/
theorem State.Own.setCore {n : Nat} {s t : State} (h : State.Own n s t) (c : Core)
    (hc : Memory.wf (t.core n).sram = true → Memory.wf c.sram = true) : State.Own n s (t.setCore n c) := by
  refine h.trans ⟨fun m hm => by rw [State.core_setCore, if_neg hm], rfl, rfl, rfl, rfl, fun w e he => ?_⟩
  rcases Tab.mem_put he with h | h
  · subst h; exact hc (w.core n)
  · exact w e h
theorem State.Own.modCore {n : Nat} {s t : State} (h : State.Own n s t) (f : Core → Core)
    (hf : Memory.wf (t.core n).sram = true → Memory.wf (f (t.core n)).sram = true) : State.Own n s (t.modCore n f) := h.setCore _ hf

theorem State.Own.modCoreEq {n : Nat} {s t : State} (h : State.Own n s t) (f : Core → Core) (hf : ∀ c, (f c).sram = c.sram) :
    State.Own n s (t.modCore n f) := h.modCore f (by rw [hf]; exact id)

theorem State.Own.modDiag {n : Nat} {s t : State} (h : State.Own n s t) (f : Diag → Diag) : State.Own n s (t.modDiag f) :=
  h.ofEq rfl rfl rfl rfl rfl
theorem State.Own.modCtx {n : Nat} {s t : State} (h : State.Own n s t) (k : Nat) (f : Ctx → Ctx) : State.Own n s (t.modCtx k f) :=
  h.ofEq rfl rfl rfl rfl rfl
theorem State.Own.event {n : Nat} {s t u : State} (h : State.Own n s t) (k : State.EventFrame t u) : State.Own n s u :=
  h.ofEq k.cores k.tier k.ports k.nv k.time
theorem State.Own.coreEvent {n : Nat} {s t : State} (h : State.Own n s t) (k b : Nat) : State.Own n s (t.coreEvent k b) :=
  h.event (State.eventFrame_assertEvent _ _ _)
theorem State.Own.foldl {α : Type} {n : Nat} {s : State} (f : State → α → State) (hf : ∀ t x, State.Own n s t → State.Own n s (f t x))
    (l : List α) {t : State} (h : State.Own n s t) : State.Own n s (l.foldl f t) := by
  induction l generalizing t with
  | nil => exact h
  | cons x l ih => exact ih (hf t x h)

@[simp] theorem Core.failed_sram (c : Core) (r k : Nat) : (c.failed r k).sram = c.sram := by unfold Core.failed; split <;> rfl
@[simp] theorem Core.release_sram (c : Core) (r : Bool) (l k : Nat) : (c.release r l k).sram = c.sram := by unfold Core.release; split <;> rfl

theorem State.Own.fault {n : Nat} {s t : State} (h : State.Own n s t) (a sl cl code : Nat) : State.Own n s (t.fault n a sl cl code) := by
  unfold State.fault State.faultRecord
  split
  · exact State.Own.modCore (((h.setCore _ (by simp)).modDiag _).coreEvent _ _) _ (by exact id)
  · exact h
theorem State.Own.faultOutside {n : Nat} {s t : State} (h : State.Own n s t) (code : Nat) : State.Own n s (t.faultOutside n code) := by
  unfold State.faultOutside State.faultRecord
  split
  · exact State.Own.modCore (((h.setCore _ (by simp)).modDiag _).coreEvent _ _) _ (by exact id)
  · exact h
theorem State.Own.poisonAt {n : Nat} {s t : State} (h : State.Own n s t) (a k r : Nat) : State.Own n s (t.poisonAt n a k r) := by
  unfold State.poisonAt
  dsimp only
  have h1 : State.Own n s (if k < 4 then t.modDiag fun d => { d with sramPoison := satAdd 64 d.sramPoison 1 } else t) := by
    split
    · exact h.modDiag _
    · exact h
  have e : (if k < 4 then t.modDiag fun d => { d with sramPoison := satAdd 64 d.sramPoison 1 } else t).core n = t.core n := by split <;> rfl
  split
  · refine h1.setCore _ (fun w => ?_)
    rw [e] at w; split <;> simpa using w
  · refine State.Own.coreEvent (State.Own.modDiag (h1.setCore _ (fun w => ?_)) _) _ _
    rw [e] at w; dsimp only; split <;> simpa using w
theorem State.Own.correctedRead {n : Nat} {s t : State} (h : State.Own n s t) (l : Nat) (q : Bool) :
    State.Own n s (t.correctedRead n l q) := (h.modCore _ (by exact id)).modDiag _
theorem State.Own.opRead {n : Nat} {s t : State} (h : State.Own n s t) (l k : Nat) : State.Own n s (t.opRead n l k).2.2 := by
  unfold State.opRead
  dsimp only
  split
  · exact h.setCore _ (by exact id)
  · exact (h.setCore _ (by exact id)).correctedRead _ _
  · exact (h.setCore _ (by exact id)).poisonAt _ _ _
theorem State.Own.opReads {n : Nat} {s : State} (k : Nat) : ∀ {t : State} (l : Nat), State.Own n s t → State.Own n s (t.opReads n l k).2.2 := by
  induction k with
  | zero => intro t l h; exact h
  | succ k ih => intro t l h; exact ih (l + 1) (h.opRead l 0)
theorem State.Own.moveRead {n : Nat} {s t : State} (h : State.Own n s t) (l : Nat) : State.Own n s (t.moveRead n l).2.2 := by
  unfold State.moveRead
  split
  · exact h
  · exact h.opRead _ _
theorem State.Own.moveReads {n : Nat} {s : State} (k : Nat) : ∀ {t : State} (l : Nat), State.Own n s t → State.Own n s (t.moveReads n l k).2.2 := by
  induction k with
  | zero => intro t l h; exact h
  | succ k ih => intro t l h; exact ih (l + 1) (h.moveRead l)
theorem State.Own.opReadsEach {n : Nat} {s : State} (k : Nat) : ∀ {t : State} (l : Nat), State.Own n s t → State.Own n s (t.opReadsEach n l k).2 := by
  induction k with
  | zero => intro t l h; exact h
  | succ k ih => intro t l h; exact ih (l + 1) (h.opRead l 0)
theorem State.Own.injectAt {n : Nat} {s t : State} (h : State.Own n s t) (d : Nat) (p : Packet) : State.Own n s (t.injectAt d p) := by
  unfold State.injectAt State.putInjected
  split <;> exact h.ofEq rfl rfl rfl rfl rfl
theorem State.Own.fetchRead {n : Nat} {s t : State} (h : State.Own n s t) (l : Nat) : State.Own n s (t.fetchRead n l).2 := by
  unfold State.fetchRead
  dsimp only
  split
  · exact h.setCore _ (by exact id)
  · exact (h.setCore _ (by exact id)).correctedRead _ _
  · exact ((h.setCore _ (by exact id)).modCore _ (by exact id)).poisonAt _ _ _
theorem State.Own.satEvent {n : Nat} {s t : State} (h : State.Own n s t) (r c : Nat) : State.Own n s (t.satEvent n r c) := by
  unfold State.satEvent
  dsimp only
  split
  · exact h.modDiag _
  · exact (h.setCore _ (by exact id)).coreEvent _ _
theorem State.Own.updateRow {n : Nat} {s t : State} (h : State.Own n s t) (row : Nat) (f : Int → Nat → Col → Col) (cols : List Nat) :
    State.Own n s (t.updateRow n row f cols) := by
  unfold State.updateRow
  exact State.Own.foldl _ (fun _ _ k => k.satEvent _ _) _ (h.modCore _ (by exact id))
theorem State.Own.modKv {n : Nat} {s t : State} (h : State.Own n s t) (k v : Nat) (f : KvDesc → KvDesc) : State.Own n s (t.modKv k v f) := by
  unfold State.modKv
  split
  · exact h.modCtx _ _
  · exact h
theorem Core.sram_writeLine (c : Core) (l : Nat) (d : Line) : (c.writeLine l d).sram = Mem.writeN c.sram (64 * l) (bvBytes 64 d) := by
  simp only [Core.writeLine]
theorem Core.wf_writeLine (c : Core) (l : Nat) (d : Line) (h : Memory.wf c.sram = true) : Memory.wf (c.writeLine l d).sram = true := by
  rw [Core.sram_writeLine]
  generalize bvBytes 64 d = b
  generalize 64 * l = a
  exact Memory.wf_writeN b a c.sram h
theorem Core.wf_writeLines (v : Block) (l : Nat) (ks : List Nat) (c : Core) (h : Memory.wf c.sram = true) : Memory.wf (ks.foldl
    (fun (c : Core) k => { c.writeLine (l + k) (lineOf v k) with banks := bankOf (l + k) :: c.banks }) c).sram = true := by
  induction ks generalizing c with
  | nil => exact h
  | cons k ks ih =>
    rw [List.foldl_cons]
    apply ih
    dsimp only
    exact Core.wf_writeLine c _ _ h

/-- What an event of an operation in flight does stays in its core. -/
theorem State.Own.happen {n : Nat} {s t : State} (h : State.Own n s t) (f : Flight) : State.Own n s (t.happen n f) := by
  unfold State.happen
  split
  case h_7 l v _ => exact h.modCore _ (by exact Core.wf_writeLines v l _ _)
  case h_5 => exact (h.moveRead _).modCore _ (by simp [Core.fly, Core.countAhead])
  case h_6 => exact (h.moveReads _ _).modCore _ (by simp [Core.fly, Core.countAhead])
  case h_8 => exact (h.moveReads _ _).modCore _ (by simp [Core.countAhead])
  case h_10 => exact (h.opRead _ _).modCore _ (by simp [Core.fly])
  case h_11 => exact h.updateRow _ _ _
  case h_12 => exact (h.opReadsEach _ _).modCore _ (by simp)
  case h_13 => exact (h.opReads _ _).modCore _ (by simp [Core.fly])
  case h_14 =>
    dsimp only
    split
    · exact (h.updateRow _ _ _).poisonAt _ _ _
    · exact h.updateRow _ _ _
  case h_16 => exact h.modKv _ _ _
  case h_17 => exact h.modKv _ _ _
  case h_18 => exact h.modKv _ _ _
  case h_20 => split <;> first | exact h | exact h.injectAt _ _
  case h_21 => exact (h.fetchRead _).modCore _ (by exact id)
  all_goals exact h.modCore _ (by simp [Core.setFlags, Core.clearFlags, Core.enqueue])

/-! Issue. -/

/-- A landing stays in its core. -/
theorem State.Own.settle {n : Nat} {s t : State} (h : State.Own n s t) : State.Own n s (t.settle n) := by
  unfold State.settle
  dsimp only
  split
  · exact h
  · have h1 := fun l => State.Own.foldl (n := n) (s := s) (fun (u : State) f => u.happen n f) (fun _ _ k => k.happen _) l
      (h.setCore { t.core n with flights := (t.core n).flights.filter (fun f => !decide (f.due ≤ (t.core n).live))
                                 resv := (t.core n).resv.filter fun r => decide ((t.core n).live < r.due) } (by exact id))
    split
    · exact h1 _
    · exact (h1 _).faultOutside _
theorem State.Own.land {n : Nat} {s t : State} (h : State.Own n s t) : State.Own n s (t.land n) := by
  unfold State.land
  split
  · exact h.settle
  · exact h
theorem State.Own.dropAhead {n : Nat} {s t : State} (h : State.Own n s t) : State.Own n s (t.dropAhead n) :=
  (h.modCore (fun c => { c with staging := [] }) (by exact id)).ofEq rfl rfl rfl rfl rfl
theorem State.Own.beginHold {n : Nat} {s t : State} (h : State.Own n s t) (c o : Nat) : State.Own n s (t.beginHold n c o) := by
  unfold State.beginHold
  dsimp only
  split
  · exact h
  · split
    · exact State.Own.dropAhead (h.setCore _ (by exact id))
    · exact h.setCore _ (by exact id)
theorem State.Own.endHold {n : Nat} {s t : State} (h : State.Own n s t) (c o : Nat) : State.Own n s (t.endHold n c o) :=
  h.modCore _ (by exact id)
theorem State.Own.endOrigin {n : Nat} {s t : State} (h : State.Own n s t) (o : Nat) : State.Own n s (t.endOrigin n o) :=
  h.modCore _ (by exact id)
/-- The checks of a due bundle stay in its core. -/
theorem State.Own.clear {n : Nat} {s t : State} (h : State.Own n s t) : State.Own n s (t.clear n) := by
  unfold State.clear
  dsimp only
  split
  · exact h.beginHold _ _
  · split
    · exact h
    · split
      · exact h.fault _ _ _ _
      · exact h.setCore _ (by exact id)
      · exact State.Own.foldl _ (fun _ _ k => k.beginHold _ _) _ h
theorem State.Own.take {n : Nat} {s t : State} (h : State.Own n s t) (i : Instr) : State.Own n s (t.take n i) :=
  h.modCore _ (by exact id)
theorem State.Own.launch {n : Nat} {s t : State} (h : State.Own n s t) (l : Nat) (a : Act) : State.Own n s (t.launch n l a) :=
  h.modCore _ (by exact id)

/-- What reaching issue does where the core need not wait stays in the core. -/
theorem State.Own.atIssue {n : Nat} {s : State} (i : Instr) (hw : s.mustWait n i = false) : State.Own n s (s.atIssue n i) := by
  unfold State.atIssue
  simp only [hw, Bool.false_eq_true, if_false]
  split
  · exact ((State.Own.refl n s).land).clear
  · exact (State.Own.refl n s).land
/-- The issue of an operation whose effect stays in its core, where the core need not wait. -/
theorem State.Own.issueOp {n : Nat} {s : State} (i : Instr) (eff : State → State) (he : ∀ t, State.Own n s t → State.Own n s (eff t))
    (hw : s.mustWait n i = false) : State.Own n s (s.issueOp n i eff) := by
  unfold State.issueOp
  dsimp only
  split
  · exact he _ ((State.Own.atIssue i hw).take i)
  · split
    · exact State.Own.atIssue i hw
    · exact State.Own.refl n s

/-! Effects of operations. -/

theorem State.Own.launchBase {n : Nat} {s t : State} (h : State.Own n s t) (ea : BitVec 22) : State.Own n s (t.launchBase n ea) := by
  unfold State.launchBase
  split
  · exact h.launch _ _
  · exact h
theorem State.Own.launchTile {n : Nat} {s t : State} (h : State.Own n s t) (w l k : Nat) (r : Bool) :
    State.Own n s (t.launchTile n w l k r) := State.Own.foldl _ (fun _ _ k => k.launch _ _) _ h
theorem State.Own.sendFlits {n : Nat} {s t : State} (h : State.Own n s t) (f l : Nat) (ps : List Block) :
    State.Own n s (t.sendFlits n f l ps) := State.Own.foldl _ (fun _ _ k => k.launch _ _) _ (h.modCore _ (by exact id))
theorem State.Own.branchAt {n : Nat} {s t : State} (h : State.Own n s t) (o : BitVec 19) (b : Bool) : State.Own n s (t.branchAt n o b) :=
  State.Own.launch (State.Own.launch (h.modCore _ (by exact id)) _ _) _ _
theorem State.Own.strayRequest {n : Nat} {s t : State} (h : State.Own n s t) (d : BitVec 64) (sp : Option Nat) (x : Bool) (p : Packet) :
    State.Own n s (t.strayRequest n d sp x p) := by
  unfold State.strayRequest
  dsimp only
  refine State.Own.launch (State.Own.modCoreEq (h.modCoreEq _ ?_) _ ?_) _ _
  · exact fun _ => rfl
  · intro c; (repeat' split) <;> rfl
theorem State.Own.hurdleAt {n : Nat} {s t : State} (h : State.Own n s t) (k : Nat) (f : Bool) (hk : bit k 4 = false) :
    State.Own n s (t.hurdleAt n k f) := by
  unfold State.hurdleAt
  dsimp only
  simp only [hk, Bool.false_eq_true, if_false]
  exact h.modCore _ (by exact id)

end Sys2Proof.Machine
end

