-- ==== Sys2Proof/Safety.lean ====
section
/-! DEFINITION. What a safe step is: it ends in a next state. -/

namespace Sys2Proof

/-- The outcome is a next state: neither a fault nor a refusal. -/
def Runs (o : Host.Outcome Machine.State Machine.Fault Machine.Refusal) : Prop := ∃ t, o = .next t

end Sys2Proof
end

