-- ==== Sys2Proof/Tests/Slice0.lean ====
section
/-! SUPPORT. The author's own tests: ill-formed commands, words and values of the spec's worked examples, and for every statement with
hypotheses a state and operands that meet them. -/

namespace Sys2Proof.Tests

set_option Elab.async false

open Sys2Proof Sys2Proof.Machine Sys2Proof.Spec

/-! Small states. -/

/-- A bundle whose slots are NOP but for one operation. -/
def bundleOf (i : Instr) : BitVec 256 :=
  encodeBundle false ((encodeC i).getD 0) ((encodeM i).getD 0) ((encodeX i).getD 0) ((encodeV i).getD 0) ((encodeL i).getD 0)

/-- Core 0 runs with the operation's bundle due and its checks passed. -/
def ready (i : Instr) : State :=
  { State.reset with cores := [(0, { run := .run, cleared := true, queue := [(64, bundleOf i)] })] }

/-- Every operation issues from `ready`. -/
abbrev allIssue (l : List Instr) : Prop := ∀ i ∈ l, Issues (ready i) 0 i

/-! Ill-formed commands, one for each check of `Instr.wf`. -/

theorem test_wf_core : (Instr.nop 2048 0).wf = false := by decide
theorem test_wf_port : (Instr.portSignalDetect 32).wf = false := by decide
theorem test_wf_slot : (Instr.load 4).wf = false := by decide
theorem test_wf_cxl : (Instr.hdmCommit 2).wf = false := by decide
theorem test_wf_die : (Instr.pendWrite 2 0 0).wf = false := by decide
theorem test_wf_bank : (Instr.pendWrite 0 16 0).wf = false := by decide
theorem test_wf_source : (Instr.eventAssert 0 1024).wf = false := by decide
theorem test_wf_cause : (Instr.holdRequest 0 10).wf = false := by decide
theorem test_wf_sramBank : (Instr.inboundLineWrite 0 8).wf = false := by decide
theorem test_wf_line : (Instr.runaheadRead 0 98304).wf = false := by decide
theorem test_wf_channel : (Instr.tierRefresh 64 0 0).wf = false ∧ (Instr.tierEccBlockEvict 64).wf = false := by decide
theorem test_wf_ring : (Instr.ringEnable 0 16).wf = false := by decide
theorem test_wf_lane : (Instr.laneDropThreshold 0 4).wf = false := by decide
theorem test_wf_throttle : (Instr.throttleFrameStart 4).wf = false := by decide
theorem test_wf_operands : (Instr.hurdle 0 0).wf = false ∧ (Instr.vfma 0 0 0 0 0 2).wf = false ∧ (Instr.mxload 0 false 2 0 0).wf = false := by decide
theorem test_wf_good : (Instr.add 2047 31 31 31).wf = true ∧ (Instr.hurdle 0 1).wf = true ∧ (Instr.load 3).wf = true := by decide

/-! Witnesses: bundle operations. -/

theorem witness_ScalarOps_registers : allIssue [.add 0 1 2 3, .sub 0 1 2 3, .and 0 1 2 3, .or 0 1 2 3, .xor 0 1 2 3, .shl 0 1 2 3, .shr 0 1 2 3
    , .sar 0 1 2 3, .cmpeq 0 1 2 3, .cmplt 0 1 2 3, .cmpltu 0 1 2 3, .mul 0 31 31 31, .mov 0 0 31] := by decide +kernel
theorem witness_ScalarOps_immediates : allIssue [.addi 0 1 2 (-1), .subi 0 1 2 3, .andi 0 1 2 3, .ori 0 1 2 3, .xori 0 1 2 3, .shli 0 1 2 64
    , .shri 0 1 2 3, .sari 0 1 2 3, .cmpeqi 0 1 2 3, .cmplti 0 1 2 3, .cmpltui 0 1 2 3, .muli 0 1 2 3, .li 0 31 (-1), .lih 0 1 2 3] := by
  decide +kernel
theorem witness_RdtallyReadsTheTally : allIssue [.rdtally 0 31] := by decide +kernel
theorem witness_NopAndFlagOps : allIssue [.nop 0 0, .nop 0 1, .nop 0 2, .nop 0 3, .nop 0 4, .flgrd 0 1, .flgclr 0] := by decide +kernel
theorem witness_Branches : allIssue [.br 0 (-1), .beqz 0 1 2, .bnez 0 1 2, .bltz 0 1 2, .bgez 0 1 2, .bdec 0 31 2] := by decide +kernel
theorem witness_LoadsIssue : allIssue [.lds 0 true 1 0x200041, .ldv 0 false 1 0, .recv 0 31 true 5] := by decide +kernel
theorem witness_StoresAndStreamsIssue : allIssue [.stv 0 1 0x200040, .kvcommit 0 1 15, .kvdrop 0 15]
    ∧ Issues { ready (.kvapp 0 1 3) with ctxs := [(2, { st := .running })] } 0 (.kvapp 0 1 3)
    ∧ ({ ready (.kvapp 0 1 3) with ctxs := [(2, { st := .running })] } : State).runSlot = some 2 := by decide +kernel
theorem witness_MxloadIssues : allIssue [.mxload 0 true 1 1 0x40] := by decide +kernel
theorem witness_MxstreamIssues : allIssue [.mxstream 0 1 1 true 0 127 0, .mxstream 0 0 8 false 127 0 3] := by decide +kernel
theorem witness_AccoutAndAccclrIssue : allIssue [.accout 0 120 7 0 28, .accclr 0 0 127 true 0 31, .accclr 0 127 0 false (-1) 0] := by
  decide +kernel
theorem witness_VectorArithmeticIssues : allIssue [.vfma 0 1 2 3 4 0, .vadd 0 1 2 3 1, .vsub 0 1 2 3 0, .vmul 0 1 2 3 1, .vmax 0 1 2 3 0
    , .vmin 0 1 2 3 1] := by decide +kernel
theorem witness_VectorLogicIssues : allIssue [.vcmp 0 1 2 3 1 4, .vsel 0 1 2 3 4, .vand 0 1 2 3, .vor 0 1 2 3, .vxor 0 1 2 3, .viadd 0 1 2 3 0
    , .visub 0 1 2 3 1, .vimul 0 1 2 3 0, .vshl 0 1 2 3 1, .vshr 0 1 2 3 0, .vsar 0 1 2 3 1] := by decide +kernel
theorem witness_VectorReduceConvertIssue : allIssue [.vred 0 1 2 1 2, .vtr 0 1 2 0 7, .rngfill 0 1 3 65535, .vcvt 0 1 2 3 0 4 true
    , .vcvt 0 1 2 0 9 2 false] := by decide +kernel
theorem witness_VbcastCopiesTheLowBits : allIssue [.vbcast 0 1 2 0, .vbcast 0 1 2 1, .vbcast 0 1 2 2] := by decide +kernel
theorem witness_VmaxVminByLane_issues : allIssue [.vmax 0 1 2 3 1, .vmin 0 1 2 3 0] := by decide +kernel
theorem witness_VmaxVminByLane : Val.fin false 1 0 ≠ .nan ∧ Val.fin true 1 0 ≠ .nan ∧ cmpVal (.fin false 1 0) (.fin true 1 0) = .gt
    ∧ cmpVal (.fin true 1 0) (.fin false 1 0) = .lt := by decide +kernel
theorem witness_GemvAndLswaddIssue : allIssue [.gemv 0 4 4 0 127 1 63 true 0, .gemv 0 8 8 31 0 0 7 false 9, .lswadd 0 31 127 3] := by
  decide +kernel
theorem witness_SendsIssue : allIssue [.send 0 31 1023, .lswsend 0 127 0] := by decide +kernel
theorem witness_StraysIssue : allIssue [.strayw 0 28 5 3 true 1, .strayw 0 31 5 0 false 0, .straya 0 1 2 1 false 3, .straya 0 1 2 4 true 3] := by
  decide +kernel
theorem witness_HurdleAndFoldIssue : allIssue [.hurdle 0 1, .hurdle 0 31, .fold 0 1023] := by decide +kernel

/-! A small memory image, by offset and value: descriptors at 64, module 0 at 160, slot tables at 224, a streamer entry at 448, folds at
464, wiring at 512. Core 0 sends two flits of flow 5 east and core 1 takes the first; port 1 feeds port 0; descriptor 1 names fold 0, of
parent port 0 and child port 1, and descriptor 2 fold 1, of which the module is the root. -/

def image : Bytes := leBytes 800 (([(8, 7), (10, 1), (12, 3), (16, 64), (24, 512), (32, 160)
    , (64, 2), (72, 1), (78, 0xFFFF), (84, 1), (96, 2), (104, 2), (128, 2), (136, lastDesc), (142, 1)
    , (160, 1), (172, 2), (192, 224), (200, 448), (208, 464), (216, 1), (224, 1), (232, 240), (240, 4), (248, 256)
    , (256, 0), (260, 2), (264, 384), (272, 12), (276, 1), (280, 400), (288, 0x4001), (292, 2), (296, 408), (304, 4), (308, 1), (312, 424)
    , (384, 4 * 2 ^ 57 + 5 * 2 ^ 47), (392, 4 * 2 ^ 57 + 5 * 2 ^ 47 + 2 ^ 31 + 3), (400, 2 ^ 57 + 5 * 2 ^ 47 + 256)
    , (408, 0x60 * 2 ^ 57), (416, 0x20 * 2 ^ 57), (424, 6 * 2 ^ 47 + 512)
    , (456, 512), (462, 2), (476, 2), (488, 0x3F * 2 ^ 26), (544, 2 ^ 62 + 2 ^ 24), (552, 2 ^ 62)
    ] : List (Nat × Nat)).foldl (fun a x => a + x.2 * 2 ^ (8 * x.1)) 0)

/-- Slot 0 runs the image, with a tier region of 1 GiB from 0. -/
def running : State := { State.reset with ctxs := [(0, { st := .running, image, tierRegion := some (1, 0) })] }
/-- The program of `running`: its image, module number and slot. -/
theorem test_image_runs : running.prog = some (image, 0, 0) := by decide +kernel
/-- The same with cores. -/
def withCores (l : List (Nat × Core)) : State := { running with cores := l }
/-- The same with core 0 as given. -/
def with0 (c : Core) : State := withCores [(0, c)]

/-! A module of whose cores one has tally 0 works at tally 0: no table of two thousand cores need be evaluated. -/

theorem isAfter_small (a b : Nat) (ha : a < 2 ^ 47) (hb : b < 2 ^ 47) : isAfter 48 a b = decide (b < a) := by
  have h : b % 2 ^ 48 = b := Nat.mod_eq_of_lt (by omega)
  simp only [isAfter, wrapDiff, signed, h, decide_eq_decide]
  split <;> omega

theorem lowest_fold (l : List Nat) : ∀ t, t < 2 ^ 47 → (∀ x ∈ l, x < 2 ^ 47) → t = 0 ∨ 0 ∈ l →
    l.foldl (fun a b => if isAfter 48 a b then b else a) t = 0 := by
  induction l with
  | nil => intro t _ _ h; simpa using h
  | cons x l ih =>
    intro t ht hl h
    have hx : x < 2 ^ 47 := hl x List.mem_cons_self
    have hr : ∀ y ∈ l, y < 2 ^ 47 := fun y hy => hl y (List.mem_cons_of_mem _ hy)
    simp only [List.foldl_cons, isAfter_small t x ht hx, decide_eq_true_eq]
    rcases h with h | h
    · subst h; simpa using ih 0 (by decide) hr (.inl rfl)
    · rcases List.mem_cons.mp h with h | h
      · subst h; split
        · exact ih 0 (by decide) hr (.inl rfl)
        · exact ih t ht hr (.inl (by omega))
      · split
        · exact ih x hx hr (.inr h)
        · exact ih t ht hr (.inr h)

theorem lowest_zero (l : List Nat) (hl : ∀ x ∈ l, x < 2 ^ 47) (h : 0 ∈ l) : lowestTally l = some 0 := by
  cases l with
  | nil => simp at h
  | cons x l =>
    simp only [lowestTally, Option.some.injEq]
    refine lowest_fold l x (hl x List.mem_cons_self) (fun y hy => hl y (List.mem_cons_of_mem _ hy)) ?_
    rcases List.mem_cons.mp h with h | h
    · exact .inl h.symm
    · exact .inr h

/-- Every listed core has a tally far from the end of its 48 bits. -/
def lowTallies (l : List (Nat × Core)) : Bool := l.all fun e => decide (e.2.tally < 2 ^ 47)

theorem tally_low (l : List (Nat × Core)) (h : lowTallies l = true) (k : Nat) : (Tab.get {} l k).tally < 2 ^ 47 := by
  induction l with
  | nil => simp [Tab.get]
  | cons e l ih =>
    simp only [lowTallies, List.all_cons, Bool.and_eq_true, decide_eq_true_eq] at h
    simp only [Tab.get]
    split
    · decide
    · split
      · exact h.1
      · exact ih h.2

theorem moduleTally_zero (s : State) (hl : lowTallies s.cores = true) (n : Nat) (hn : n < s.nCores) (ht : (s.core n).tally = 0) :
    s.moduleTally = 0 := by
  unfold State.moduleTally
  cases s.runSlot with
  | none => rfl
  | some k =>
    have h : 0 ∈ (List.range s.nCores).map fun n => (s.core n).tally := List.mem_map.mpr ⟨n, List.mem_range.mpr hn, ht⟩
    refine (congrArg (Option.getD · 0) (lowest_zero _ (fun x hx => ?_) h)).trans rfl
    obtain ⟨k, -, rfl⟩ := List.mem_map.mp hx
    exact tally_low _ hl k

theorem lowDesc_zero (s : State) (hl : lowTallies s.cores = true) (n : Nat) (hn : n < s.nCores) (ht : (s.core n).tally = 0) : s.lowDesc =
    match s.activeCores.find? fun n => (s.core n).tally == 0 with | some n => (s.core n).desc | none => 0 := by
  rw [State.lowDesc, moduleTally_zero s hl n hn ht] <;> rfl

theorem foldNow_zero (s : State) (hl : lowTallies s.cores = true) (n : Nat) (hn : n < s.nCores) (ht : (s.core n).tally = 0) :
    s.foldNow = match s.prog with
    | some (b, _, _) => Img.foldAhead b (match s.fab.fold.last with | some m => laterTally m.tally 1 | none => 0) (Img.ndesc b + 1)
        (match s.activeCores.find? fun n => (s.core n).tally == 0 with | some n => (s.core n).desc | none => 0) 0
    | none => none := by
  rw [State.foldNow, moduleTally_zero s hl n hn ht, lowDesc_zero s hl n hn ht] <;> rfl

theorem allArrived_keeper (s : State) (f : Nat) (h : s.pw.keeper = true) : s.allArrived f = (s.foldPlace f).2.all fun p =>
    s.fab.fold.children.any (·.1 == p) || s.fab.fold.own.any fun x => x.fsite == 0x8000 + p := by
  simp [State.allArrived, h]

theorem allArrived_without (s : State) (f n : Nat) (hn : n < s.nCores) (hk : s.pw.keeper = false)
    (h : s.fab.fold.cores.any (·.1 == n) = false) : s.allArrived f = false := by
  simp only [State.allArrived, hk, Bool.false_or, Bool.and_eq_false_iff]
  exact .inl (List.all_eq_false.mpr ⟨n, List.mem_range.mpr hn, by simp [h]⟩)

/-! Witnesses: events of cores, SRAM and tier. -/


theorem witness_ResultsAndTilesLand_1 :
    (∀ a ∈ [Act.sreg 31 5, .vreg 0 7 64, .flags 3, .flagClear],
      let s := with0 { run := .run, queue := [(0, 0)], live := 4, flights := [{ due := 4, issue := 1, act := a }] }
      s.advances 0 = true ∧ (s.core 0).dueNow = [{ due := 4, issue := 1, act := a }]) := by decide +kernel
theorem witness_ResultsAndTilesLand_2 :
     (({ with0 { run := .run, holds := [(4, 0, 0)] } with now := 1 } : State).advances 0 = false) := by decide +kernel
theorem witness_ResultsAndTilesLand_3 :
      (let f : Flight := { due := 32, issue := 0, act := .tileReady 1 4 }
       let s := with0 { run := .run, queue := [(0, 0)], live := 32, flights := [f] }
       s.advances 0 = true ∧ (s.core 0).waitsFor 1 = false ∧ ((s.core 0).flights.filter fun g => g.fills 1 (s.core 0).live) = [f]) := by decide +kernel


theorem witness_HoldEvents_1 :
    (let s := with0 { run := .run }
     (s.core 0).run = .run ∧ ((s.core 0).holds.any fun h => h.1 == 4 && h.2.2 == 0) = false ∧ 4 ∈ [4, 5, 6, 7, 8]) := by decide +kernel
theorem witness_HoldEvents_2 :
      (∀ c ∈ [({ run := .run, hostWaiting := [(2050, 7)] } : Core), { run := .run, loads := [(2, 9, 5)] }], let s := with0 c
       (s.core 0).run = .run ∧ ((s.core 0).hostWaiting ++ (s.core 0).loads.map loadKey).head?.isSome = true
       ∧ ((s.core 0).holds.any fun h => h.1 == 7 && h.2.2 == 4) = false) := by decide +kernel
theorem witness_HoldEvents_3 :
      (let s := with0 { run := .run, holds := [(4, 9, 0)], queue := [(0, 0)] }
       (s.core 0).holds = [(4, 9, 0)] ∧ (s.core 0).queue ≠ [] ∧ (s.core 0).inbound.length < 24 ∧ (s.core 0).ejectQ.length < 6) := by decide +kernel
theorem witness_HoldEvents_4 :
      (let s := with0 { run := .run, overrun := 2 ^ 40 }
       s.nv.bankOvr < (s.core 0).overrun ∧ (s.core 0).overrunStep = false) := by decide +kernel


theorem witness_StepEvents_1 :
    (let s := with0 { run := .run, ended := true, arrived := [(1024 * 0 + 6, 1)] }
     s.closed 0 = true ∧ s.failedAt 0 = false ∧ s.foldNamed 0 = none ∧ s.fab.fold.handTo = none ∧ s.gated 0 = false ∧ s.nextDesc 0 ≠ lastDesc
       ∧ s.runCtx = some (0, s.ctx 0) ∧ (s.ctx 0).killed = false) := by decide +kernel
theorem witness_StepEvents_2 :
      (let s := with0 { run := .run, ended := true, tally := 1, desc := 1, arrived := [(1024 * 1 + 6, 1)], reports := [(65536 * 5 + 1, 9)] }
       s.closed 0 = true ∧ s.failedAt 0 = false ∧ (s.foldNamed 0).isSome = true ∧ (s.core 0).foldDone = false ∧ (s.core 0).run = .run
       ∧ ((s.core 0).holds.any fun h => h.1 == 8 && h.2.2 == 6) = false) := by decide +kernel
theorem witness_StepEvents_3 :
      (let s := with0 { run := .run }
       s.closed 0 = false ∧ s.failedAt 0 = false) := by decide +kernel
theorem witness_StepEvents_4 :
      (let s := { with0 { run := .run, tally := 2 } with fab := { reports := [(1, 2)] } }
       s.prog = some (image, 0, 0) ∧ stepsAhead (laterTally 0 2) (s.core 0).tally = some 0 ∧ Img.ahead image (s.core 0).desc 0 = some 0
       ∧ (flowReceivers s.width (s.tabs 0) 0 5).contains 1 = true ∧ 1 < 0x8000 ∧ begunBy (Tab.get 0 s.fab.reports 1) 0 = true) := by decide +kernel


/-- A region of slot 0 over lines 0 to 1023, of a kind. -/
def region (kind : Nat) : Region := { valid := true, kind, cr := true, cw := true, limit := 1023 }
theorem witness_BankCycleEvents_1 :
    (let s := with0 { run := .run }
     s.mayFetch 0 = true ∧ (s.core 0).lineEcc ((s.core 0).fetchAt / 64) = .clean) := by decide +kernel
theorem witness_BankCycleEvents_2 :
      (let q := [(0, bundleOf (.lds 0 false 1 0x20))]
       (let s := with0 { run := .run, queue := q, regions := [(0, region 1)] }
        s.mayRunAhead 0 4 = true ∧ (s.core 0).lineEcc 4 = .clean)
       ∧ (let s := with0 { run := .run, queue := q, regions := [(0, region 1)], ecc := [(4, [(5, 1)])] }
          s.mayRunAhead 0 4 = true ∧ (s.core 0).lineEcc 4 ≠ .clean)) := by decide +kernel
theorem witness_BankCycleEvents_3 :
      (let x : Inbound := { line := 256, data := 5 }
       let s := with0 { run := .run, queue := [(0, 0)], inbound := [x], regions := [(0, region 2)], fetchAt := 64 }
       (s.core 0).inbound = [x] ∧ bankOf x.line = 0 ∧ s.bankFree 0 0 = true ∧ (s.mayFetch 0 && bankOf ((s.core 0).fetchAt / 64) == 0) = false
       ∧ (s.core 0).hurdles = [] ∧ s.pw.keeper = false ∧ (s.core 0).isKind (s.runSlot.getD 0) x.line (if x.landing then 3 else 2) = true
       ∧ (s.core 0).fill.contains x.line = false ∧ x.null = false ∧ x.poison = false ∧ (s.core 0).holds = [] ∧ (s.core 0).queue ≠ []
       ∧ (s.core 0).ejectQ.length < 6) := by decide +kernel
theorem witness_BankCycleEvents_4 :
      (let s := with0 { run := .run, writeback := [9], fetchAt := 128 }
       (s.core 0).writeback = [9] ∧ s.pw.keeper = false ∧ s.bankFree 0 (bankOf 9) = true ∧ (s.core 0).bankQueued (bankOf 9) = false
       ∧ (s.mayFetch 0 && bankOf ((s.core 0).fetchAt / 64) == bankOf 9) = false) := by decide +kernel
theorem witness_BankCycleEvents_5 :
      (∀ e ∈ [([] : List (Nat × List (Nat × Byte))), [(98303, [(5, 1)])]],
       let s : State := { with0 { run := .idle, scrubLine := 98303, ecc := e } with pw := { sramScrub := 2 } }
       s.pw.sramScrub = 2 ∧ 0 < s.nCores ∧ s.bankFree 0 (bankOf (s.core 0).scrubLine) = true ∧ s.bankWanted 0 (bankOf (s.core 0).scrubLine) = false
         ∧ (((s.core 0).aheadWants 0).any fun k => bankOf k == bankOf (s.core 0).scrubLine && s.mayRunAhead 0 k) = false) := by decide +kernel
theorem witness_BankCycleEvents_6 :
     (((with0 { run := .idle, scrubLine := 98303 }).core 0).lineEcc 98303 = .clean) := by decide +kernel
theorem witness_BankCycleEvents_7 :
     (((with0 { run := .idle, ecc := [(98303, [(5, 1)])] }).core 0).lineEcc 98303 = .correctable 5 1) := by decide +kernel


/-- Core 0 runs over a usable tier. -/
def streaming (size : Nat) : State :=
  { with0 { run := .run } with tier := { usable := true }, ctxs := [(0, { st := .running, image, tierRegion := some (size, 0) })] }
theorem streaming_low (size : Nat) : (streaming size).lowDesc = 0 := by
  rw [lowDesc_zero _ rfl 0 (by rw [State.nCores]; split <;> decide) (by rfl)]; rfl
theorem witness_StreamerEvents_open (size : Nat) : (streaming size).entryOpen image 0 = true := by
  unfold State.entryOpen; rw [streaming_low]; decide +kernel
theorem witness_StreamerEvents_1 : (let s := streaming 1
     let e := Img.strEntry image 0 0
     s.prog = some (image, 0, 0) ∧ 0 < Img.nstrm image 0 ∧ 1 < e.count ∧ (s.core e.core).holds = []
       ∧ s.throttled e.core = false ∧ (s.core e.core).hurdles = [] ∧ s.requested e.core (e.line + 1) = false ∧ (s.ctx 0).tierRange = some (0, 2 ^ 30) ∧ e.toff + 64 * 1 < 2 ^ 30 ∧ s.tier.usable = true
       ∧ s.tier.hostHeld.contains (s.heldKey (0 + (e.toff + 64 * 1))) = false) := by decide +kernel
theorem witness_StreamerEvents_2 : (let s := streaming 0
     s.prog = some (image, 0, 0) ∧ (s.ctx 0).tierRange = some (0, 0) ∧ s.requested 0 512 = false
       ∧ 0 ≤ (Img.strEntry image 0 0).toff + 64 * 0) := by decide +kernel
theorem witness_StreamerEvents_3 :
      (let q : StrReq := { slot := 0, core := 0, line := 512, ta := 64, epoch := 0, accepted := true }
       let s : State := { with0 { run := .run } with strm := { reqs := [q] } }
       (s.strm.reqs.find? fun r => r.slot == 0 && r.core == 0 && r.line == 512 && r.epoch == 0 && r.accepted) = some q
         ∧ (s.core 0).hurdles = [] ∧ 0 = (s.ctx 0).epoch ∧ (s.core 0).inbound.length < 32 ∧ s.pw.keeper = false ∧ s.tierEcc q.ta = .clean) := by decide +kernel
theorem witness_StreamerEvents_4 :
      (let q : StrReq := { slot := 0, core := 0, line := 512, ta := 64, epoch := 1, accepted := true }
       let s : State := { with0 { run := .run } with strm := { reqs := [q] } }
       (s.strm.reqs.find? fun r => r.slot == 0 && r.core == 0 && r.line == 512 && r.epoch == 1 && r.accepted) = some q
         ∧ 1 ≠ (s.ctx 0).epoch) := by decide +kernel


theorem witness_TierEvents_1 :
    (State.reset.channels.contains 63 = true ∧ 1 < 2 ∧ 15 < 16) := by decide +kernel
theorem witness_TierEvents_2 :
      (∀ e ∈ [([] : List (Nat × List (Nat × Byte))), [(0, [(5, 1)])]],
       let s : State := { State.reset with pw := { tierScrub := 2 }, tier := { usable := true, errs := e } }
       s.pw.tierScrub = 2 ∧ s.tier.usable = true ∧ s.tier.lost.contains (s.tierChannel (64 * s.tier.scrubBlock)) = false) := by decide +kernel
theorem witness_TierEvents_3 :
     (State.reset.tierEcc 0 = .clean) := by decide +kernel
theorem witness_TierEvents_4 :
     (let s : State := { State.reset with tier := { usable := true, errs := [(0, [(5, 1)])] } }
      s.tierEcc 0 = .correctable 5 1 ∧ s.tier.hostHeld.contains (s.heldKey 0) = false) := by decide +kernel


/-! Witnesses: drove fabric, folds, stray network. -/

/-- A staged flit of flow 5. -/
def flit5 : Staged := { flow := 5, ipos := 0, step := 0, payload := some 9 }
theorem witness_DroveFlits_1 :
    (let s := with0 { run := .run, staged := [flit5], stepStart := some 0 }
     let e : Ent := { inp := 4, flow := 5, ipos := 0, aux := 0 }
     let p : Block := 9
     outKind 0 = 0 ∧ 0 % 8 < 4 ∧ isLocal 0 e = true ∧ s.nextEnt 0 = some e ∧ s.flitAt 0 (s.outSt 0) e = some (0, p) ∧ s.roomAfter 0 e = true
       ∧ s.holdReady 0 = false) := by decide +kernel
theorem witness_DroveFlits_2 :
      (∀ p ∈ [0, 7], let f : DFlit := { pen := 7, kind := 0, step := 0, pos := p, payload := 3 }
       let s : State := { running with fab := { ins := [(0, { wire := [f] })] } }
       s.prog = some (image, 0, 0) ∧ 0 < 0x10000 ∧ (s.rawIn 0).wire = [f] ∧ (s.inSt 0).pos < linkCount image 0 0 (s.inSt 0).desc
         ∧ f.step % 256 = (s.inSt 0).step % 256 ∧ (f.pos = (s.inSt 0).pos ↔ p = 0) ∧ f.kind ∈ [0, 2, 3, 4]) := by decide +kernel
theorem witness_DroveFlits_3 :
      (let f : DFlit := { pen := 8, kind := 0, step := 0, pos := 0, payload := 3 }
       let s : State := { running with fab := { ins := [(rxLink 31, { wire := [f] })] } }
       (s.rawIn (rxLink 31)).wire = [f] ∧ s.pen ≠ some f.pen) := by decide +kernel
theorem witness_DroveFlits_4 :
      (let s : State := { running with ports := [(0, { drain := true })] }
       s.prog = some (image, 0, 0) ∧ (s.port 0).drain = true ∧ (s.inSt (rxLink 0)).pos < linkCount image 0 (rxLink 0) (s.inSt (rxLink 0)).desc
       ∧ (s.inSt (rxLink 0)).wire.length + (s.inSt (rxLink 0)).buf.length < bufSize s.width (rxLink 0)) := by decide +kernel


theorem witness_HoldFlitsAndStall_1 :
    (∀ h ∈ [([] : List (Nat × Nat)), [(0, 6)]],
      let s := with0 { run := .run, stepStart := some 0, heldSteps := h }
      outKind 0 ≠ 1 ∧ s.duePosition 0 = some (0, { inp := 4, flow := 5, ipos := 0, aux := 0 }) ∧ (s.core (0 / 8)).run = .run ∧ s.pw.keeper = false
        ∧ s.recordedCause (0 / 8) (s.outSt 0).step = (if h = [] then none else some 6) ∧ (s.outSt 0).holdQ.length < 16) := by decide +kernel
theorem witness_HoldFlitsAndStall_2 :
      (let s := with0 { run := .run }
       let h : HFlit := { pen := 7, cause := 6, step := 0, pos := 1, omod := 0, osite := 0, desc := 0 }
       s.prog = some (image, 0, 0) ∧ outKind 0 = 0 ∧ 0 % 8 < 4 ∧ (Img.ents image 0 h.desc 0)[h.pos]? = some { inp := 4, flow := 5, ipos := 1, aux := 3 }
       ∧ (s.outSt 0).holdQ.length < 16 ∧ isAfter 48 (s.outSt 0).step h.step = false ∧ (s.outSt 0).pos ≤ h.pos
       ∧ ((s.outSt 0).held.any fun x => x.isFor h.step h.pos && x.cause != 0) = false) := by decide +kernel
theorem witness_HoldFlitsAndStall_arrive : (let s := with0 { run := .run }
       (∀ y ∈ [(({ link := 0, pen := 0 } : LinkHold), 0), ({ link := 0x10001, pen := 7 }, 2)],
         s.prog = some (image, 0, 0) ∧ (y.1.link < 0x10000 ∨ s.pen = some y.1.pen)
         ∧ s.descAt image y.1.link (extendTally 8 y.2 (s.inSt y.1.link).step) = some y.2)
       ∧ 0x10000 ≤ ({ link := 0x10001, pen := 8 } : LinkHold).link ∧ s.pen ≠ some 8) := by decide +kernel
theorem witness_HoldFlitsAndStall_3 :
      (let h : HFlit := { pen := 7, cause := 6, step := 0, pos := 0, omod := 0, osite := 0, desc := 0 }
       (let s : State := { with0 { run := .run } with fab := { outs := [(0, { holdQ := [h] })] } }
        (s.outSt 0).holdQ = [h] ∧ outKind 0 ≠ 1 ∧ s.holdRoom 0 h = true)
       ∧ (let s : State := { State.reset with fab := { outs := [(0x4001, { holdQ := [h] })] }, ports := [(1, { st := .active })] }
          (s.outSt 0x4001).holdQ = [h] ∧ outKind 0x4001 = 1 ∧ (s.port (0x4001 % 32)).drain = false ∧ (s.port (0x4001 % 32)).st = .active
          ∧ (s.port (0x4001 % 32)).holdQ = [])) := by decide +kernel
theorem witness_HoldFlitsAndStall_4 :
      (let s : State := { running with ports := [(0, { st := .retrain })] }
       s.prog = some (image, 0, 0) ∧ (s.port 0).holdCause = some 2
       ∧ (s.inSt (rxLink 0)).pos + (s.inSt (rxLink 0)).gen < linkCount image 0 (rxLink 0) (s.inSt (rxLink 0)).desc) := by decide +kernel
theorem witness_HoldFlitsAndStall_5 :
     (((with0 { run := .run, holds := [(9, 0, 1)], marks := [(5, 9, 0, 0)] }).core 0).stalls 5 = true) := by decide +kernel
theorem witness_HoldFlitsAndStall_6 :
     (((with0 { run := .run, ended := true, holds := [(6, 0, 0)] }).core 0).stalls 0xFFFF = true) := by decide +kernel


/-- The state of a fold at a module whose core 0 has not begun a step: the fold unit works on `image`'s fold 0, or on fold 1 after it. -/
def folding (cores : List (Nat × Core)) (keeper : Bool) (f : FoldUnit) : State :=
  { withCores cores with pw := { keeper }, fab := { fold := f } }
/-- A FOLD message of fold 0. -/
def msg0 (status : Nat) : FoldMsg := { fold := 0, tally := 1, status, reason := 8, fmod := 0, fsite := 0, nfail := 1 }
theorem folding_now (cores : List (Nat × Core)) (keeper : Bool) (f : FoldUnit) (hl : lowTallies cores = true)
    (h : Tab.get {} cores 0 = {} ∨ Tab.get {} cores 0 = { run := .run }) :
    (folding cores keeper f).foldNow = Img.foldAhead image (match f.last with | some m => laterTally m.tally 1 | none => 0) 4
      (match (folding cores keeper f).activeCores.find? fun n => ((folding cores keeper f).core n).tally == 0 with
        | some n => ((folding cores keeper f).core n).desc | none => 0) 0 := by
  rw [foldNow_zero _ hl 0 (by rw [State.nCores]; split <;> decide) (by rcases h with h | h <;> simp [folding, withCores, State.core, h])]
  have hp : (folding cores keeper f).prog = some (image, 0, 0) := by
    rw [show (folding cores keeper f).prog = running.prog from rfl, test_image_runs]
  have hn : Img.ndesc image = 3 := by decide +kernel
  rw [hp]; simp only [hn]; rfl
/-- A core that waits in its FOLD. -/
def atFold : Core := { run := .run, tally := 1, desc := 1, live := 9, hurdles := [{ classes := 15, issue := 8, inbound := 0, strays := [], host := [], tier := [], own := [], fold := true }] }
theorem witness_FoldEvents_1 :
    (let s := folding [(5, atFold)] false {}
     (s.core 5).run ≠ .idle ∧ (s.core 5).foldSent = false ∧ (s.core 5).tally = 1 ∧ s.foldNamed 5 = some 0
       ∧ s.fab.fold.outcome = none ∧ s.fab.fold.arrival = none ∧ (s.core 5).foldReady = true) := by decide +kernel
theorem witness_FoldEvents_1_now : (folding [(5, atFold)] false {}).foldNow = some (0, 1) := by
  rw [folding_now _ _ _ rfl (by left; rfl)]; decide +kernel
theorem witness_FoldEvents_2 : (let s := folding [] true { children := [(1, none, 0)] }
     (s.foldPlace 0).2 = [1] ∧ s.pw.keeper = true ∧ s.fab.fold.arrival = none ∧ s.fab.fold.outcome = none ∧ (s.foldPlace 0).1 ≠ 0x3F
       ∧ (s.port (s.foldPlace 0).1).drain = false) := by decide +kernel
theorem witness_FoldEvents_2_now : (folding [] true { children := [(1, none, 0)] }).foldNow = some (0, 1)
    ∧ (folding [] true { children := [(1, none, 0)] }).allArrived 0 = true :=
  ⟨by rw [folding_now _ _ _ rfl (by left; rfl)]; decide +kernel, by rw [allArrived_keeper _ _ rfl]; decide +kernel⟩
theorem witness_FoldEvents_3 : (let s := folding [] true { last := some (msg0 0) }
     s.fab.fold.arrival = none ∧ s.fab.fold.outcome = none ∧ (s.foldPlace 1).1 = 0x3F) := by decide +kernel
theorem witness_FoldEvents_3_now : (folding [] true { last := some (msg0 0) }).foldNow = some (1, 2)
    ∧ (folding [] true { last := some (msg0 0) }).allArrived 1 = true :=
  ⟨by rw [folding_now _ _ _ rfl (by left; rfl)]; decide +kernel, by rw [allArrived_keeper _ _ rfl]; decide +kernel⟩
theorem witness_FoldEvents_4 : ∀ st ∈ [0, 1], (let m := msg0 st
       (folding [] false {}).fab.fold.outcome = none ∧ (folding [] false {}).fab.fold.arrival = none ∧ 1 ∈ ((folding [] false {}).foldPlace 0).2
       ∧ ((folding [] false {}).fab.fold.children.any fun c => c.1 == 1) = false ∧ m.status ≤ 1 ∧ m.reason ≤ 8
       ∧ (let s := folding [] false { arrival := some (none, 0) }
          (s.foldPlace 0).1 = 0 ∧ s.fab.fold.arrival ≠ none ∧ m.tally = 1)
       ∧ (let s := folding [(0, { run := .run })] false { outcome := some m }
          s.fab.fold.outcome = some m ∧ (s.core 0).run ≠ .idle ∧ (s.core 0).foldDone = false ∧ (m.status ≠ 0 ↔ st = 1))) := by decide +kernel
theorem witness_FoldEvents_4_now : (folding [] false {}).foldNow = some (0, 1)
    ∧ (folding [] false { arrival := some (none, 0) }).foldNow = some (0, 1) :=
  ⟨by rw [folding_now _ _ _ rfl (by left; rfl)]; decide +kernel, by rw [folding_now _ _ _ rfl (by left; rfl)]; decide +kernel⟩
theorem witness_FoldEvents_5 : (let s := folding [] false { cores := [(0, none)] }
     s.fab.fold.outcome = none ∧ s.fab.fold.arrival = none ∧ s.fab.fold.cores ≠ []) := by decide +kernel
theorem witness_FoldEvents_5_now : (folding [] false { cores := [(0, none)] }).foldNow = some (0, 1)
    ∧ (folding [] false { cores := [(0, none)] }).allArrived 0 = false ∧ (folding [] false { cores := [(0, none)] }).missingSite 0 = some 1 := by
  refine ⟨by rw [folding_now _ _ _ rfl (by left; rfl)]; decide +kernel, allArrived_without _ 0 1 (by rw [State.nCores]; split <;> decide) rfl rfl, ?_⟩
  have h : (List.range (folding [] false { cores := [(0, none)] }).nCores).find? (fun n =>
      !((folding [] false { cores := [(0, none)] }).fab.fold.cores.any (·.1 == n))) = some 1 := by
    rw [List.find?_range_eq_some]
    refine ⟨by decide, by rw [State.nCores, List.mem_range]; split <;> decide, fun j hj => ?_⟩
    obtain rfl : j = 0 := by omega
    decide
  unfold State.missingSite; rw [h]

/-- A WRITE from the host agent waits at core 0, its destination, with some data flits, an AGE, and a departure in progress. -/
def comeHome (datas : List Block) (age : Nat) (x : List Sending) : State :=
  { with0 { run := .run } with net := { packets := [(3, { node := 0, packet := { age, src := 2048, type := 1, datas } })], sending := x } }
theorem witness_StrayEvents_1 : ∀ d ∈ [([] : List Block), [5]], ∀ g ∈ [0, 63, 64],
    (let s := comeHome d g []
     let a : StrayAt := { node := 0, packet := { age := g, src := 2048, type := 1, datas := d } }
     0 < s.nCores ∧ (s.core 0).respQ = [] ∧ s.net.injQ = [] ∧ s.net.sending = [] ∧ s.net.packets = [(3, a)] ∧ a.node = 0
       ∧ s.isHere a.packet = true ∧ a.packet.dag = 0 ∧ a.packet.dest = 0 ∧ (a.packet.escapes = false ↔ g < 64) ∧ a.packet.bounced = false
       ∧ s.strayFree (routerOut 0 4) a.packet.ch a.packet.isReq = true ∧ (a.packet.ndi = 0 ↔ d = [])) := by decide +kernel
theorem witness_StrayEvents_going : ∀ k ∈ [1, 2],
    (let x : Sending := { out := routerOut 0 4, packet := 3, left := k }
     let s := comeHome [5, 6] 0 [x]
     s.net.sending = [x] ∧ s.droveNow (routerOut 0 4) = false ∧ x.lost = false ∧ x.deflected = false ∧ x.left = k) := by decide +kernel
/-- A WRITE of one line to line 4 of core 0, which expects it. -/
def write4 : Packet := { type := 1, addr := 0x100, mask := 0xFFFF, src := 5, pseq := 1023, datas := [5] }
theorem witness_StrayEvents_2 : ∀ f ∈ [64, 0x100], (
       let s := with0 { run := .run, queue := [(64, 0)], ejectQ := [write4], fetchAt := f, recvSeq := [(write4.srcKey, 1023)]
                        regions := [(0, { region 1 with sw := true })] }
       s.pw.keeper = false ∧ (s.core 0).work = none ∧ (s.core 0).loads = [] ∧ (s.core 0).reorder = [] ∧ (s.core 0).hurdles = []
         ∧ (s.core 0).holds = [] ∧ (s.core 0).hostHold = none ∧ (s.core 0).queue ≠ [] ∧ (s.core 0).inbound.length < 24
         ∧ (s.core 0).respQ.length < 4 ∧ (s.core 0).ejectQ = [write4] ∧ write4.src < 2048 ∧ write4.fep = (s.core 0).epoch
         ∧ ((s.core 0).recvSeq.any fun e => e.1 == write4.srcKey) = true ∧ Tab.get 0 (s.core 0).recvSeq write4.srcKey = write4.pseq
         ∧ (s.core 0).lets (s.runSlot.getD 4) (write4.addr / 64) 0 = true
         ∧ s.bankForStray 0 (bankOf (write4.addr / 64)) = (f == 64)) := by decide +kernel
theorem witness_StrayEvents_3 :
      (let q : Packet := { type := 0x81, src := 1, rtag := 2 }
       let o : OutReq := { packet := { type := 1, dest := 1, rtag := 2 } }
       (let s := with0 { run := .run, ejectQ := [q] }
        (s.core 0).ejectQ = [q] ∧ (s.core 0).reorder = [] ∧ q.isRsp = true ∧ matchOut (s.core 0).outs 0 q = none)
       ∧ (∀ k ∈ [0, 1], let s := with0 { run := .run, ejectQ := [q], outs := [(2, { o with order := k }), (3, { o with order := 1 - k })] }
          (s.core 0).ejectQ = [q] ∧ (s.core 0).reorder = [] ∧ matchOut (s.core 0).outs 0 q = some { o with order := k }
          ∧ inOrder (s.core 0).outs { o with order := k } = (k == 0) ∧ s.mayLand 0 { o with order := k } = true)
       ∧ (∀ r ∈ [true, false], let s := with0 { run := .run, outs := [(2, { o with resent := r })] }
          ((s.core 0).outs.find? fun x => x.1 == 2) = some (2, { o with resent := r }) ∧ s.mayLand 0 { o with resent := r } = true)) := by decide +kernel
theorem witness_StrayEvents_4 :
      (let z : StrayAt := { node := 12290, packet := { type := 0x83, src := 1, rtag := 2 } }
       let o : OutReq := { packet := { type := 3, dest := 1, rtag := 2 } }
       ∀ l ∈ [([] : List (Nat × OutReq)), [(65536 * 2 + 2, o)]], let s : State := { State.reset with net := { packets := [(7, z)], agents := l } }
         s.net.packets = [(7, z)] ∧ z.node = 12288 + 2 ∧ (matchOut s.net.agents (65536 * 2) z.packet = if l = [] then none else some o)
         ∧ inOrder (s.agentTab 2) o = true ∧ ((s.net.agents.find? fun x => x.1 == 65536 * 2 + 2).isSome = true ↔ l ≠ [])) := by decide +kernel


/-! Witnesses: the Xancel link, muster, time and contexts. -/

/-- Port 0 as given. -/
def port0 (p : Port) : State := { State.reset with ports := [(0, p)] }
/-- A sequenced flit of the running pen with step 0 and position 0, of ESEQ 0: its body, and the flit with its CRC. -/
def body0 : Bytes := leBytes 4 (2 ^ 14) ++ leBytes 8 (7 * 2 ^ 48) ++ List.replicate 256 0
def flit0 : Bytes := body0 ++ leBytes 4 (crc32 body0)

theorem crc32_lt (b : Bytes) : crc32 b < 2 ^ 32 := by
  have bits8 : ∀ (l : List Nat) (c : Nat), c < 2 ^ 32 →
      l.foldl (fun c _ => if bit c 0 then (c / 2) ^^^ 0xEDB88320 else c / 2) c < 2 ^ 32 := by
    intro l
    induction l with
    | nil => exact fun c h => h
    | cons x t ih =>
      intro c h
      refine ih _ ?_
      dsimp only
      split
      · exact Nat.xor_lt_two_pow (by omega) (by decide)
      · omega
  have all : ∀ (l : Bytes) (c : Nat), c < 2 ^ 32 → l.foldl (fun c x =>
      (List.range 8).foldl (fun c _ => if bit c 0 then (c / 2) ^^^ 0xEDB88320 else c / 2) (c ^^^ x.toNat)) c < 2 ^ 32 := by
    intro l
    induction l with
    | nil => exact fun c h => h
    | cons x t ih => exact fun c h => ih _ (bits8 _ _ (Nat.xor_lt_two_pow h (by have := x.isLt; omega)))
  exact Nat.xor_lt_two_pow (by decide) (all b _ (by decide))

theorem crc_ends (b : Bytes) (hl : b.length = 268) :
    crc32 ((b ++ leBytes 4 (crc32 b)).take 268) = field (b ++ leBytes 4 (crc32 b)) 268 4 := by
  have hlt := crc32_lt b
  rw [List.take_append_of_le_length (by omega), List.take_of_length_le (by omega), field, slice,
    show List.drop 268 (b ++ leBytes 4 (crc32 b)) = leBytes 4 (crc32 b) by rw [← hl, List.drop_left]]
  generalize crc32 b = x at hlt ⊢
  simp [leBytes, leNat]
  omega
theorem body0_length : body0.length = 268 := by
  simp only [body0, List.length_append, leBytes, List.length_cons, List.length_nil, List.length_replicate]
theorem witness_LinkReceives_crc : crc32 (flit0.take 268) = field flit0 268 4 := crc_ends body0 body0_length
theorem witness_LinkReceives_1 :
    (let s := port0 { st := .active }
     s.must.slot = none ∧ (s.port 0).st = .active ∧ (s.port 0).retry = false ∧ (s.port 0).laneOp = .none ∧ ([] : List Nat).length ≤ 16 ∧ 16 < (List.replicate 17 3).length
       ∧ (s.port 0).st ≠ .off ∧ (s.port 0).st ≠ .detect) := by decide +kernel
theorem witness_LinkReceives_2 : crc32 (([1] : Bytes).take 268) ≠ field ([1] : Bytes) 268 4 := by decide +kernel
theorem witness_LinkReceives_3 :
      (let s : State := { running with ports := [(0, { st := .active, keys := some ([], []), dHeld := 159 })] }
       s.must.slot = none ∧ (s.port 0).st = .active ∧ (s.port 0).retry = false ∧ (s.port 0).keys = some ([], []) ∧ flit0.length = 272
       ∧ bits (field flit0 0 4) 15 14 = 1 ∧ bits (field flit0 0 4) 31 16 = (s.port 0).expect % 65536
       ∧ s.pen = some (bits (field flit0 4 8) 63 48) ∧ bit (field flit0 4 8) 47 = false ∧ bits (field flit0 4 8) 46 44 = 0
       ∧ bit (field flit0 0 4) 13 = false ∧ (s.port 0).rxSlice = none ∧ (s.port 0).dHeld < 160 ∧ (s.port 0).drain = false) := by decide +kernel
/-- An IDLE flit with ESEQ 0 and the SOM bit and SIDE of a header, and its CRC. -/
def idleBody (w : Nat) : Bytes := leBytes 4 w ++ List.replicate 264 0
def idle (w : Nat) : Bytes := idleBody w ++ leBytes 4 (crc32 (idleBody w))
theorem witness_LinkReceives_slices : ∀ w ∈ [2 ^ 13 + 5, 7], (let s := port0 { st := .active, rxSlice := some 5 }
       s.must.slot = none ∧ (s.port 0).st = .active ∧ (idle w).length = 272 ∧ bits (field (idle w) 0 4) 15 14 = 0
       ∧ bits (field (idle w) 0 4) 31 16 = (s.port 0).expect % 65536 ∧ (bit (field (idle w) 0 4) 13 = true ↔ w ≠ 7)
       ∧ (s.port 0).rxSlice = some 5) := by decide +kernel
theorem witness_LinkReceives_idleCrc (w : Nat) : crc32 ((idle w).take 268) = field (idle w) 268 4 :=
  crc_ends (idleBody w) (by simp only [idleBody, List.length_append, leBytes, List.length_cons, List.length_nil, List.length_replicate])
theorem witness_LinkReceives_4 : (let s := port0 { st := .retrain, eseq := 6, replay := [(4, []), (5, [])] }
       s.must.slot = none ∧ (s.port 0).st = .retrain ∧ ((s.port 0).eseq - (s.port 0).replay.length) % 65536 = 4)
    ∧ wrapDiff 16 4 4 = 0 ∧ wrapDiff 16 6 4 = 2 := by decide +kernel
theorem witness_LinkReceives_5 :
      ((3 : Nat) ≠ ({} : Port).nakActed) := by decide +kernel
theorem witness_LinkReceives_6 :
      (let s := port0 { st := .active, dSent := 160 }
       ((s.port 0).dSent + 1024 - (0 : BitVec 10).toNat) % 1024 ≤ 160
         ∧ ∀ k < 4, (Tab.get 0 (s.port 0).sSent k + 4 - [0, 0, 0, 0].getD k 0) % 4 ≤ 2) := by decide +kernel
theorem witness_LinkReceives_7 :
      (let s := port0 { st := .active, dSent := 161 }
       s.must.slot = none ∧ (s.port 0).st = .active ∧ 160 < ((s.port 0).dSent + 1024 - (0 : BitVec 10).toNat) % 1024) := by decide +kernel


theorem witness_LinkTransmitsAndRetrains_1 :
    (let f : DFlit := { pen := 7, kind := 0, step := 0, pos := 0, payload := 3 }
     let s := port0 { st := .active, droveQ := [f] }
     let p := s.port 0
     s.must.slot = none ∧ p.st = .active ∧ p.laneOp = .none ∧ p.retrainCmd = false ∧ p.deskew = 0 ∧ p.holdQ = [] ∧ p.replayAt = none ∧ p.replay.length < 8212 ∧ p.droveQ = [f]) := by decide +kernel
theorem witness_LinkTransmitsAndRetrains_2 :
      (∀ t ∈ [PortSt.lock, .detect], (port0 { st := t }).must.slot = none ∧ ((port0 { st := t }).port 0).st = t) := by decide +kernel
theorem witness_LinkTransmitsAndRetrains_3 :
      (let s := port0 { st := .active, badCws := 8, replay := [(0, [])], retries := 16 }
       s.must.slot = none ∧ (s.port 0).st = .active ∧ 8 ≤ (s.port 0).badCws ∧ (s.port 0).replay ≠ [] ∧ 16 ≤ (s.port 0).retries
         ∧ (s.port 0).laneOp = .none) := by decide +kernel
theorem witness_LinkTransmitsAndRetrains_4 :
      (let p : Port := { st := .retrain, relock := true, locked := true, peerLocked := true }
       ((port0 p).port 0).st = .retrain ∧ p.relock = true ∧ p.locked = true ∧ p.peerLocked = true ∧ (1 : BitVec 4) ≠ 0) := by decide +kernel
theorem witness_LinkTransmitsAndRetrains_5 : (let p : Port := { st := .active, laneOp := .addIn 1 }
       ((port0 p).port 0).st = .active ∧ p.laneOp ≠ .none) := by decide +kernel


theorem witness_LaneOperations_1 :
    (let s := port0 { st := .active, txLanes := 15, rxLanes := 15, cwSent := 7 }
     s.must.slot = none ∧ (s.port 0).st = .active ∧ (s.port 0).laneOp = .none ∧ (3 : BitVec 4).toNat ≠ 0
       ∧ (3 : BitVec 4).toNat &&& (s.port 0).txLanes.toNat = (3 : BitVec 4).toNat ∧ isAfter 16 (8 : BitVec 16).toNat (s.port 0).cwSent = true
       ∧ isAfter 16 (7 : BitVec 16).toNat (s.port 0).cwSent = false ∧ (s.port 0).ignored = false ∧ (s.port 0).deskew = 0) := by decide +kernel
theorem witness_LaneOperations_2 :
      (let p : Port := { st := .active, laneOp := .switchIn 3 8, cwSent := 8 }
       ((port0 p).port 0).st = .active ∧ p.laneOp = .switchIn 3 8 ∧ p.deskew = 0 ∧ p.cwFlits = [] ∧ atOrAfter 16 p.cwSent 8 = true) := by decide +kernel
theorem witness_LaneOperations_3 :
      (let p : Port := { st := .active, laneOp := .switchOut 3 65535, cwRecv := 1 }
       ((port0 p).port 0).st = .active ∧ p.laneOp = .switchOut 3 65535 ∧ atOrAfter 16 p.cwRecv (65535 + 2) = true) := by decide +kernel
theorem witness_LaneOperations_4 :
      (∀ r ∈ [(8 : BitVec 4), 15], let s := port0 { st := .active, rxLanes := r, laneErrs := List.replicate 400 (0, 3) }
       s.must.slot = none ∧ (s.port 0).st = .active ∧ (s.port 0).rxLanes.getLsbD 3 = true
         ∧ (Tab.get ({} : PortNv) s.nv.ports 0).drop < ((s.port 0).laneErrs.filter fun e => e.2 == 3 && decide (s.now < e.1 + 3600000)).length
         ∧ (laneCount (s.port 0).rxLanes = 1 ↔ r = 8) ∧ (s.port 0).laneOp = .none) := by decide +kernel
theorem witness_LaneOperations_5 :
      (((port0 { st := .active, laneOp := .addOut 3 15 }).port 0).laneOp = .addOut 3 15) := by decide +kernel
theorem witness_LaneOperations_6 :
      (let s : State := { port0 { st := .active, rxLanes := 7 } with nv := { ports := [(0, { autoAdd := 1 })] } }
       (s.port 0).st = .active ∧ 3 < 4 ∧ (s.port 0).rxLanes.getLsbD 3 = false ∧ (s.port 0).laneOp = .none
         ∧ (Tab.get ({} : PortNv) s.nv.ports 0).autoAdd = 1) := by decide +kernel


theorem witness_PortTraining_1 :
    (∀ t ∈ [PortSt.detect, .equalize, .lock, .seal, .active], ((port0 { st := t, proofRepeat := true }).port 0).st = t
      ∧ ((port0 { st := t, proofRepeat := true }).port 0).proofRepeat = true ∧ ((port0 { st := t, proofRepeat := true }).port 0).peerHello = none) := by decide +kernel
theorem witness_PortTraining_2 :
      (Block.field (1 : Block) 0 1 = 1) := by decide +kernel
theorem witness_PortTraining_3 :
      (let s := port0 { st := .seal, peerHello := some 0 }
       (s.port 0).st = .seal ∧ (s.port 0).peerHello = some 0) := by decide +kernel
theorem witness_PortTraining_4 :
      (LaneFrames.lanes { set := 3 } = 3 ∧ LaneFrames.lanes { set := 3, numbers := [1, 0, 2, 3] } = 0
      ∧ ((port0 { st := .retrain }).port 0).st = .retrain ∧ ((port0 { st := .retrain }).port 0).relock = false ∧ (8 : BitVec 4) ≠ 0) := by decide +kernel


theorem witness_PortResets : ∀ t ∈ [PortSt.lock, .seal, .active, .retrain], (port0 { st := t }).must.slot = none
    ∧ ((port0 { st := t }).port 0).st = t ∧ t ∈ [PortSt.lock, .seal, .active, .retrain] := by decide +kernel

/-- Slot 0 musters `image`, with port 0 ACTIVE. -/
def mustering : State :=
  { State.reset with ctxs := [(0, { st := .mustering, image })], must := { slot := some 0 }, ports := [(0, { st := .active })] }
theorem witness_DiscoveryAndMuster_1 :
    ((mustering.port 0).st = .active ∧ mustering.must.slot = some 0 ∧ Img.find (mustering.ctx 0).image mustering.fuse.modid = some 0
      ∧ Img.use (mustering.ctx 0).image 0 0 = 1 ∧ 0 ∉ mustering.must.classed ∧ mustering.must.ready = false ∧ mustering.pw.keeper = false) := by decide +kernel
theorem witness_DiscoveryAndMuster_2 :
      (Block.field (0 : Block) 9 1 = 0 ∧ Block.field (2 ^ 72 : Block) 9 1 = 1 ∧ (port0 { st := .active }).must.slot = none
      ∧ ((port0 { st := .active }).port 0).st = .active) := by decide +kernel
theorem witness_DiscoveryAndMuster_3 :
      (Block.field (0 : Block) 12 4 = mustering.must.attempt ∧ Block.field (0 : Block) 8 1 = 0) := by decide +kernel
theorem witness_DiscoveryAndMuster_4 :
      (Block.field (2 ^ 64 : Block) 12 4 = mustering.must.attempt ∧ Block.field (2 ^ 64 : Block) 8 1 = 1) := by decide +kernel
theorem witness_DiscoveryAndMuster_5 :
      (Block.field (2 ^ 65 + 0xFFFF * 2 ^ 80 : Block) 12 4 = mustering.must.attempt ∧ Block.field (2 ^ 65 + 0xFFFF * 2 ^ 80 : Block) 8 1 = 2
      ∧ Block.field (2 ^ 65 + 0xFFFF * 2 ^ 80 : Block) 10 2 = 0xFFFF) := by decide +kernel
theorem witness_DiscoveryAndMuster_6 :
      (let s : State := { mustering with must := { slot := some 0, latest := some 0, ports := [0] } }
       s.must.latest = some 0 ∧ s.must.ports = [0] ∧ s.must.fails = [] ∧ (s.port 0).st = .active) := by decide +kernel
theorem witness_DiscoveryAndMuster_7 :
      (mustering.must.slot = some 0 ∧ mustering.must.ready = false ∧ ∀ f ∈ mustering.must.fails, mustering.must.timer ≤ f.2.1) := by decide +kernel
theorem witness_DiscoveryAndMuster_8 :
      (let s : State := { State.reset with must := { fails := [(1, 0, 0)] } }
       s.must.slot = none ∧ s.must.failed = false ∧ s.must.fails = [(1, 0, 0)]) := by decide +kernel


theorem witness_TimeEdgesAndStates_1 :
    (∀ t ∈ [TimeSt.unset, .ref, .net, .coast], let s : State := { State.reset with time := { armed := some 9, st := t } }
     s.time.armed = some 9 ∧ s.time.st = t) := by decide +kernel
theorem witness_TimeEdgesAndStates_2 :
      (let s : State := { State.reset with time := { st := .ref, arm := some (9, 1), lastCount := some 65536 } }
       s.time.armed = none ∧ s.time.arm = some (9, 1) ∧ s.time.lastCount = some 65536 ∧ 65535 % 65536 ≠ 0 ∧ 131072 % 65536 = 0 ∧ s.time.st = .ref
         ∧ s.time.atEdge = none ∧ s.mayRef = true) := by decide +kernel
theorem witness_TimeEdgesAndStates_3 :
      (State.reset.time.st ≠ .net) := by decide +kernel
theorem witness_TimeEdgesAndStates_4 :
      (({ State.reset with time := { st := .coast } } : State).time.st = .coast) := by decide +kernel


/-- In NET, with a request out to port 0. -/
def asking (stepNext : Bool) : State :=
  { State.reset with time := { st := .net, asked := some 0, stepNext }, ports := [(0, { st := .active })] }
/-- A TIME reply with the server's time `t`. -/
def reply (t : Nat) : Block := BitVec.ofNat 2048 (2 ^ 72 + 2 * 2 ^ 88 + State.reset.nv.tepoch * 2 ^ 96 + State.reset.nv.bell * 2 ^ 128 + t * 2 ^ 384)
theorem witness_TimeExchange_1 :
    (let s : State := { State.reset with time := { st := .net, parent := 0 }, ports := [(0, { st := .active })] }
     s.time.st = .net ∧ s.fuse.modid ≠ s.nv.bell ∧ s.time.trying = [] ∧ s.time.asked = none ∧ s.parentNow = some 0 ∧ (s.port 0).st = .active) := by decide +kernel
theorem witness_TimeExchange_2 :
      ((asking true).usable 0 (reply 0) = true ∧ (asking true).time.stepNext = true) := by decide +kernel
theorem witness_TimeExchange_3 :
      ((asking false).usable 0 (reply 0) = true ∧ (asking false).time.stepNext = false ∧ Block.field (reply 0) 9 1 = 1
      ∧ ((asking false).time.theta (Block.field (reply 0) 24 8) (Block.field (reply 0) 32 8) (Block.field (reply 0) 40 8) 0
          (Block.field (reply 0) 48 12)).1.natAbs ≤ (asking false).nv.jump * 40 * 2 ^ 32) := by decide +kernel
theorem witness_TimeExchange_4 :
      ((asking false).usable 0 (reply (2 ^ 90)) = true ∧ Block.field (reply (2 ^ 90)) 9 1 = 1 ∧ (asking false).time.trying = []
      ∧ (asking false).nv.jump * 40 * 2 ^ 32 < ((asking false).time.theta (Block.field (reply (2 ^ 90)) 24 8) (Block.field (reply (2 ^ 90)) 32 8)
          (Block.field (reply (2 ^ 90)) 40 8) 0 (Block.field (reply (2 ^ 90)) 48 12)).1.natAbs) := by decide +kernel
theorem witness_TimeExchange_trial :
      (let s : State := { asking false with time := { st := .net, asked := some 0, trying := [0] } }
       s.usable 0 (reply (2 ^ 90)) = true ∧ s.time.stepNext = false ∧ s.time.trying ≠ []
       ∧ s.nv.jump * 40 * 2 ^ 32 < (s.time.theta (Block.field (reply (2 ^ 90)) 24 8) (Block.field (reply (2 ^ 90)) 32 8)
          (Block.field (reply (2 ^ 90)) 40 8) 0 (Block.field (reply (2 ^ 90)) 48 12)).1.natAbs) := by decide +kernel
theorem witness_TimeExchange_5 :
      (({ State.reset with time := { slewing := true } } : State).time.slewing = true) := by decide +kernel
theorem witness_TimeExchange_6 :
      (let s : State := { State.reset with time := { st := .net, parent := 0 }, ports := [(0, { st := .retrain })] }
       s.time.st = .net ∧ s.fuse.modid ≠ s.nv.bell ∧ s.parentLost = true ∧ s.time.trying.length ≤ 1
         ∧ ((s.timePorts.filter fun p => p != s.time.parent).filter fun p => (s.port p).st == .active) = []) := by decide +kernel


/-- The module is ready and slot 0 is in a state. -/
def slot0 (x : Ctx) : State := { State.reset with pw := { stage := 6, compute := 2 }, tier := { usable := true }, ctxs := [(0, x)] }
/-- A shard without rows, and a manifest that names it. -/
def shard0 : Bytes := leBytes 4 0x4448535A ++ List.replicate 60 0
def manifest0 : Bytes := List.replicate 172 0 ++ leBytes 4 64 ++ sha256 shard0 ++ List.replicate 16 0
theorem witness_ContextCommands_1 :
    (∀ t ∈ [CtxSt.empty, .unloading], (slot0 { st := t }).cmdTaken 0 1 = true ∧ ((slot0 { st := t }).ctx 0).st = t) := by decide +kernel
theorem witness_ContextCommands_2 :
      (∀ t ∈ [CtxSt.loaded, .failed], (slot0 { st := t }).cmdTaken 0 2 = true ∧ ((slot0 { st := t }).ctx 0).st = t ∧ t ≠ .pending ∧ t ≠ .loading) := by decide +kernel
theorem witness_ContextCommands_cancel :
      (∀ t ∈ [CtxSt.pending, .loading], (slot0 { st := t }).cmdTaken 0 2 = true ∧ ((slot0 { st := t }).ctx 0).st = t) := by decide +kernel
theorem witness_ContextCommands_failed :
      ((slot0 { st := .failed }).cmdTaken 0 3 = true ∧ ((slot0 { st := .failed }).ctx 0).st = .failed) := by decide +kernel
theorem witness_ContextCommands_3 :
      ((slot0 { st := .loaded }).cmdTaken 0 3 = true ∧ ((slot0 { st := .loaded }).ctx 0).st ≠ .failed) := by decide +kernel
theorem witness_ContextCommands_4 :
      (let s : State := { slot0 { st := .mustering } with must := { slot := some 0 } }
       s.cmdTaken 0 4 = true ∧ s.must.slot = some 0) := by decide +kernel
theorem witness_ContextCommands_5 :
      ((slot0 { st := .running }).cmdTaken 0 5 = true ∧ ((slot0 { st := .running }).ctx 0).st = .running) := by decide +kernel
theorem witness_ContextCommands_6 :
      (let s := slot0 { st := .loading, phase := .intake, manifest := manifest0, shards := [(0, { active := true, attempts := 3 })] }
       s.inIntake 0 0 = true ∧ (Tab.get {} (s.ctx 0).shards 0).attempts < 4
         ∧ shardResult (shardEnt (s.ctx 0).manifest 0) (s.ctx 0).seeds shard0 = (1, (0, 0, 0), some (layOut (shardEnt (s.ctx 0).manifest 0) []))) := by decide +kernel
theorem witness_ContextCommands_7 :
      (0 < 4 ∧ ((slot0 { st := .unloading }).ctx 0).st = .unloading ∧ (slot0 { st := .unloading }).loadsLeft 0 = false) := by decide +kernel
theorem witness_ContextCommands_8 :
      (∀ op ∈ [1, 2], let s := slot0 { st := .running, tierRegion := some (1, 0) }
       (s.ctx 0).st = .running ∧ s.kvStatusOf 0 op 15 0 0 0 = 0) := by decide +kernel
theorem witness_ContextCommands_9 :
      ((slot0 { st := .running }).kvStatusOf 0 1 16 0 0 0 = 1) := by decide +kernel


/-! Witnesses: the host attachment. -/

/-- CXL port 0 is up with a ring. -/
def hosted (r : Ring) : State := { State.reset with cxls := [(0, { link := 1, flit256 := 1, ide := 3, rings := [(15, r)] })] }
theorem witness_HostWindowAndRings_1 :
    ((hosted {}).hostOpen 0 = true ∧ (hosted {}).windowOk (2047 * 2 ^ 23 + 8) 1024 = true ∧ (2047 * 2 ^ 23 + 8) % 4 = 0 ∧ (hosted {}).windowBusy 0 = false
      ∧ ((hosted {}).cxl 0).readsWaiting = [] ∧ 1024 ≤ 1024 ∧ ([1, 2, 3, 4] : Bytes) ≠ [] ∧ ([1, 2, 3, 4] : Bytes).length % 4 = 0) := by decide +kernel
theorem witness_HostWindowAndRings_2 :
      (let s : State := { hosted {} with net := { agentQ := [(0, { serve := (0, 0, 0, 0), packet := {} })] } }
       s.hostOpen 0 = true ∧ s.windowOk 8 4 = true ∧ s.windowBusy 0 = true) := by decide +kernel
theorem witness_HostWindowAndRings_3 :
      (let r : Ring := { sqsz := 12, cqsz := 12, sqBase := 4096, cqBase := 8192 }
       (hosted r).ring 0 15 = r ∧ ((hosted r).cxl 0).up = true ∧ r.st = 0 ∧ r.sqsz ≤ 12 ∧ r.cqsz ≤ 12 ∧ r.sqsz ≤ r.cqsz ∧ r.sqBase % 4096 = 0
         ∧ r.cqBase % 4096 = 0 ∧ (hosted r).hostBlocked 0 = false) := by decide +kernel
theorem witness_HostWindowAndRings_4 :
      (∀ r ∈ [({ sqsz := 13, cqsz := 13 } : Ring), { cqsz := 13 }, { sqsz := 1 }, { sqBase := 64 }, { cqBase := 64 }], (hosted r).ring 0 15 = r ∧ r.st = 0
      ∧ ((hosted r).hostBlocked 0 = true ∨ 12 < r.sqsz ∨ 12 < r.cqsz ∨ r.cqsz < r.sqsz ∨ r.sqBase % 4096 ≠ 0 ∨ r.cqBase % 4096 ≠ 0)) := by decide +kernel
theorem witness_HostWindowAndRings_5 :
      (∀ k ∈ [1, 2, 3], ((hosted { st := k }).ring 0 15).st = k ∧ ((hosted { st := k }).ring 0 15).descs = []
      ∧ ((hosted { st := k }).ring 0 15).fetched = [] ∧ (hosted { st := k }).hostOpen 0 = true ∧ ((hosted { st := k }).cxl 0).up = true) := by decide +kernel
theorem witness_HostWindowAndRings_6 :
      (let s := hosted { st := 1, descs := [(0, { raw := [] })] }
       (s.ring 0 15).st = 1 ∧ (s.ring 0 15).descs ≠ [] ∧ 15 < (s.ring 0 15).sqSize ∧ (s.ring 0 15).sqSize ≤ 16) := by decide +kernel
theorem witness_HostWindowAndRings_7 :
      (let s : State := { State.reset with cxls := [(0, { link := 1, flit256 := 1, ide := 3, cache := [0], rings := [(15, { snoop := true, tailAddr := 60 })] })] }
       s.hostOpen 0 = true ∧ (s.ring 0 15).snoop = true ∧ (s.cxl 0).cache.contains ((s.ring 0 15).tailAddr / 64 * 64) = true
         ∧ (s.cxl 0).cache.length < 1024 ∧ 15 % 65536 < (s.ring 0 15).sqSize) := by decide +kernel
theorem witness_HostWindowAndRings_8 :
      (let s := hosted { st := 1, reading := true }
       (s.ring 0 15).st = 1 ∧ (s.ring 0 15).reading = true ∧ s.hostBlocked 0 = false ∧ (List.replicate 64 (0 : Byte)).length = 64) := by decide +kernel


/-- A descriptor: operation, flags, slot, length, device address. -/
def desc (op flags slot len dev : Nat) : Bytes :=
  leBytes 1 op ++ leBytes 1 flags ++ leBytes 2 slot ++ leBytes 4 len ++ leBytes 8 0 ++ leBytes 8 dev ++ List.replicate 40 0
theorem witness_Descriptors_1 :
    (let s := hosted { st := 1, fetched := [(3, some (desc 5 0 4 0 0))] }
     (s.ring 0 15).st = 1 ∧ s.hostBlocked 0 = false ∧ (s.ring 0 15).descs.length < 4 ∧ (s.ring 0 15).fetched = [(3, some (desc 5 0 4 0 0))] ∧ s.badDesc (desc 5 0 4 0 0) = true) := by decide +kernel
theorem witness_Descriptors_2 :
      (∀ b ∈ [desc 2 1 3 64 0, desc 5 0 0 0 0, desc 3 0 0 128 (2 ^ 63)], (hosted {}).badDesc b = false ∧ bit (field b 1 1) 2 = false
      ∧ bit (field b 1 1) 1 = false ∧ dscOp b ≠ 1) := by decide +kernel
theorem witness_Descriptors_3 :
      (let s := hosted { st := 1, descs := [(0, { raw := [] })], fetched := [(3, some (desc 5 4 0 0 0))] }
       (s.ring 0 15).st = 1 ∧ s.hostBlocked 0 = false ∧ (s.ring 0 15).descs.length < 4 ∧ (s.ring 0 15).descs ≠ [] ∧ (s.ring 0 15).fetched = [(3, some (desc 5 4 0 0 0))]
         ∧ s.badDesc (desc 5 4 0 0 0) = false ∧ bit (field (desc 5 4 0 0 0) 1 1) 2 = true) := by decide +kernel
theorem witness_Descriptors_4 :
      (∀ op ∈ [1, 2, 3, 4, 5], let d : Desc := { raw := desc op 0 0 64 0 }
       (hosted { st := 1, descs := [(3, d)] }).readyDesc 0 15 3 op = some d ∧ (hosted { st := 1, descs := [(3, d)] }).hostBlocked 0 = false
       ∧ dscLen d.raw = 64 ∧ dscTier d.raw = false) := by decide +kernel
theorem witness_Descriptors_5 :
      (let d : Desc := { raw := desc 5 0 0 0 0, ran := true }
       let s := hosted { st := 1, descs := [(3, d)], cqUsed := 15, cqTail := 15 }
       (s.ring 0 15).descs = [(3, d)] ∧ (s.ring 0 15).st = 1 ∧ d.ran = true ∧ d.left = 0 ∧ (s.ring 0 15).cqUsed < (s.ring 0 15).cqSize
         ∧ bit (field d.raw 1 1) 0 = false ∧ (s.ring 0 15).cqTail + 1 = (s.ring 0 15).cqSize) := by decide +kernel


/-- CXL port 0 is up, its decoder committed, and slot 0 holds the first GiB. -/
def memory (t : CtxSt) : State :=
  { State.reset with cxls := [(0, { link := 1, flit256 := 1, ide := 3, hdm := true })], ctxs := [(0, { st := t, tierRegion := some (1, 0) })]
                     tier := { usable := true } }
theorem witness_CxlMemory_1 :
    (∀ a ∈ [0, 64, (memory .loaded).tierBytes - 64], (memory .loaded).memOpen 0 a = true ∧ (memory .loaded).tierDead a = false
      ∧ (memory .loaded).memHidden a = false ∧ (memory .loaded).runSlot = none ∧ ((memory .loaded).tierRead a 2).2.1 = false) := by decide +kernel
theorem witness_CxlMemory_2 :
      ((memory .loading).memOpen 0 64 = true ∧ (memory .loading).tierDead 64 = false ∧ (memory .loading).memHidden 64 = true) := by decide +kernel
theorem witness_CxlMemory_3 :
      (let s : State := { State.reset with tier := { backInv := [(0, 5)] } }
       (0, 5) ∈ s.tier.backInv ∧ s.tier.superseded = [] ∧ s.tier.backQ = [] ∧ s.tier.rewrites = []) := by decide +kernel
theorem witness_CxlMemory_rewrite :
      (let s : State := { State.reset with tier := { usable := true, backInv := [(0, 5)], rewrites := [5], errs := [(5, [(5, 1)])] } }
       (0, 5) ∈ s.tier.backInv ∧ s.tier.rewrites = [5] ∧ s.tier.backQ = [] ∧ s.tierEcc (64 * 5) = .correctable 5 1) := by decide +kernel
theorem witness_CxlMemory_4 :
      (((hosted {}).cxl 0).up = true ∧ ((hosted {}).cxl (1 - 0)).hdm = false ∧ (hosted {}).hostBlocked 0 = false ∧ (hosted {}).pw.startFail = 0) := by decide +kernel
theorem witness_CxlMemory_5 :
      (let s : State := { hosted {} with pw := { startFail := 1 } }
       (s.cxl 0).up = true ∧ s.pw.startFail ≠ 0) := by decide +kernel


theorem witness_CxlPort_1 :
    (let s : State := { State.reset with pw := { stage := 6, railsOff := [] } }
     (s.cxl 1).link = 0 ∧ s.mayTrainCxl 1 = true ∧ 2 ∈ [8, 4, 2] ∧ 32 ∈ [64, 32] ∧ 1 < 2) := by decide +kernel
theorem witness_CxlPort_2 :
      (((hosted {}).cxl 0).up = true) := by decide +kernel
theorem witness_CxlPort_3 :
      (let s : State := { State.reset with cxls := [(0, { link := 1, ide := 3, sessions := [{ id := 1, secret := [], finished := true }] })] }
       bit (s.cxl 0).ide 1 = true ∧ (s.cxl 0).up = true ∧ (s.cxl 0).sessions.any (·.finished) = true) := by decide +kernel


theorem witness_MailboxCommands_1 :
    ((hosted {}).mailOpen 0 = true) := by decide +kernel
theorem witness_MailboxCommands_2 :
      (let p : Bytes := [0, 0x10, 0, 0, 0, 0, 0, 0]
       p.length = 8 ∧ field p 3 1 = 0 ∧ field p 4 4 = 0 ∧ 8 ≤ p.length ∧ p.length = 8 + field p 4 4 ∧ ([] : Bytes).length ≠ 8
         ∧ (hosted {}).writeStatus true (field p 0 2) (field p 2 1) (p.drop 8) ≠ 0) := by decide +kernel
theorem witness_MailboxCommands_3 :
      (let p : Bytes := [0x10, 0x30, 0, 0, 1, 0, 0, 0, 1]
       8 ≤ p.length ∧ field p 3 1 = 0 ∧ p.length = 8 + field p 4 4 ∧ (hosted {}).writeStatus true (field p 0 2) (field p 2 1) (p.drop 8) = 0
         ∧ answersFirst (field p 0 2) = false) := by decide +kernel
theorem witness_MailboxCommands_4 :
      (5 ∉ (Tab.get [] ((hosted {}).cxl 0).logs 0).map (·.1)) := by decide +kernel
theorem witness_MailboxCommands_5 :
      (([0, 0, 0, 0] : Bytes).length = 4) := by decide +kernel


/-- CXL port 0 is up with its SPDM exchange at a stage. -/
def spdmAt (k : Nat) : State := { State.reset with cxls := [(0, { link := 1, flit256 := 1, spdm := k, sessions := [{ id := 1, secret := [] }] })] }
theorem witness_DoeAndSpdm_1 :
    (∀ k ∈ [1, 2, 3], ((spdmAt k).cxl 0).up = true ∧ ((spdmAt k).cxl 0).spdm = k ∧ ((spdmAt k).cxl 0).sessions.any (fun e => e.id == 1) = true) := by decide +kernel
theorem witness_DoeAndSpdm_2 :
      (6 ∈ measurements ∧ 5 ≤ 5 ∧ 0 ≤ certChain.length) := by decide +kernel
theorem witness_DoeAndSpdm_3 :
      (let q : Bytes := List.replicate 40 0 ++ beBytes 32 p256G.1 ++ beBytes 32 p256G.2
       104 ≤ q.length ∧ onCurve (pointOf (slice q 40 64)) = true) := by decide +kernel


theorem witness_MailboxCommands_log : ∃ o n : Nat, o + n ≤ (Config.externalTable 2).length := ⟨0, 0, Nat.zero_le _⟩
theorem witness_MailboxCommands_past : ∃ o n : Nat, (Config.externalTable 2).length < o + n := ⟨_, 1, Nat.lt_succ_self _⟩

/-! Witnesses: management, functions, firmware, events, power and the machine. -/

/-- A frame: version, operation, TID 9, index, subindex, tagged or not, counter, data; its tag under key [1] and BOOTID 5. -/
def frame (v op index sub flags ctr : Nat) (data : Bytes) : Bytes :=
  let h := leBytes 1 v ++ leBytes 1 op ++ leBytes 2 9 ++ leBytes 2 index ++ leBytes 1 sub ++ leBytes 1 flags ++ leBytes 2 0 ++ leBytes 2 data.length
    ++ leBytes 8 ctr
  h ++ jendyTag [1] 5 0 (h ++ List.replicate 16 0 ++ data) ++ data
/-- The module is ready, with management key [1], BOOTID 5, counter 6 and a held answer to counter 6. -/
def managed : State :=
  { State.reset with pw := { stage := 6, step := 6, railsOff := [] }, nv := { mgmtKey := some [1] }, sec := { bootid := 5, mgmtCtr := 6 }
                     mgmt := { held := [(6, 9, [3])] } }
theorem witness_ManagementPort_1 :
    (managed.mcUp = true) := by decide +kernel
theorem witness_ManagementPort_2 :
      (∀ op ∈ [1, 2, 3], field (frame 2 op 0 0 0 0 []) 1 1 = op ∧ field (frame 2 op 0 0 0 0 []) 0 1 ≠ 1) := by decide +kernel
theorem witness_ManagementPort_3 :
      (∀ op ∈ [1, 2, 3], field ([1, BitVec.ofNat 8 op] : Bytes) 1 1 = op ∧ field ([1, BitVec.ofNat 8 op] : Bytes) 0 1 = 1
      ∧ jendyMalformed [1, BitVec.ofNat 8 op] = true) := by decide +kernel
theorem witness_ManagementPort_4 :
      (∀ op ∈ [1, 2, 3], field (frame 1 op 0x1000 0 0 0 []) 1 1 = op ∧ field (frame 1 op 0x1000 0 0 0 []) 0 1 = 1
      ∧ jendyMalformed (frame 1 op 0x1000 0 0 0 []) = false ∧ bit (field (frame 1 op 0x1000 0 0 0 []) 7 1) 0 = false) := by decide +kernel
theorem witness_ManagementPort_5 :
      (managed.nv.mgmtKey ≠ none) := by decide +kernel
theorem witness_ManagementPort_6 :
      (∀ x ∈ [((1 : Nat), ([] : Bytes)), (2, [1])], let f := frame 1 x.1 0x3010 0 1 6 x.2
       field f 1 1 = x.1 ∧ field f 0 1 = 1 ∧ jendyMalformed f = false ∧ bit (field f 7 1) 0 = true ∧ managed.nv.mgmtKey = some [1]
         ∧ jendyTag [1] managed.sec.bootid 0 f = slice f 20 16
         ∧ (managed.mgmt.held.find? fun h => h.1 == field f 12 8 && h.2.1 == field f 2 2) = some (6, 9, [3])) := by decide +kernel
theorem witness_ManagementPort_7 :
      (∀ x ∈ [((1 : Nat), ([] : Bytes)), (2, [1])], let f := frame 1 x.1 0x3010 0 1 7 x.2
       field f 1 1 = x.1 ∧ field f 0 1 = 1 ∧ jendyMalformed f = false ∧ bit (field f 7 1) 0 = true
         ∧ jendyTag [1] managed.sec.bootid 0 f = slice f 20 16
         ∧ (managed.mgmt.held.find? fun h => h.1 == field f 12 8 && h.2.1 == field f 2 2) = none ∧ managed.sec.mgmtCtr < field f 12 8) := by decide +kernel
theorem witness_ManagementPort_8 :
      (let f := frame 1 2 0x3010 0 1 7 [1]
       managed.mailboxOnly (field f 4 2) (field f 6 1) = false ∧ (managed.countJendy false).writeStatus false (field f 4 2) (field f 6 1)
         (slice f 36 (field f 10 2)) = 0 ∧ answersFirst (field f 4 2) = false) := by decide +kernel
theorem witness_ManagementPort_9 :
      (managed.writeStatus true 0x3010 0 [1] = 0 ∧ managed.writeStatus true 0x3010 0 [2] ≠ 0) := by decide +kernel
theorem witness_ManagementPort_10 :
      ((hosted {}).hostOpen 0 = true ∧ (2 ^ 20 - 8) % 8 = 0 ∧ (List.replicate 8 (0 : Byte)).length = 8) := by decide +kernel
theorem witness_ManagementPort_reads :
      ((hosted {}).hostOpen 0 = true ∧ ((hosted {}).cxl 0).up = true ∧ (2 ^ 20 - 4) % 4 = 0 ∧ barExternal (2 ^ 20 - 4) = false
      ∧ barExternal 0 = false ∧ 6 % 4 ≠ 0) := by decide +kernel
theorem witness_ManagementPort_functions : ∀ r ∈ [FuncReg.serialNumber, .bar 2, .aerStatus, .hdmControl],
    (let s : State := { hosted {} with pw := { stage := 6 } }
     (s.cxl 0).up = true ∧ s.retriesConfig r = false ∧ s.hostBlocked 0 = false ∧ (s.funcData 0 r).isSome = true) := by decide +kernel


theorem witness_FunctionEnables_1 :
    (∀ v ∈ [(0 : Byte), 1], managed.serves 0x3010 = true ∧ managed.serves 0x3012 = true ∧ managed.serves 0x6010 = true
      ∧ managed.serves 0x2001 = true ∧ (funcWrite managed.pw.sramScrub v.toNat).isSome = true ∧ (funcWrite managed.pw.tierScrub v.toNat).isSome = true
      ∧ managed.computeBusy v.toNat = false ∧ (funcWrite managed.pw.compute v.toNat).isSome = true
      ∧ (funcWrite (managed.port 31).func v.toNat).isSome = true ∧ funcWrite (managed.port 31).func v.toNat ≠ some 3) := by decide +kernel
theorem witness_FunctionEnables_2 :
      (State.reset.computeBusy 1 = true) := by decide +kernel
theorem witness_FunctionEnables_3 :
      (∀ k ∈ [1, 2, 3, 4], let s : State := { managed with ports := [(31, { func := k })], pw := { stage := 6, step := 6, railsOff := [], compute := k, sramScrub := k, tierScrub := k } }
       (s.port 31).func = k ∧ s.portPower 31 = true ∧ s.pw.startFail = 0 ∧ s.serves 0x2001 = true ∧ s.pw.compute = k ∧ s.pw.sramScrub = k
         ∧ s.pw.tierScrub = k ∧ s.pw.stage = 6) := by decide +kernel


theorem witness_KeeperAndFirmware_1 :
    (let s : State := { managed with pw := { stage := 6, step := 6, railsOff := [], vinOut := true } }
     s.pw.keeper = false ∧ s.powered = true ∧ s.serves 0x5004 = true ∧ s.pw.vinOut = true ∧ s.serves 0x6012 = true ∧ s.pw.failWait = false
       ∧ s.nv.spareApply = 0 ∧ s.serves 0x8017 = true ∧ s.serves 0x8032 = true ∧ s.sec.fwStatus ≠ 1 ∧ s.sec.fwStatus ≠ 2 ∧ s.pw.on = true
       ∧ s.pw.step ≠ 1 ∧ s.sec.zeroizing = false) := by decide +kernel
theorem witness_KeeperAndFirmware_2 :
      (∀ k ∈ [1, 2], let s : State := { hosted {} with sec := { bootid := 5, fwStatus := k } }
       s.serves 0x8032 = true ∧ s.sec.fwStatus = k ∧ (s.cxl 0).up = true) := by decide +kernel
theorem witness_KeeperAndFirmware_3 :
      (({ State.reset with pw := { on := false } } : State).pw.on = false) := by decide +kernel


theorem witness_EventController_1 :
    ((sourceClass 0 2).isSome = true ∧ sourceLevel 2 = false ∧ (sourceClass 1 128).isSome = true) := by decide +kernel
theorem witness_EventController_2 :
      ((sourceClass 0 8).isSome = true ∧ sourceLevel 8 = true ∧ bankBit (State.reset.evc 0).level 8 = false) := by decide +kernel
theorem witness_EventController_3 :
      (let s : State := { State.reset with evcs := [(0, { level := [(0, 2 ^ 8)] })] }
       bankBit (s.evc 0).level 8 = true ∧ bankBit (s.evc 0).stuck 8 = false ∧ 8 ∈ [6, 7, 8]) := by decide +kernel
theorem witness_EventController_4 :
      (let e : Evc := { pend := [(2, 2 ^ 63)] }
       ((e.open 2) &&& ~~~((State.reset.evc 0).open 2) = (1 : BitVec 64) <<< 63) ∧ (State.reset.evc 0).open 2 &&& ~~~((State.reset.evc 0).open 2) = 0) := by decide +kernel


theorem witness_PowerEvents_1 :
    (∀ d ∈ [true, false], let s : State := { State.reset with pw := { on := false, disconnected := d } }
     s.pw.on = false ∧ s.pw.shutdown = false ∧ s.pw.disconnected = d) := by decide +kernel
theorem witness_PowerEvents_2 :
      (∀ k ∈ [1, 2, 3, 4, 5, 6], let s : State := { State.reset with pw := { step := k } }
       s.pw.on = true ∧ s.pw.failWait = false ∧ s.pw.mrstWait = false ∧ s.pw.stage ≠ 6 ∧ s.pw.step = k ∧ s.pw.startFail = 0) := by decide +kernel
theorem witness_PowerEvents_3 :
      (({ State.reset with pw := { failWait := true } } : State).pw.failWait = true ∧ State.reset.pw.failWait = false) := by decide +kernel
theorem witness_PowerEvents_4 :
      (∀ r ∈ [1, 13, 14, 25], managed.pw.on = true ∧ 1 ≤ r ∧ r ≤ 25 ∧ managed.pw.railsOff.contains r = false) := by decide +kernel
theorem witness_PowerEvents_5 :
      (managed.starting = false ∧ managed.pw.keeper = false ∧ managed.powered = true ∧ managed.pw.mrst = false
      ∧ managed.pw.railsOff.contains (14 + 3) = false) := by decide +kernel


theorem witness_Throttling_1 :
    (managed.pw.on = true ∧ managed.pw.keeper = false ∧ managed.maxPower < managed.maxPower + 1) := by decide +kernel
theorem witness_Throttling_keeper :
      (let s : State := { managed with pw := { stage := 6, step := 6, railsOff := [], keeper := true } }
       s.pw.on = true ∧ s.pw.keeper = true ∧ s.pw.railsOff.contains (13 + 12) = false) := by decide +kernel
theorem witness_Throttling_2 :
      (let s : State := { managed with pw := { stage := 6, step := 6, railsOff := [], compute := 2 } }
       s.pw.compute = 2 ∧ s.pw.railsOff.contains (14 + 3) = false) := by decide +kernel


/-- Core 0 holds one byte, and a NOP that issues waits in front of the queue. -/
def holding : State := { ready (.nop 0 0) with cores := [(0, { sram := [(5, 1)] })], pending := [.nop 0 0] }
theorem witness_MemoryFormKept : MemoryForm holding ∧ ∃ t, step holding = .next t := by
  refine ⟨⟨fun e he => ?_, by rfl⟩, _, rfl⟩
  simp [holding] at he
  subst he
  decide
theorem witness_MemoryFormAtReset_1 :
    (State.reset.cores = []) := by decide +kernel
theorem witness_MemoryFormAtReset_2 :
    (Memory.wf State.reset.tier.mem = true) := by decide +kernel

theorem witness_LineReadsBack : Memory.wf ({} : Core).sram = true := by decide
theorem witness_OperationsDecodeAsEncoded_1 :
    ((Instr.add 2047 31 31 31).coreOf = some 2047) := by decide +kernel
theorem witness_OperationsDecodeAsEncoded_2 :
    (opValid (.add 2047 31 31 31) = true) := by decide +kernel
theorem witness_OperationsDecodeAsEncoded_3 :
     ((encodeC (.add 2047 31 31 31)).isSome = true) := by decide +kernel
theorem witness_OperationsDecodeAsEncoded_4 :
    (opValid (.lds 0 true 31 0xFFFFF) = true) := by decide +kernel
theorem witness_OperationsDecodeAsEncoded_5 :
    ((encodeM (.lds 0 true 31 0xFFFFF)).isSome = true) := by decide +kernel
theorem witness_OperationsDecodeAsEncoded_6 :
     ((encodeX (.mxstream 0 1 1 true 0 127 0)).isSome = true) := by decide +kernel
theorem witness_OperationsDecodeAsEncoded_7 :
    ((encodeV (.vadd 0 1 2 3 1)).isSome = true) := by decide +kernel
theorem witness_OperationsDecodeAsEncoded_8 :
    ((encodeL (.send 0 31 1023)).isSome = true) := by decide +kernel

theorem witness_OperationsKeepOtherCores : (slotOf (.add 0 1 2 3)).isSome = true ∧ (Instr.add 0 1 2 3).coreOf = some 0
    ∧ (∀ cl, Instr.add 0 1 2 3 ≠ .hurdle 0 cl) ∧ (ready (.add 0 1 2 3)).mustWait 0 (.add 0 1 2 3) = false ∧ 1 ≠ 0
    ∧ ∃ t, exec (.add 0 1 2 3) (ready (.add 0 1 2 3)) = .next t := ⟨rfl, rfl, fun _ => nofun, by decide +kernel, by decide, _, rfl⟩
/-- A branch in a shadow, due at core 0 with its checks not yet run. -/
def shadowedBranch : State :=
  { State.reset with cores := [(0, { run := .run, shadow := some { left := 5, taken := false, target := 0 }, regions := [(0, region 0)], queue := [(64, bundleOf (.br 0 1))] })] }
theorem witness_BranchInShadowFaults_1 :
    ((branches (.br 0 1)).isSome = true ∧ (shadowedBranch.core 0).shadow.isSome = true) := by decide +kernel
theorem witness_BranchInShadowFaults_2 :
      ((decodeBundle 0 (bundleOf (.br 0 1))).slots = [some (.br 0 1), some (.nop 0 1), some (.nop 0 2), some (.nop 0 3), some (.nop 0 4)]) := by decide +kernel
theorem witness_BranchInShadowFaults_3 :
      (0 < shadowedBranch.nCores ∧ (shadowedBranch.core 0).run = .run ∧ (shadowedBranch.core 0).ended = false ∧ (shadowedBranch.core 0).holds = []
      ∧ (shadowedBranch.core 0).hurdles = [] ∧ shadowedBranch.throttled 0 = false ∧ (shadowedBranch.core 0).dueNow = []
      ∧ (shadowedBranch.core 0).cleared = false ∧ (shadowedBranch.core 0).issued = []
      ∧ (shadowedBranch.core 0).queue = [(64, bundleOf (.br 0 1))] ∧ shadowedBranch.bundleFaults 0 0 64 (bundleOf (.br 0 1)) = []) := by decide +kernel

theorem witness_ActiveLevelsStayPending : (let s : State := { State.reset with evcs := [(1, { level := [(0, 2 ^ 7)], mask := [(15, 2 ^ 63)] })] }
     (Tab.get 0 (s.evc 1).level 0).getLsbD 7 = true ∧ (s.evc 1).masked (64 * 15 + 63) = true) := by decide +kernel
theorem witness_StepRunsTheFrontCommand_1 :
    (({ State.reset with pending := [.nop 0 0] } : State).pending = [.nop 0 0]) := by decide +kernel
theorem witness_StepRunsTheFrontCommand_2 :
    (State.reset.pending = []) := by decide +kernel


/-! The spec's worked examples and encodings. The expected values are the spec's own, or published vectors of the named algorithms. -/

/-- The bundle of the worked example after R178: its four 64-bit words. -/
theorem test_bundle_words : decodeBundle 5 0x011E0001781000000000000000068207C000C408028000120000448400000040 =
    { last := false, reserved := false
      slots := [some (.addi 5 4 4 64), some (.ldv 5 false 5 0x120000), some (.mxstream 5 1 4 false 16 31 0xC4), some (.nop 5 3)
               , some (.recv 5 7 true 0x17810)] } := by decide +kernel
/-- The slot values of the same example. -/
theorem test_bundle_slots : encodeC (.addi 5 4 4 64) = some 0x448400000040 ∧ encodeM (.ldv 5 false 5 0x120000) = some 0x08028000120000
    ∧ encodeX (.mxstream 5 1 4 false 16 31 0xC4) = some 0x068207C000C4 ∧ encodeL (.recv 5 7 true 0x17810) = some 0x11E00017810 := by decide +kernel
/-- Check bytes of a line with 0x01 in byte 0 (example after R105). -/
theorem test_check_bytes : checkBytes (1 :: List.replicate 63 0) = (0x08, 0x0E, 0x07) := by decide +kernel
/-- The same byte read back wrong: S0 = 0x01, S1 = 0x08, S2 = 0x40 give symbol 3. -/
theorem test_syndromes : syndrome 0 [(3, 1)] = 1 ∧ syndrome 1 [(3, 1)] = 8 ∧ syndrome 2 [(3, 1)] = 0x40
    ∧ eccClassify [(3, 1)] = .correctable 3 1 := by decide +kernel
/-- Quantizing 13.0, −0.7, 2.5, 9.0 to MXFP4 (example after R137): elements and scale, NX set. -/
theorem test_quantize_mxfp4 : toMxBlock 8 ([0x41500000, 0xBF333333, 0x40200000, 0x41100000].map (decodeElem 0)) [none, none, none, none]
    = ({ scale := 0x80, elems := [7, 9, 2, 6] }, 1) := by decide +kernel
/-- An MX block of one element and a scale. -/
def one (x scale : Nat) : MxBlock := { scale, elems := [x] }
/-- Four contributions in one column under window base 0, and under −2 (example after R158). -/
theorem test_four_contributions :
    (let cs := [blockPartial 4 4 (one 0x70 0x84) (one 0x70 0x84), blockPartial 4 4 (one 0x38 0x7F) (one 0x38 0x7F)
                , blockPartial 4 4 (one 0x38 0x7F) (one 0x38 0x7F), blockPartial 4 4 (one 0x34 0x7F) (one 0x38 0x7F)]
     cs.foldl (addContrib 0) {} = { sum := 0x1000002, flags := 1, count := 4 }
     ∧ cs.foldl (addContrib (-2)) {} = { sum := 0x400000B, flags := 0, count := 4 }
     ∧ joinCol ((cs.take 2).foldl (addContrib 0) {}) ((cs.drop 2).foldl (addContrib 0) {}) = { sum := 0x1000002, flags := 1, count := 4 }) := by
  decide +kernel
/-- ACCOUT's value of that column rounded to FP32: 0x4B80_0001 without a flag. -/
theorem test_accout_fp32 : roundTo 0 none (colVal 0 { sum := 0x1000002, flags := 1, count := 4 }) = (0x4B800001, 0) := by decide +kernel
/-- Core B's long-sum word of the second grouping, byte by byte. -/
theorem test_long_sum_word : bvBytes 32 (Lsw.toBits { col := { sum := 1, flags := 1, count := 2 }, wexp := 0 })
    = 1 :: List.replicate 23 0 ++ [0, 0, 1, 0, 2, 0, 0, 0] := by decide +kernel
/-- Column 19 of the GEMV example: 2.0 × −1.25 × 2 at window base −20. -/
theorem test_gemv_column : addContrib (-20) {} (blockPartial 4 4 (one 0x40 0x7F) (one 0xBA 0x80)) = { sum := -0x500000, flags := 0, count := 1 } := by
  decide +kernel
/-- Bank cycles and lines of that GEMV: scales of group 1 at i + 34, beat 32 at i + 35 from 0x4400 past the start. -/
theorem test_gemv_schedule : gemvBank 4 0 = 2 ∧ gemvBank 4 31 = 33 ∧ gemvBank 4 32 = 35 ∧ gemvBank 4 39 = 42 ∧ gemvLine 4 0 = 8
    ∧ 64 * gemvLine 4 32 = 0x4400 := by decide +kernel
/-- The counter block of the generator example. -/
theorem test_generator_block : genBlock 0x203 69 5 4 0 3 = [3, 2, 0, 0, 0, 0, 0x45, 0, 5, 0, 4, 0, 3, 0, 0, 0] := by decide +kernel
/-- Its rounding: 0x3FA6_6666 becomes 0x3FA7 from the draw 0x999A on. -/
theorem test_stochastic_rounding : (roundTo 1 (some 0x999A) (decodeElem 0 0x3FA66666)).1 = 0x3FA7
    ∧ (roundTo 1 (some 0x9999) (decodeElem 0 0x3FA66666)).1 = 0x3FA6 := by decide +kernel
/-- The ACK of the replay example: 26 bits with TYPE 1. -/
theorem test_ack_message : msgAck * 2 ^ 23 + ({ expect := 0x2FFFE, retry := true, nakid := 4 } : Port).ackBody = 0xFFFF60 := by decide +kernel
/-- The servo of the exchange example: θ = 0.400 ns over 125,000 ns, from RATE = FREQ = 1,099,512. -/
theorem test_servo : (let t : TimeUnit := { sa := 1000000, off := 1000000000 * 2 ^ 32, rate := 1099512, freq := 1099512 }
    let u := t.servo 2003200 (roundDiv (40 * 4 * 2 ^ 32) 10) 125000
    u.freq = 1319414 ∧ u.rate = 4837851) := by decide +kernel
/-- Its network time at T1: 50,000.050 ns after OFF. -/
theorem test_network_time : (({ sa := 1000000, off := 1000000000 * 2 ^ 32, rate := 1099512, freq := 1099512 } : TimeUnit).nt 2000000)
    = 1000050000 * 2 ^ 32 + 50000 * 2 ^ 32 * 1099512 / 2 ^ 40 := by decide +kernel
/-- The stored block header of the shard example, and its sizes. -/
theorem test_block_header : (let v := field [0, 0, 0x20, 0x04, 0x80, 0x10, 1, 0] 0 8
    v = 0x0001108004200000 ∧ bits v 47 31 = 8448 ∧ bits v 30 13 = 8448 ∧ bits v 55 48 = 1 ∧ bits v 63 56 = 0 ∧ rowBytes 4 128 = 132) := by
  decide +kernel
/-- Row APPEND of the KV example: row 306 at 0x31_3200. -/
theorem test_kv_row : 64 * ((0xC000 : Nat) + 4 * 306) = 0x313200 := by decide
/-- The power throttle of the worked example: 8 up above the limit, still between 98 % of it and it, 4 down below. -/
theorem test_power_duty : dutyStep 32 (decide (2200 < 2219)) (decide (100 * 2219 < 98 * 2200)) = 40
    ∧ dutyStep 40 (decide (2200 < 2173)) (decide (100 * 2173 < 98 * 2200)) = 40 ∧ dutyStep 224 true false = 224 ∧ dutyStep 3 false true = 0 := by
  decide +kernel
/-- CRC-32 of "123456789" and CRC-8 of the same (published check values). -/
theorem test_crcs : crc32 (ascii "123456789") = 0xCBF43926 ∧ crc8 (ascii "123456789") = 0xF4 := by decide +kernel
/-- SHA-256 of "abc" (FIPS 180). -/
theorem test_sha256 : beNat (sha256 (ascii "abc")) = 0xBA7816BF8F01CFEA414140DE5DAE2223B00361A396177A9CB410FF61F20015AD := by decide +kernel
/-- The S-box of AES at 0x53 and 0x00 (FIPS 197). -/
theorem test_aes_sbox : aesSbox 0x53 = 0xED ∧ aesSbox 0 = 0x63 := by decide +kernel
/-- The base point of P-256 lies on the curve, and its double has the published x-coordinate. -/
theorem test_p256 : onCurve p256G = true
    ∧ (ecAdd (some p256G) (some p256G)).map (·.1) = some 0x7CF27B188D034F7E8A52380304B51AC3C08969E277F21B35A60B48FC47669978 := by decide +kernel
/-- Integer compare and shift corners: CMPLT of −1 and 0, SAR of −8 by 65 (a shift count modulo 64, R220). -/
theorem test_scalar_corners :
    (scalarRegs (.cmplt 0 1 2 3)).map (fun x => x.2.2.2 { sreg := [(2, -1)] }) = some 1
    ∧ (scalarRegs (.cmpltu 0 1 2 3)).map (fun x => x.2.2.2 { sreg := [(2, -1)] }) = some 0
    ∧ (scalarRegs (.sar 0 1 2 3)).map (fun x => x.2.2.2 { sreg := [(2, -8), (3, 65)] }) = some (-4) := by decide +kernel
/-- VIADD of a lane wraps, VSAR keeps the sign (R208). -/
theorem test_lane_corners : (intLanes 1 (fun _ x y => x + y) 0xFFFF 1).extractLsb' 0 32 = 0xFF00
    ∧ (intLanes 0 (fun w x y => x.sshiftRight (y.toNat % w)) 0x80000000 4).extractLsb' 0 32 = 0xF8000000 := by decide +kernel
/-- A line with its error laid over it (R102): symbol 3 is data byte 0, check symbols leave the data. -/
theorem test_overlay : overlay 0 [(3, 1)] = 1 ∧ overlay 0 [(2, 1)] = 0 := by decide +kernel
/-- 2 ^ 1 = 2 (R211): one ulp above is within the bound of EXP2 and two are not. -/
theorem test_exp2_bound : vtrWithin 0 false 1 0 0x40000001 = true ∧ vtrWithin 0 false 1 0 0x40000002 = false := by decide +kernel
/-- sin 1 = 0.84147098 (R211): the value rounded to FP32 is within the bound, and three ulp above it is not. -/
theorem test_sin_bound : vtrWithin 4 false 1 0 0x3F576AA4 = true ∧ vtrWithin 4 false 1 0 0x3F576AA7 = false := by decide +kernel

end Sys2Proof.Tests
end

section
/-! SUPPORT. The vector operations of the V slot at issue, and the lanes of a packed register. -/

namespace Sys2Proof.Machine
open Sys2Proof.Spec

/-! A list of `w`-bit elements packed from bit 0: one digit in base `2 ^ w` per element. -/

@[simp] theorem pack_zero_nil (w : Nat) : pack 0 w [] = 0 := rfl

theorem pack_zero_cons (w x : Nat) (l : List Nat) : pack 0 w (x :: l) = x % 2 ^ w + 2 ^ w * pack 0 w l := by
  simp only [pack, List.foldr_cons, Nat.pow_zero, Nat.mul_one]

theorem pack_zero_lt (w : Nat) (l : List Nat) : pack 0 w l < 2 ^ (w * l.length) := by
  induction l with
  | nil => exact Nat.two_pow_pos _
  | cons x l ih =>
    have hx : x % 2 ^ w < 2 ^ w := Nat.mod_lt _ (Nat.two_pow_pos w)
    rw [pack_zero_cons, List.length_cons, Nat.mul_succ, Nat.add_comm (w * l.length), Nat.pow_add]
    calc x % 2 ^ w + 2 ^ w * pack 0 w l < 2 ^ w * (pack 0 w l + 1) := by rw [Nat.mul_add]; omega
      _ ≤ 2 ^ w * 2 ^ (w * l.length) := Nat.mul_le_mul_left _ ih

/-- Element `j` of a packed list. -/
theorem pack_zero_digit (w : Nat) (l : List Nat) (j : Nat) : pack 0 w l / 2 ^ (w * j) % 2 ^ w = l.getD j 0 % 2 ^ w := by
  induction l generalizing j with
  | nil => rw [pack_zero_nil, Nat.zero_div, Nat.zero_mod, List.getD_nil, Nat.zero_mod]
  | cons x l ih =>
    rw [pack_zero_cons]
    cases j with
    | zero => rw [Nat.mul_zero, Nat.pow_zero, Nat.div_one, Nat.add_mul_mod_self_left, Nat.mod_mod, List.getD_cons_zero]
    | succ j =>
      have htail : (x % 2 ^ w + 2 ^ w * pack 0 w l) / 2 ^ w = pack 0 w l := by
        rw [Nat.add_mul_div_left _ _ (Nat.two_pow_pos w), Nat.mod_div_self, Nat.zero_add]
      rw [Nat.mul_succ, Nat.add_comm (w * j), Nat.pow_add, ← Nat.div_div_eq_div_mul, htail, ih, List.getD_cons_succ]

/-- Lane `j` of a word of `m` bits that holds a packed list. -/
theorem lane_ofNat_pack (m w : Nat) (l : List Nat) (j : Nat) (hl : w * l.length ≤ m) :
    ((BitVec.ofNat m (pack 0 w l)).extractLsb' (w * j) w).toNat = l.getD j 0 % 2 ^ w := by
  have hfit : pack 0 w l < 2 ^ m := Nat.lt_of_lt_of_le (pack_zero_lt w l) (Nat.pow_le_pow_right Nat.two_pos hl)
  rw [BitVec.extractLsb'_toNat, BitVec.toNat_ofNat, Nat.mod_eq_of_lt hfit, Nat.shiftRight_eq_div_pow, pack_zero_digit]

/-- Every lane of a word that holds one element, repeated, is that element. -/
theorem lane_ofNat_pack_replicate (m w x j : Nat) (hj : j < m / w) :
    ((BitVec.ofNat m (pack 0 w (List.replicate (m / w) x))).extractLsb' (w * j) w).toNat = x % 2 ^ w := by
  have hfit : w * (List.replicate (m / w) x).length ≤ m := by rw [List.length_replicate]; exact Nat.mul_div_le m w
  rw [lane_ofNat_pack m w _ j hfit, List.getD_eq_getElem?_getD, List.getElem?_replicate_of_lt hj, Option.getD_some]

/-- The lane widths of R209: 32 bits for FMT 0, 16 for FMT 1 and 8 for FMT 2. -/
theorem elemBits_toNat_of_le_two (fmt : BitVec 4) (h : fmt ≤ 2) :
    elemBits fmt.toNat = if fmt = 0 then 32 else if fmt = 1 then 16 else 8 := by
  revert fmt; decide

/-! Issue in the lanes unit. -/

/-- The bookkeeping of an issue, as the statements write it: no event is in flight yet (R43, R44). -/
theorem State.take_eq_after (s : State) (n k : Nat) (i : Instr) (sp : OpSpec) (hslot : slotOf i = some k)
    (hspec : s.spec n (s.runSlot.getD 0) i = sp) : s.take n i = after s n k sp.units sp.resv [] := by
  simp only [State.take, hslot, hspec, after, booked, State.modCore_eq, Option.getD_some, List.map_nil, List.append_nil, List.foldl_nil]

@[simp] theorem State.core_after (s : State) (n k : Nat) (us : List (Nat × Nat)) (rs : List (Nat × Nat × Nat)) (fl : List (Nat × Act)) :
    (after s n k us rs fl).core n = booked (s.core n) k us rs fl := State.core_setCore_self s n _

/-- A launch adds one event in flight to those of the issue (R42, R83). -/
theorem State.launch_after (s : State) (n k l : Nat) (us : List (Nat × Nat)) (rs : List (Nat × Nat × Nat)) (fl : List (Nat × Act))
    (a : Act) : (after s n k us rs fl).launch n l a = after s n k us rs (fl ++ [(l, a)]) := by
  simp only [after, State.launch_setCore, booked, Core.fly, List.append_assoc, List.map_append, List.map_cons, List.map_nil,
    List.foldl_append, List.foldl_cons, List.foldl_nil]

/-- An operation of the lanes unit that issues: its result, of the registers at issue, lands in D after its latency (R42, R44, R47). -/
theorem State.issueVector_lanes (s : State) (n l k : Nat) (i : Instr) (d : BitVec 5) (v : Core → Block) (hi : Issues s n i)
    (hslot : slotOf i = some 3) (hspec : s.spec n (s.runSlot.getD 0) i = lanesSpec d l k)
    (hv : ∀ c c' : Core, c.sreg = c'.sreg → c.vreg = c'.vreg → v c = v c') :
    s.issueVector n i l d v
      = .next (after s n 3 [(4, k)] [(1, d.toNat, l)] [(l, .vreg d.toNat (v (s.core n)) 0x7FFFC0)]) := by
  obtain ⟨hcan, hdue⟩ := hi
  have hval : v (booked (s.core n) 3 [(4, k)] [(1, d.toNat, l)] []) = v (s.core n) := hv _ _ rfl rfl
  have htake : s.take n i = after s n 3 [(4, k)] [(1, d.toNat, l)] [] := State.take_eq_after s n 3 i _ hslot hspec
  rw [State.issueVector, State.issueOp_ready s n i _ hcan hdue, htake, State.core_after, hval, State.launch_after, List.nil_append]

/-- The register that VBCAST gives: the low bits of `x` in every lane of the format (R209). -/
def bcastBlock (fmt : BitVec 4) (x : BitVec 64) : Block :=
  let w := elemBits fmt.toNat
  BitVec.ofNat 2048 (pack 0 w (List.replicate (2048 / w) (x.toNat % 2 ^ w)))

theorem lane_bcastBlock (fmt : BitVec 4) (x : BitVec 64) (j : Nat) (hj : j < 2048 / elemBits fmt.toNat) :
    ((bcastBlock fmt x).extractLsb' (elemBits fmt.toNat * j) (elemBits fmt.toNat)).toNat = x.toNat % 2 ^ elemBits fmt.toNat := by
  rw [bcastBlock, lane_ofNat_pack_replicate _ _ _ j hj, Nat.mod_mod]

/-- VBCAST issues in the lanes unit with latency 2 (R47, R209). -/
theorem exec_vbcast_of_issues (s : State) (n : Nat) (d a : BitVec 5) (fmt : BitVec 4) (hi : Issues s n (.vbcast n d a fmt)) :
    exec (.vbcast n d a fmt) s = .next (after s n 3 [(4, 1)] [(1, d.toNat, 2)]
      [(2, .vreg d.toNat (bcastBlock fmt ((s.core n).s a)) 0x7FFFC0)]) :=
  State.issueVector_lanes s n 2 1 _ d (fun c => bcastBlock fmt (c.s a)) hi rfl rfl
    fun c c' hs _ => by simp only [Core.s, hs]

/-- Settles O13: the issue rule of the lanes unit, and the lanes of a register packed with one element repeated. -/
theorem vbcastCopiesTheLowBits : Obligations.VbcastCopiesTheLowBits := by
  unfold Obligations.VbcastCopiesTheLowBits
  intro s n d a fmt hfmt hi
  rw [← elemBits_toNat_of_le_two fmt hfmt]
  exact ⟨_, exec_vbcast_of_issues s n d a fmt hi, fun j hj => lane_bcastBlock fmt _ j hj⟩

end Sys2Proof.Machine
end

section
/-! SUPPORT. The scalar operations of the C slot at issue, and their values as the statements write them. -/

namespace Sys2Proof.Machine
open Sys2Proof.Spec

/-! Values (R165, R220). -/

theorem flag64_decide (p : Prop) [Decidable p] : flag64 (decide p) = if p then 1 else 0 := by
  simp only [flag64, decide_eq_true_eq]

/-- The sign extension keeps the signed number. -/
theorem toInt_signExtend_64 (imm : BitVec 32) : (imm.signExtend 64).toInt = imm.toInt :=
  BitVec.toInt_signExtend_of_le (by decide)

theorem eq_signExtend_iff_toInt_eq (x : BitVec 64) (imm : BitVec 32) : x = imm.signExtend 64 ↔ x.toInt = imm.toInt := by
  rw [← BitVec.toInt_inj, toInt_signExtend_64]

/-- The sign extension does not change a shift count modulo 64: it adds a multiple of 2^32. -/
theorem toNat_signExtend_mod_64 (imm : BitVec 32) : (imm.signExtend 64).toNat % 64 = imm.toNat % 64 := by
  rw [BitVec.toNat_signExtend, BitVec.toNat_setWidth_of_le (by decide)]
  split <;> omega

/-- LIH's concatenation is the immediate times 2^32 plus the low half of A. -/
theorem append_low_half_eq_ofNat (imm : BitVec 32) (x : BitVec 64) :
    imm ++ x.extractLsb' 0 32 = BitVec.ofNat 64 (imm.toNat * 2 ^ 32 + x.toNat % 2 ^ 32) := by
  have hlow : x.toNat % 2 ^ 32 < 2 ^ 32 := Nat.mod_lt _ (Nat.two_pow_pos 32)
  have hfit : imm.toNat * 2 ^ 32 + x.toNat % 2 ^ 32 < 2 ^ 64 := by have := imm.isLt; omega
  apply BitVec.eq_of_toNat_eq
  rw [BitVec.toNat_append, BitVec.extractLsb'_toNat, Nat.shiftRight_zero, ← Nat.shiftLeft_add_eq_or_of_lt hlow,
    Nat.shiftLeft_eq, BitVec.toNat_ofNat, Nat.mod_eq_of_lt hfit]

/-- The low 48 bits of a count as a register holds them, zero-extended. -/
theorem ofNat_mod_eq_setWidth (t : Nat) : BitVec.ofNat 64 (t % 2 ^ 48) = (BitVec.ofNat 48 t).setWidth 64 :=
  BitVec.eq_of_toNat_eq (by simp only [BitVec.toNat_setWidth, BitVec.toNat_ofNat])

/-! Issue in the scalar unit. -/

/-- `i` is an operation of core `n` in the scalar unit: it writes `v` of the core at issue into sD after latency `l`, and `v` reads
nothing that the bookkeeping of an issue changes (R42, R44, R220). -/
structure IsScalar (i : Instr) (n : Nat) (d : BitVec 5) (l : Nat) (v : Core → BitVec 64) : Prop where
  exec_eq : ∀ s, exec i s = s.issueScalar n i l d v
  slot_eq : slotOf i = some 0
  spec_eq : ∀ (s : State) (k : Nat), s.spec n k i = scalarSpec d l
  value_booked : ∀ c k us rs, v (booked c k us rs []) = v c

/-- A scalar operation that issues: its result, of the core at issue, lands in sD after its latency (R42, R44, R47). -/
theorem IsScalar.exec_of_issues {i : Instr} {n l : Nat} {d : BitVec 5} {v : Core → BitVec 64} (h : IsScalar i n d l v) (s : State)
    (hi : Issues s n i) : exec i s = .next (after s n 0 [(0, 1)] [(0, d.toNat, l)] [(l, .sreg d.toNat (v (s.core n)))]) := by
  obtain ⟨hcan, hdue⟩ := hi
  have htake : s.take n i = after s n 0 [(0, 1)] [(0, d.toNat, l)] [] := State.take_eq_after s n 0 i _ h.slot_eq (h.spec_eq s _)
  rw [h.exec_eq, State.issueScalar, State.issueOp_ready s n i _ hcan hdue, htake, State.core_after, h.value_booked, State.launch_after,
    List.nil_append]

/-- The operations on two registers: a compare gives a flag, and every other value is the model's own. -/
theorem isScalar_of_scalarRegs {i : Instr} {n l : Nat} {d : BitVec 5} {v : Core → BitVec 64} (h : scalarRegs i = some (n, d, l, v)) :
    IsScalar i n d l v := by
  unfold scalarRegs at h
  split at h <;> cases h <;> refine ⟨fun s => ?_, rfl, fun _ _ => rfl, fun _ _ _ _ => rfl⟩
  case' h_9.refl | h_10.refl | h_11.refl => simp only [← flag64_decide] -- CMPEQ, CMPLT, CMPLTU
  all_goals rfl

/-- The immediate forms: beside the compares' flag, the shifts' count, CMPEQI, CMPLTI and LIH are spelt by the immediate itself. -/
theorem isScalar_of_scalarImms {i : Instr} {n l : Nat} {d : BitVec 5} {v : Core → BitVec 64} (h : scalarImms i = some (n, d, l, v)) :
    IsScalar i n d l v := by
  unfold scalarImms at h
  split at h <;> cases h <;> refine ⟨fun s => ?_, rfl, fun _ _ => rfl, fun _ _ _ _ => rfl⟩
  case' h_6.refl | h_7.refl | h_8.refl => simp only [← toNat_signExtend_mod_64] -- SHLI, SHRI, SARI
  case' h_9.refl => simp only [← eq_signExtend_iff_toInt_eq, ← flag64_decide] -- CMPEQI
  case' h_10.refl => simp only [← toInt_signExtend_64, ← flag64_decide] -- CMPLTI
  case' h_11.refl => simp only [← flag64_decide] -- CMPLTUI
  case' h_14.refl => simp only [← append_low_half_eq_ofNat] -- LIH
  all_goals rfl

/-- RDTALLY reads the low 48 bits of the tally (R20, R221). -/
theorem isScalar_rdtally (n : Nat) (d : BitVec 5) :
    IsScalar (.rdtally n d) n d 1 fun c => (BitVec.ofNat 48 c.tally).setWidth 64 := by
  refine ⟨fun s => ?_, rfl, fun _ _ => rfl, fun _ _ _ _ => rfl⟩
  simp only [← ofNat_mod_eq_setWidth]
  rfl

/-- Settles O1: each row of the two tables is an operation of the scalar unit, and such an operation issues with its value. -/
theorem scalarOps : Obligations.ScalarOps := by
  unfold Obligations.ScalarOps
  rintro s i n l d v (hregs | himms) hi
  · exact (isScalar_of_scalarRegs hregs).exec_of_issues s hi
  · exact (isScalar_of_scalarImms himms).exec_of_issues s hi

/-- Settles O2: RDTALLY is an operation of the scalar unit. -/
theorem rdtallyReadsTheTally : Obligations.RdtallyReadsTheTally := by
  unfold Obligations.RdtallyReadsTheTally
  intro s n d hi
  exact (isScalar_rdtally n d).exec_of_issues s hi

end Sys2Proof.Machine
end

section
/-! SUPPORT. Issue in any slot: the bookkeeping, the events put in flight, and the operations whose effect is only that. -/

namespace Sys2Proof.Machine
open Sys2Proof.Spec

/-- An operation that issues: its effect on the state after the bookkeeping (R42 to R44). -/
theorem State.issueOp_after {s : State} {n k : Nat} {i : Instr} {us : List (Nat × Nat)} {rs : List (Nat × Nat × Nat)} (eff : State → State)
    (hi : Issues s n i) (hslot : slotOf i = some k) (hus : (s.spec n (s.runSlot.getD 0) i).units = us)
    (hrs : (s.spec n (s.runSlot.getD 0) i).resv = rs) : s.issueOp n i eff = eff (after s n k us rs []) := by
  subst hus hrs
  rw [State.issueOp_ready s n i eff hi.1 hi.2, State.take_eq_after s n k i _ hslot rfl]

/-- Several events put in flight, one per element of a list (R42, R83). -/
theorem State.launches_after {α : Type} (s : State) (n k : Nat) (us : List (Nat × Nat)) (rs : List (Nat × Nat × Nat))
    (fl : List (Nat × Act)) (l : List α) (t : α → Nat) (a : α → Act) :
    l.foldl (fun u x => u.launch n (t x) (a x)) (after s n k us rs fl) = after s n k us rs (fl ++ l.map fun x => (t x, a x)) := by
  induction l generalizing fl with
  | nil => rw [List.foldl_nil, List.map_nil, List.append_nil]
  | cons x l ih => rw [List.foldl_cons, State.launch_after, ih, List.map_cons, List.append_assoc, List.singleton_append]

/-- An issue with nothing in flight leaves the registers as they are. -/
@[simp] theorem eaM_booked (c : Core) (k : Nat) (us : List (Nat × Nat)) (rs : List (Nat × Nat × Nat)) (fl : List (Nat × Act))
    (ea : BitVec 22) : eaM (booked c k us rs fl) ea = eaM c ea := rfl
@[simp] theorem eaUpdate_booked (c : Core) (k : Nat) (us : List (Nat × Nat)) (rs : List (Nat × Nat × Nat)) (fl : List (Nat × Act))
    (ea : BitVec 22) : eaUpdate (booked c k us rs fl) ea = eaUpdate c ea := rfl
@[simp] theorem eaL_booked (c : Core) (k : Nat) (us : List (Nat × Nat)) (rs : List (Nat × Nat × Nat)) (fl : List (Nat × Act))
    (l : BitVec 18) : eaL (booked c k us rs fl) l = eaL c l := rfl
@[simp] theorem Core.s_booked (c : Core) (k : Nat) (us : List (Nat × Nat)) (rs : List (Nat × Nat × Nat)) (fl : List (Nat × Act))
    (r : BitVec 5) : (booked c k us rs fl).s r = c.s r := rfl
@[simp] theorem Core.v_booked (c : Core) (k : Nat) (us : List (Nat × Nat)) (rs : List (Nat × Nat × Nat)) (fl : List (Nat × Act))
    (r : BitVec 5) : (booked c k us rs fl).v r = c.v r := rfl

/-- The base register update joins what an operation has in flight (R163). -/
theorem State.launchBase_after (s : State) (n k : Nat) (us : List (Nat × Nat)) (rs : List (Nat × Nat × Nat)) (fl : List (Nat × Act))
    (ea : BitVec 22) : (after s n k us rs fl).launchBase n ea = after s n k us rs (fl ++ baseFlight (s.core n) ea) := by
  rw [State.launchBase, State.core_after, eaUpdate_booked, baseFlight]
  cases eaUpdate (s.core n) ea with
  | none => rw [List.append_nil]
  | some u => exact State.launch_after s n k 1 us rs fl _

/-! The C slot: NOP, the flags and the branches. -/

/-- Settles O3: NOP books nothing, FLGRD is an operation of the scalar unit, FLGCLR puts its clear in flight. -/
theorem nopAndFlagOps : Obligations.NopAndFlagOps := by
  unfold Obligations.NopAndFlagOps
  refine ⟨fun s n k hi => ?_, fun s n d hi => ?_, fun s n hi => ?_⟩
  · exact congrArg Host.Outcome.next (State.issueOp_after id hi rfl rfl rfl)
  · have hflg : IsScalar (.flgrd n d) n d 1 Core.flagWord := ⟨fun _ => rfl, rfl, fun _ _ => rfl, fun _ _ _ _ => rfl⟩
    exact hflg.exec_of_issues s hi
  · refine congrArg Host.Outcome.next ((State.issueOp_after _ hi rfl rfl rfl).trans ?_)
    exact State.launch_after s n 0 1 _ _ _ _

/-- A branch at issue: the shadow runs and both target lines are on their way (R45, R83, R84, R222). -/
theorem State.branchAt_after (s : State) (n : Nat) (rs : List (Nat × Nat × Nat)) (off : BitVec 19) (taken : Bool) :
    let t := branchTarget (s.core n).dueAddr off
    (after s n 0 [(0, 1)] rs []).branchAt n off taken
      = s.setCore n (shadowed (booked (s.core n) 0 [(0, 1)] rs [(1, .targetFetch (t / 64)), (2, .targetFetch (t / 64 + 1))]) t taken) := by
  simp only [State.branchAt, after, State.modCore_eq, State.core_setCore_self, State.setCore_setCore, State.launch_setCore, shadowed,
    booked, Core.fly, List.map_cons, List.map_nil, List.append_assoc, List.cons_append, List.nil_append, List.foldl_cons, List.foldl_nil]
  rfl

/-- The operation `i` branches on `p` and writes no register. -/
structure IsBranch (i : Instr) (n : Nat) (off : BitVec 19) (p : Core → Bool) : Prop where
  exec_eq : ∀ s, exec i s = .next (s.issueBranch n i off p)
  slot_eq : slotOf i = some 0
  units_eq : ∀ (s : State) (k : Nat), (s.spec n k i).units = [(0, 1)]
  resv_eq : ∀ (s : State) (k : Nat), (s.spec n k i).resv = []
  test_booked : ∀ c k us rs, p (booked c k us rs []) = p c

theorem IsBranch.exec_of_issues {i : Instr} {n : Nat} {off : BitVec 19} {p : Core → Bool} (h : IsBranch i n off p) {s : State}
    (hi : Issues s n i) :
    let t := branchTarget (s.core n).dueAddr off
    exec i s = .next (s.setCore n (shadowed (booked (s.core n) 0 [(0, 1)] []
      [(1, .targetFetch (t / 64)), (2, .targetFetch (t / 64 + 1))]) t (p (s.core n)))) := by
  intro t
  rw [h.exec_eq, State.issueBranch, State.issueOp_after _ hi h.slot_eq (h.units_eq s _) (h.resv_eq s _), State.core_after, h.test_booked,
    State.branchAt_after]

theorem beq_eq_decide_eq {α : Type} [DecidableEq α] (x y : α) : (x == y) = decide (x = y) := rfl
theorem beq_zero_eq_decide (x : BitVec 64) : (x == 0) = decide (x.toNat = 0) := by
  rw [Bool.eq_iff_iff, beq_iff_eq, decide_eq_true_iff, ← BitVec.toNat_inj]
  rfl

theorem msb_eq_decide_toInt {w : Nat} (x : BitVec w) : x.msb = decide (x.toInt < 0) := by
  rw [Bool.eq_iff_iff, decide_eq_true_iff, BitVec.msb_eq_toInt, decide_eq_true_iff]

/-- The five branches that write no register, with their tests as the statement spells them. -/
theorem isBranch_of_branches {i : Instr} {n : Nat} {off : BitVec 19} {p : Core → Bool} (h : branches i = some (n, off, p))
    (hb : ∀ m a o, i ≠ .bdec m a o) : IsBranch i n off p := by
  unfold branches at h
  split at h <;> cases h
  case h_6 => exact absurd rfl (hb _ _ _)
  all_goals refine ⟨fun s => ?_, rfl, fun _ _ => rfl, fun _ _ => rfl, fun _ _ _ _ => rfl⟩
  case h_1 => rfl -- BR
  case h_2 => simp only [← beq_zero_eq_decide]; rfl -- BEQZ
  case h_3 => simp only [decide_not, ← beq_zero_eq_decide]; rfl -- BNEZ
  case h_4 => simp only [← msb_eq_decide_toInt]; rfl -- BLTZ
  case h_5 => simp only [← Int.not_lt, decide_not, ← msb_eq_decide_toInt]; rfl -- BGEZ

/-- BDEC branches on sA - 1 and also puts it in flight for sA (R222). -/
theorem exec_bdec_of_issues {s : State} {n : Nat} {a : BitVec 5} {off : BitVec 19} (hi : Issues s n (.bdec n a off)) :
    let c := s.core n
    let t := branchTarget c.dueAddr off
    exec (.bdec n a off) s = .next (s.setCore n (shadowed (booked c 0 [(0, 1)] [(0, a.toNat, 1)]
      [(1, .targetFetch (t / 64)), (2, .targetFetch (t / 64 + 1)), (1, .sreg a.toNat (c.s a - 1))]) t (c.s a - 1 != 0))) := by
  intro c t
  refine congrArg Host.Outcome.next ((State.issueOp_after (us := [(0, 1)]) (rs := [(0, a.toNat, 1)]) _ hi rfl rfl rfl).trans ?_)
  simp only [State.core_after, Core.s_booked, State.branchAt_after, State.launch_setCore]
  simp only [shadowed, booked, Core.fly, List.map_cons, List.map_nil, List.append_assoc, List.cons_append, List.nil_append,
    List.foldl_cons, List.foldl_nil]
  rfl

/-- Settles O4: five branches test a register and write none; BDEC also puts sA - 1 in flight. -/
theorem branches : Obligations.Branches := by
  unfold Obligations.Branches
  intro s i n off p h hi
  cases i
  case bdec m a o =>
    cases h
    simpa only [bne, decide_not, ← beq_eq_decide_eq] using exec_bdec_of_issues hi
  all_goals exact (isBranch_of_branches h (by rintro _ _ _ ⟨⟩)).exec_of_issues hi

end Sys2Proof.Machine
end

section
/-! SUPPORT. The M slot and the X slot at issue: loads, stores, streams, tiles and rows. -/

namespace Sys2Proof.Machine
open Sys2Proof.Spec

/-- Settles O5: a load puts its reads in flight, then the base register update (R83, R163). -/
theorem loadsIssue : Obligations.LoadsIssue := by
  unfold Obligations.LoadsIssue
  refine ⟨fun s n rel d ea hi => ?_, fun s n rel d ea hi => ?_, fun s n d rel line hi => ?_⟩
  · refine congrArg Host.Outcome.next ((State.issueOp_after (us := [(1, 1)]) (rs := (0, d.toNat, 5) :: baseResv (s.core n) ea) _ hi
      rfl rfl rfl).trans ?_)
    simp only [State.core_after, eaM_booked, State.launch_after, State.launchBase_after]
    rfl
  · refine congrArg Host.Outcome.next ((State.issueOp_after (us := [(1, 1)]) (rs := (1, d.toNat, 6) :: baseResv (s.core n) ea) _ hi
      rfl rfl rfl).trans ?_)
    simp only [State.core_after, eaM_booked, State.launch_after, State.launchBase_after]
    rfl
  · refine congrArg Host.Outcome.next ((State.issueOp_after (us := [(8, 1)]) (rs := [(1, d.toNat, 6)]) _ hi rfl rfl rfl).trans ?_)
    simp only [State.core_after, eaL_booked, State.launch_after, List.nil_append]

/-- Settles O6: stores and the stream operations put their writes and pointer changes in flight (R83, R224, R227 to R229). -/
theorem storesAndStreamsIssue : Obligations.StoresAndStreamsIssue := by
  unfold Obligations.StoresAndStreamsIssue
  refine ⟨fun s n v ea hi => ?_, fun s n slot v kvs hi hslot => ?_, fun s n a kvs hi => ?_, fun s n kvs hi => ?_⟩
  · refine congrArg Host.Outcome.next ((State.issueOp_after (us := [(1, 1)]) (rs := baseResv (s.core n) ea) _ hi rfl rfl rfl).trans ?_)
    simp only [State.core_after, eaM_booked, Core.v_booked, State.launch_after, State.launchBase_after]
    rfl
  · refine congrArg Host.Outcome.next ((State.issueOp_after (us := [(1, 1)]) (rs := []) _ hi rfl rfl rfl).trans ?_)
    have hrun : (after s n 1 [(1, 1)] [] []).runSlot = some slot := hslot
    simp only [State.core_after, Core.v_booked, State.launch_after, hrun, List.nil_append, List.singleton_append, Option.getD_some]
    rfl
  · refine congrArg Host.Outcome.next ((State.issueOp_after (us := [(1, 1)]) (rs := []) _ hi rfl rfl rfl).trans ?_)
    simp only [State.core_after, Core.s_booked, State.launch_after, List.nil_append]
  · exact congrArg Host.Outcome.next ((State.issueOp_after (us := [(1, 1)]) (rs := []) _ hi rfl rfl rfl).trans
      (State.launch_after ..))

/-- An update of what the bookkeeping of an issue does not touch may come before it. -/
theorem State.modCore_after (s : State) (n k : Nat) (us : List (Nat × Nat)) (rs : List (Nat × Nat × Nat)) (fl : List (Nat × Act))
    (f : Core → Core) (hf : ∀ c, f (booked c k us rs fl) = booked (f c) k us rs fl) :
    (after s n k us rs fl).modCore n f = after (s.setCore n (f (s.core n))) n k us rs fl := by
  simp only [after, State.modCore_eq, State.core_setCore_self, State.setCore_setCore, hf]

theorem State.after_setCore (s : State) (n k : Nat) (us : List (Nat × Nat)) (rs : List (Nat × Nat × Nat)) (fl : List (Nat × Act))
    (c : Core) : after (s.setCore n c) n k us rs fl = s.setCore n (booked c k us rs fl) := by
  simp only [after, State.core_setCore_self, State.setCore_setCore]

/-- The tile reads of an MXLOAD join what is in flight, eight lines a live cycle (R83). -/
theorem State.launchTile_after (s : State) (n k : Nat) (us : List (Nat × Nat)) (rs : List (Nat × Nat × Nat)) (fl : List (Nat × Act))
    (wt line lines : Nat) (rel : Bool) : (after s n k us rs fl).launchTile n wt line lines rel = after s n k us rs
      (fl ++ (List.range (ceilDiv lines 8)).map fun j => (1 + j, .tileRead wt (line + 8 * j) (min 8 (lines - 8 * j)) rel)) :=
  State.launches_after ..

/-- Settles O7: MXLOAD replaces its buffer and puts its tile reads, the end of its fill and the base update in flight (R50, R83). -/
theorem mxloadIssues : Obligations.MxloadIssues := by
  unfold Obligations.MxloadIssues
  intro s n rel fmt wt ea hi c k line
  refine congrArg Host.Outcome.next ((State.issueOp_after (us := [(1, ceilDiv k 8), (7, 32)]) (rs := baseResv c ea) _ hi
    rfl rfl rfl).trans ?_)
  simp only [State.core_after, eaM_booked]
  rw [State.modCore_after _ _ _ _ _ _ (fun d => { d with wt := Tab.put wt.toNat _ d.wt }) fun _ => rfl, State.launchTile_after,
    State.launch_after, State.launchBase_after, State.core_setCore_self, State.after_setCore]
  rfl

theorem toNat_eq_one_iff (x : BitVec 4) : x.toNat = 1 ↔ x = 1 := by
  rw [← BitVec.toNat_inj]
  rfl

/-- Settles O8: MXSTREAM puts one row read in flight per row, one live cycle apart, or four in BF16 (R47, R83). -/
theorem mxstreamIssues : Obligations.MxstreamIssues := by
  unfold Obligations.MxstreamIssues
  intro s n wt afmt rel acc cnt line hi k occ land bank
  have hland : ∀ j, rowLand afmt.toNat j = land j := fun j => by simp only [rowLand, land, toNat_eq_one_iff]
  have hbank : ∀ j, rowBank afmt.toNat j = bank j := fun j => by
    simp only [rowBank, bank, toNat_eq_one_iff, Nat.add_comm]
  refine congrArg Host.Outcome.next ((State.issueOp_after (us := [(2, occ), (20 + wt.toNat, occ)])
    (rs := (List.range k).map fun j => (2, acc.toNat + j, rowLand afmt.toNat j)) _ hi rfl rfl rfl).trans ?_)
  simp only [State.core_after, eaL_booked, State.launches_after, List.nil_append, hland, hbank]
  rfl

@[simp] theorem Core.row_booked (c : Core) (k : Nat) (us : List (Nat × Nat)) (rs : List (Nat × Nat × Nat)) (fl : List (Nat × Act))
    (r : Nat) : (booked c k us rs fl).row r = c.row r := rfl

/-- Settles O9: ACCOUT puts its registers and their flags in flight together, ACCCLR its clear (R195, R197, R198). -/
theorem accoutAndAccclrIssue : Obligations.AccoutAndAccclrIssue := by
  unfold Obligations.AccoutAndAccclrIssue
  refine ⟨fun s n acc cnt ofmt d hi => ?_, fun s n acc cnt ws wb sw hi => ?_⟩
  · refine congrArg Host.Outcome.next ((State.issueOp_after (us := [(3, ceilDiv (cnt.toNat + 1) 2)])
      (rs := (List.range (spanRegs (cnt.toNat + 1) (rowsPerReg ofmt))).map fun j => (1, d.toNat + j, ceilDiv (cnt.toNat + 1) 2 + 6))
      _ hi rfl rfl rfl).trans ?_)
    simp only [State.core_after, Core.row_booked, State.launches_after, State.launch_after, List.nil_append, List.length_map,
      List.length_range]
  · refine congrArg Host.Outcome.next ((State.issueOp_after (us := []) (rs := []) _ hi rfl rfl rfl).trans ?_)
    simp only [State.core_after, Core.s_booked, State.launch_after, List.nil_append]

end Sys2Proof.Machine
end

section
/-! SUPPORT. The V slot at issue. -/

namespace Sys2Proof.Machine
open Sys2Proof.Spec

/-- `i` is an operation of core `n` in the V slot that writes `v` of the registers at issue into vD after latency `l` (R44, R47). -/
structure IsVector (s : State) (i : Instr) (n : Nat) (d : BitVec 5) (us : List (Nat × Nat)) (l : Nat) (v : Core → Block) : Prop where
  exec_eq : exec i s = s.issueVector n i l d v
  slot_eq : slotOf i = some 3
  units_eq : (s.spec n (s.runSlot.getD 0) i).units = us
  resv_eq : (s.spec n (s.runSlot.getD 0) i).resv = [(1, d.toNat, l)]
  value_booked : ∀ c k us rs, v (booked c k us rs []) = v c

theorem IsVector.exec_of_issues {s : State} {i : Instr} {n l : Nat} {d : BitVec 5} {us : List (Nat × Nat)} {v : Core → Block}
    (h : IsVector s i n d us l v) (hi : Issues s n i) :
    exec i s = .next (after s n 3 us [(1, d.toNat, l)] [(l, .vreg d.toNat (v (s.core n)) 0x7FFFC0)]) := by
  rw [h.exec_eq, State.issueVector, State.issueOp_after _ hi h.slot_eq h.units_eq h.resv_eq, State.core_after, h.value_booked,
    State.launch_after, List.nil_append]

theorem arithSpec_units (d : BitVec 5) (fmt : BitVec 4) : (arithSpec d fmt).units = [(4, if fmt = 0 then 1 else 2)] := by
  unfold arithSpec; split <;> rfl
theorem arithSpec_resv (d : BitVec 5) (fmt : BitVec 4) : (arithSpec d fmt).resv = [(1, d.toNat, if fmt = 0 then 4 else 5)] := by
  unfold arithSpec; split <;> rfl

theorem isVector_of_vectorArith (s : State) {i : Instr} {n : Nat} {d : BitVec 5} {fmt : BitVec 4} {v : Core → Block}
    (h : vectorArith i = some (n, d, fmt, v)) :
    IsVector s i n d [(4, if fmt = 0 then 1 else 2)] (if fmt = 0 then 4 else 5) v := by
  unfold vectorArith at h
  split at h <;> cases h <;> exact ⟨rfl, rfl, arithSpec_units d fmt, arithSpec_resv d fmt, fun _ _ _ _ => rfl⟩

theorem isVector_of_vectorLogic (s : State) {i : Instr} {n : Nat} {d : BitVec 5} {v : Core → Block}
    (h : vectorLogic i = some (n, d, v)) : IsVector s i n d [(4, 1)] 2 v := by
  unfold vectorLogic at h
  split at h <;> cases h <;> exact ⟨rfl, rfl, rfl, rfl, fun _ _ _ _ => rfl⟩

/-- Settles O10: each row of the table is an operation of the lanes unit with the latency and the occupancy of its format. -/
theorem vectorArithmeticIssues : Obligations.VectorArithmeticIssues := by
  unfold Obligations.VectorArithmeticIssues
  intro s i n d fmt v h hi
  exact (isVector_of_vectorArith s h).exec_of_issues hi

/-- Settles O11: each row of the table is an operation of the lanes unit of latency 2. -/
theorem vectorLogicIssues : Obligations.VectorLogicIssues := by
  unfold Obligations.VectorLogicIssues
  intro s i n d v h hi
  exact (isVector_of_vectorLogic s h).exec_of_issues hi

/-- A register has 64 lanes in FP32 and 128 in every other format (R204). -/
theorem fpLanes_length (fmt : BitVec 4) (v : Block) : (fpLanes fmt v).length = if fmt = 0 then 64 else 128 := by
  simp only [fpLanes, unpack, List.length_map, List.length_range]

/-- The random draws of RNGFILL do not depend on the bookkeeping of its issue (R396, R397). -/
theorem exec_rngfill_of_issues {s : State} {n : Nat} {d : BitVec 5} {seed : BitVec 2} {idx : BitVec 16}
    (hi : Issues s n (.rngfill n d seed idx)) : exec (.rngfill n d seed idx) s = .next (after s n 3 [(4, 1)] [(1, d.toNat, 6)]
      [(6, .vreg d.toNat (bytesBv 2048 ((List.range 16).flatMap fun b =>
        genDraw (match s.runCtx with | some (_, x) => x.seeds.getD seed.toNat [] | none => [])
          ((s.core n).tally % 2 ^ 48) n idx.toNat b 0 s.modNum)) 0x7FFFC0)]) := by
  refine congrArg Host.Outcome.next ((State.issueOp_after (us := [(4, 1)]) (rs := [(1, d.toNat, 6)]) _ hi rfl rfl rfl).trans ?_)
  simp only [State.core_after, State.launch_after, List.nil_append, List.flatMap_def]
  rfl

/-- VRED and VTR, and RNGFILL, whose block is drawn from the module's state. -/
theorem exec_vectorOther_of_issues {s : State} {i : Instr} {n u occ l : Nat} {d : BitVec 5} {v : Core → Block}
    (h : vectorOther s i = some (n, d, u, occ, l, v)) (hi : Issues s n i) :
    exec i s = .next (after s n 3 [(u, occ)] [(1, d.toNat, l)] [(l, .vreg d.toNat (v (s.core n)) 0x7FFFC0)]) := by
  unfold vectorOther at h
  split at h <;> cases h
  case h_1 a fmt sub => -- VRED
    have hv : IsVector s (.vred n d a fmt sub) n d [(4, 1)] 8 fun k =>
        fpReg fmt (List.replicate (fpLanes fmt (k.v a)).length (vredVal sub.toNat (fpLanes fmt (k.v a)))) :=
      ⟨rfl, rfl, rfl, rfl, fun _ _ _ _ => by simp only [Core.v_booked]⟩
    simpa only [fpLanes_length] using hv.exec_of_issues hi
  case h_2 a fmt sub => -- VTR
    have hv : IsVector s (.vtr n d a fmt sub) n d [(6, 4)] 14
        fun k => BitVec.ofNat 2048 (pack 0 32 ((lanes 32 64 (k.v a)).map (vtrLane sub.toNat))) :=
      ⟨rfl, rfl, rfl, rfl, fun _ _ _ _ => by simp only [Core.v_booked]⟩
    exact hv.exec_of_issues hi
  case h_3 => exact exec_rngfill_of_issues hi

/-- VCVT puts its register and the flags of its conversions in flight together (R213, R217). -/
theorem exec_vcvt_of_issues {s : State} {n : Nat} {d a dr : BitVec 5} {sfmt dfmt : BitVec 4} {sr : Bool}
    (hi : Issues s n (.vcvt n d a dr sfmt dfmt sr)) :
    let k := s.core n
    let m := if sfmt = 0 ∨ dfmt = 0 then 64 else 128
    let r := valsReg dfmt.toNat (regVals sfmt.toNat m (k.v a))
      ((List.range m).map fun e => if sr then some ((k.v dr).extractLsb' (16 * e) 16).toNat else none)
    exec (.vcvt n d a dr sfmt dfmt sr) s = .next (after s n 3 [(4, 1)] [(1, d.toNat, 6)]
      [(6, .vreg d.toNat r.1 0x7FFFC0), (6, .flags r.2)]) := by
  refine congrArg Host.Outcome.next ((State.issueOp_after (us := [(4, 1)]) (rs := [(1, d.toNat, 6)]) _ hi rfl rfl rfl).trans ?_)
  simp only [State.core_after, Core.v_booked, State.launch_after, List.nil_append, List.singleton_append]

/-- Settles O12: VRED and VTR are operations of the V slot, RNGFILL draws its block, and VCVT has flags beside its register. -/
theorem vectorReduceConvertIssue : Obligations.VectorReduceConvertIssue := by
  unfold Obligations.VectorReduceConvertIssue
  exact ⟨fun s i n u occ l d v h hi => exec_vectorOther_of_issues h hi, fun s n d a dr sfmt dfmt sr hi => exec_vcvt_of_issues hi⟩

@[simp] theorem Core.vAt_booked (c : Core) (k : Nat) (us : List (Nat × Nat)) (rs : List (Nat × Nat × Nat)) (fl : List (Nat × Act))
    (r : Nat) : (booked c k us rs fl).vAt r = c.vAt r := rfl

/-- The weight formats of eight bits, as a number and as a field. -/
theorem toNat_eightBit_iff (f : BitVec 4) : (f.toNat = 4 ∨ f.toNat = 5 ∨ f.toNat = 9) ↔ (f = 4 ∨ f = 5 ∨ f = 9) := by
  revert f; decide

/-- Beat `m` lands 11 live cycles after its bank use (R83, R203). -/
theorem gemvLand_eq_bank (wf m : Nat) : gemvLand wf m = gemvBank wf m + 11 := by
  unfold gemvLand gemvBank
  split <;> omega

/-- GEMV puts its scale reads, with eight-bit weights, and then its beats in flight (R83, R201 to R203). -/
theorem exec_gemv_of_issues {s : State} {n : Nat} {wfmt afmt : BitVec 4} {a : BitVec 5} {acc : BitVec 7} {cg : BitVec 1}
    {beats : BitVec 6} {rel : Bool} {line : BitVec 18} (hi : Issues s n (.gemv n wfmt afmt a acc cg beats rel line)) :
    let c := s.core n
    let wf := wfmt.toNat
    let b := beats.toNat + 1
    let eight := wf = 4 ∨ wf = 5 ∨ wf = 9
    let l := eaL c line / 64
    let regs := (List.range (spanRegs b (gemvPerReg wfmt))).map fun j => c.vAt (a.toNat + j)
    exec (.gemv n wfmt afmt a acc cg beats rel line) s = .next (after s n 3 [(5, if eight then b + ceilDiv b 32 else b)]
      ((List.range b).map fun m => (2, acc.toNat, gemvBank wf m + 11))
      ((if eight then (List.range (ceilDiv b 32)).map fun g => (1 + 33 * g, .gemvScale (l + 264 * g) rel) else [])
        ++ (List.range b).map fun m => (gemvBank wf m, .gemvBeat wf afmt.toNat (packedBlock afmt.toNat regs m) acc.toNat (16 * cg.toNat)
          (l + gemvLine wf m) (gemvBeatLines wf) (m % 32) rel))) := by
  intro c wf b eight l regs
  have hocc : (if wfmt = 4 ∨ wfmt = 5 ∨ wfmt = 9 then b + ceilDiv b 32 else b) = if eight then b + ceilDiv b 32 else b := by
    simp only [eight, wf, toNat_eightBit_iff]
  have hland : ((List.range b).map fun m => (2, acc.toNat, gemvLand wf m))
      = (List.range b).map fun m => (2, acc.toNat, gemvBank wf m + 11) := by simp only [gemvLand_eq_bank]
  refine congrArg Host.Outcome.next ((State.issueOp_after _ hi rfl (congrArg (fun k => [(5, k)]) hocc) hland).trans ?_)
  simp only [State.core_after, eaL_booked, Core.vAt_booked, State.launches_after, List.nil_append]
  by_cases he : eight
  · simp only [if_pos he]
    rw [if_pos he, State.launches_after]
  · simp only [if_neg he]
    rw [if_neg he, State.launches_after]

/-- LSWADD puts the addition of its eight words in flight (R199, R200). -/
theorem exec_lswadd_of_issues {s : State} {n : Nat} {a : BitVec 5} {acc : BitVec 7} {g : BitVec 2} (hi : Issues s n (.lswadd n a acc g)) :
    let c := s.core n
    let ws := lswsOf (c.v a)
    exec (.lswadd n a acc g) s = .next (after s n 3 [(5, 1)] [(2, acc.toNat, 12)]
      [(12, .lswAdd acc.toNat ((List.range 8).map fun j => (8 * g.toNat + j, ws.getD j (Lsw.ofBits 0)))
        (if ws.any (fun w => w.col.flags.getLsbD 6) then some (Tab.get 0x7FFFC0 c.lastWrite a.toNat, a.toNat) else none))]) := by
  refine congrArg Host.Outcome.next ((State.issueOp_after (us := [(5, 1)]) (rs := [(2, acc.toNat, 12)]) _ hi rfl rfl rfl).trans ?_)
  simp only [State.core_after, Core.v_booked, State.launch_after, List.nil_append]
  rfl

/-- Settles O15: GEMV and LSWADD at issue. -/
theorem gemvAndLswaddIssue : Obligations.GemvAndLswaddIssue := by
  unfold Obligations.GemvAndLswaddIssue
  exact ⟨fun s n wfmt afmt a acc cg beats rel line hi => exec_gemv_of_issues hi, fun s n a acc g hi => exec_lswadd_of_issues hi⟩

end Sys2Proof.Machine
end

section
/-! SUPPORT. The L slot and the HURDLEs at issue. -/

namespace Sys2Proof.Machine
open Sys2Proof.Spec

/-- The next flits of a flow, counted and put in flight (R237, R238, R240). -/
theorem State.sendFlits_after (s : State) (n k : Nat) (us : List (Nat × Nat)) (flow l : Nat) (ps : List Block) :
    let c := s.core n
    let first := Tab.get 0 c.taken flow
    (after s n k us [] []).sendFlits n flow l ps = s.setCore n { booked c k us []
        ((List.range ps.length).map fun f => (l + f, .stage flow (first + f) c.tally (ps.getD f 0))) with
      taken := Tab.put flow (first + ps.length) c.taken
      staged := c.staged ++ (List.range ps.length).map fun j => { flow, ipos := first + j, step := c.tally, payload := none } } := by
  intro c first
  rw [State.sendFlits, State.modCore_after _ _ _ _ _ _ (fun c => c.reserveFlits flow ps.length) fun _ => rfl, State.launches_after,
    List.nil_append, State.after_setCore, State.core_after]
  rfl

/-- The flits in flight, where the payloads are given by their places. -/
theorem stage_getD_map (k flow first tally l : Nat) (g : Nat → Block) :
    ((List.range k).map fun f => (l + f, Act.stage flow (first + f) tally (((List.range k).map g).getD f 0)))
      = (List.range k).map fun f => (l + f, .stage flow (first + f) tally (g f)) :=
  List.map_congr_left fun f hf => by
    rw [List.getD_eq_getElem?_getD, List.getElem?_map, List.getElem?_range (List.mem_range.mp hf), Option.map_some, Option.getD_some]

/-- Settles O16: SEND stages one flit of vS, LSWSEND four flits of a row. -/
theorem sendsIssue : Obligations.SendsIssue := by
  unfold Obligations.SendsIssue
  refine ⟨fun s n v flow hi => ?_, fun s n acc flow hi => ?_⟩
  · refine congrArg Host.Outcome.next ((State.issueOp_after (us := [(8, 1)]) (rs := []) _ hi rfl rfl rfl).trans ?_)
    rw [State.sendFlits_after, State.core_after, Core.v_booked]
    rfl
  · refine congrArg Host.Outcome.next ((State.issueOp_after (us := [(8, 4), (3, 1)]) (rs := []) _ hi rfl rfl rfl).trans ?_)
    rw [State.sendFlits_after, State.core_after, List.length_map, List.length_range, stage_getD_map]
    rfl

/-- The lowest free number is free: a list of keys does not hold every number up to its length. -/
theorem freshKey_not_mem (t : List Nat) : freshKey t ∉ t := by
  unfold freshKey
  cases hf : (List.range (t.length + 1)).find? (fun n => !(t.contains n)) with
  | some k =>
    have := List.find?_some hf
    simpa using this
  | none =>
    have hall : List.range (t.length + 1) ⊆ t := fun k hk => by simpa using List.find?_eq_none.mp hf k hk
    have hlen := List.nodup_range.length_le_of_subset hall
    rw [List.length_range] at hlen
    omega

@[simp] theorem State.setCore_runCtx (s : State) (n : Nat) (c : Core) : (s.setCore n c).runCtx = s.runCtx := rfl
@[simp] theorem State.setCore_prog (s : State) (n : Nat) (c : Core) : (s.setCore n c).prog = s.prog := rfl
@[simp] theorem State.setCore_pen (s : State) (n : Nat) (c : Core) : (s.setCore n c).pen = s.pen := rfl
@[simp] theorem State.setCore_modNum (s : State) (n : Nat) (c : Core) : (s.setCore n c).modNum = s.modNum := rfl

/-- A stray request at issue: an entry under the lowest free index, the pair's next sequence, its injection in flight (R241, R245, R288). -/
theorem State.strayRequest_after (s : State) (n : Nat) (desc : BitVec 64) (sp : Option Nat) (x : Bool) (p : Packet) :
    (after s n 4 [(8, 1)] [] []).strayRequest n desc sp x p
      = strayAfter s n (freshKey ((s.core n).outs.map (·.1))) desc sp x p := by
  simp only [State.strayRequest, State.modCore_eq, after, State.core_setCore_self, State.setCore_setCore,
    State.launch_setCore]
  simp only [booked, Core.fly, Core.ownStray, List.map_nil, List.foldl_nil, List.append_nil, State.setCore_pen, State.setCore_modNum, strayAfter]
  rfl

/-- Settles O17: both operations send a stray request under the lowest free index. -/
theorem straysIssue : Obligations.StraysIssue := by
  unfold Obligations.StraysIssue
  refine ⟨fun s n v t len msk m hi => ⟨_, freshKey_not_mem _, ?_⟩, fun s n v t aop w p hi => ⟨_, freshKey_not_mem _, ?_⟩⟩
  · refine congrArg Host.Outcome.next ((State.issueOp_after (us := [(8, 1)]) (rs := []) _ hi rfl rfl rfl).trans ?_)
    rw [State.strayRequest_after, State.core_after]
    rfl
  · refine congrArg Host.Outcome.next ((State.issueOp_after (us := [(8, 1)]) (rs := []) _ hi rfl rfl rfl).trans ?_)
    rw [State.strayRequest_after, State.core_after]
    rfl

/-- The before sets do not depend on the bookkeeping of the issue (R231). -/
theorem State.hurdleWait_after (s : State) (n k : Nat) (us : List (Nat × Nat)) (rs : List (Nat × Nat × Nat)) (classes : Nat) (fold : Bool) :
    (after s n k us rs []).hurdleWait n classes fold = waitOf s n classes fold := by
  simp only [State.hurdleWait, State.acceptedTier, Core.acceptedStrays, State.core_after, waitOf]
  rfl

/-- Run-ahead discarded and before sets taken, at the issue of a HURDLE or a FOLD (R68, R231). -/
theorem State.hurdleAt_after (s : State) (n classes : Nat) (fold : Bool) :
    let t := s.setCore n { booked (s.core n) 0 [(0, 1)] [] [] with
      staging := [], hurdles := (s.core n).hurdles ++ [waitOf s n classes fold] }
    (after s n 0 [(0, 1)] [] []).hurdleAt n classes fold
      = if bit classes 4 then (match s.runSlot with | some k => t.cancelStreamer k false | none => t) else t := by
  simp only [State.hurdleAt, State.hurdleWait_after, State.modCore_eq, State.core_after]
  simp only [after, State.setCore_setCore]
  rfl

theorem bit_toNat {w : Nat} (x : BitVec w) (i : Nat) : bit x.toNat i = x.getLsbD i := by
  rw [bit, BitVec.getLsbD, Nat.testBit_eq_decide_div_mod_eq, Nat.shiftRight_eq_div_pow, beq_eq_decide_eq]

/-- Settles O18: a HURDLE takes its before sets, a FOLD those of classes 0 to 3, and class 4 cancels the streamer. -/
theorem hurdleAndFoldIssue : Obligations.HurdleAndFoldIssue := by
  unfold Obligations.HurdleAndFoldIssue
  refine ⟨fun s n cl hi => ?_, fun s n ix hi => ?_⟩
  · refine congrArg Host.Outcome.next ((State.issueOp_after (us := [(0, 1)]) (rs := []) _ hi rfl rfl rfl).trans ?_)
    rw [State.hurdleAt_after, bit_toNat] <;> rfl
  · refine congrArg Host.Outcome.next ((State.issueOp_after (us := [(0, 1)]) (rs := []) _ hi rfl rfl rfl).trans ?_)
    have hclass : bit 15 4 = false := by decide
    rw [State.hurdleAt_after, hclass, if_neg Bool.false_ne_true, State.modCore_eq, State.core_setCore_self, State.setCore_setCore]

end Sys2Proof.Machine
end

section
/-! SUPPORT. The fields of a slot's forms, and that each slot reads back what its encoder wrote (R160 to R177). -/

namespace Sys2Proof

/-! A field of a word that is a concatenation, by its place in the number. -/

theorem toNat_append_add {n m : Nat} (x : BitVec n) (y : BitVec m) : (x ++ y).toNat = x.toNat * 2 ^ m + y.toNat := by
  rw [BitVec.toNat_append, ← Nat.shiftLeft_add_eq_or_of_lt y.isLt, Nat.shiftLeft_eq]

theorem field_of_toNat {w k v : Nat} {x : BitVec w} (lo : Nat) (f : BitVec k) (hx : x.toNat = v) (hf : v / 2 ^ lo % 2 ^ k = f.toNat) :
    x.extractLsb' lo k = f := by
  apply BitVec.eq_of_toNat_eq
  rw [BitVec.extractLsb'_toNat, Nat.shiftRight_eq_div_pow, hx, hf]

theorem flag_of_toNat {w v : Nat} {x : BitVec w} (lo : Nat) (b : Bool) (hx : x.toNat = v)
    (hb : v / 2 ^ lo % 2 = (BitVec.ofBool b).toNat) : x.getLsbD lo = b := by
  rw [← Machine.bit_toNat, Machine.bit, Nat.shiftRight_eq_div_pow, hx, hb]
  cases b <;> rfl

/-! Form CR. -/

section
variable (op : BitVec 6) (d a b : BitVec 5)

theorem formCR_toNat : (formCR op d a b).toNat = (((op.toNat * 2 ^ 5 + d.toNat) * 2 ^ 5 + a.toNat) * 2 ^ 5 + b.toNat) * 2 ^ 27 := by
  rw [formCR, toNat_append_add, toNat_append_add, toNat_append_add, toNat_append_add]
  simp only [BitVec.toNat_ofNat, Nat.zero_mod, Nat.add_zero]
theorem formCR_op : (formCR op d a b).extractLsb' 42 6 = op := field_of_toNat 42 op (formCR_toNat ..) (by omega)
theorem formCR_d : (formCR op d a b).extractLsb' 37 5 = d := field_of_toNat 37 d (formCR_toNat ..) (by omega)
theorem formCR_a : (formCR op d a b).extractLsb' 32 5 = a := field_of_toNat 32 a (formCR_toNat ..) (by omega)
theorem formCR_b : (formCR op d a b).extractLsb' 27 5 = b := field_of_toNat 27 b (formCR_toNat ..) (by omega)

end

/-! Form CI. -/

section
variable (op : BitVec 6) (d a : BitVec 5) (imm : BitVec 32)

theorem formCI_toNat : (formCI op d a imm).toNat = ((op.toNat * 2 ^ 5 + d.toNat) * 2 ^ 5 + a.toNat) * 2 ^ 32 + imm.toNat := by
  rw [formCI, toNat_append_add, toNat_append_add, toNat_append_add]
theorem formCI_op : (formCI op d a imm).extractLsb' 42 6 = op := field_of_toNat 42 op (formCI_toNat ..) (by omega)
theorem formCI_d : (formCI op d a imm).extractLsb' 37 5 = d := field_of_toNat 37 d (formCI_toNat ..) (by omega)
theorem formCI_a : (formCI op d a imm).extractLsb' 32 5 = a := field_of_toNat 32 a (formCI_toNat ..) (by omega)
theorem formCI_imm : (formCI op d a imm).extractLsb' 0 32 = imm := field_of_toNat 0 imm (formCI_toNat ..) (by omega)

end

/-! Form CB. -/

section
variable (op : BitVec 6) (a : BitVec 5) (off : BitVec 19)

theorem formCB_toNat : (formCB op a off).toNat = (((op.toNat * 2 ^ 5) * 2 ^ 5 + a.toNat) * 2 ^ 13) * 2 ^ 19 + off.toNat := by
  rw [formCB, toNat_append_add, toNat_append_add, toNat_append_add, toNat_append_add]
  simp only [BitVec.toNat_ofNat, Nat.zero_mod, Nat.add_zero]
theorem formCB_op : (formCB op a off).extractLsb' 42 6 = op := field_of_toNat 42 op (formCB_toNat ..) (by omega)
theorem formCB_a : (formCB op a off).extractLsb' 32 5 = a := field_of_toNat 32 a (formCB_toNat ..) (by omega)
theorem formCB_off : (formCB op a off).extractLsb' 0 19 = off := field_of_toNat 0 off (formCB_toNat ..) (by omega)

end

/-! Form MA. -/

section
variable (op : BitVec 6) (rel : Bool) (fmt : BitVec 4) (wt : BitVec 1) (reg : BitVec 5) (ea : BitVec 22)

theorem formMA_toNat : (formMA op rel fmt wt reg ea).toNat = (((((op.toNat * 2 ^ 1 + (BitVec.ofBool rel).toNat) * 2 ^ 4 + fmt.toNat) *
    2 ^ 1 + wt.toNat) * 2 ^ 5 + reg.toNat) * 2 ^ 17) * 2 ^ 22 + ea.toNat := by
  rw [formMA, toNat_append_add, toNat_append_add, toNat_append_add, toNat_append_add, toNat_append_add, toNat_append_add]
  simp only [BitVec.toNat_ofNat, Nat.zero_mod, Nat.add_zero]
theorem formMA_op : (formMA op rel fmt wt reg ea).extractLsb' 50 6 = op := field_of_toNat 50 op (formMA_toNat ..) (by omega)
theorem formMA_rel : (formMA op rel fmt wt reg ea).getLsbD 49 = rel := flag_of_toNat 49 rel (formMA_toNat ..) (by omega)
theorem formMA_fmt : (formMA op rel fmt wt reg ea).extractLsb' 45 4 = fmt := field_of_toNat 45 fmt (formMA_toNat ..) (by omega)
theorem formMA_wt : (formMA op rel fmt wt reg ea).extractLsb' 44 1 = wt := field_of_toNat 44 wt (formMA_toNat ..) (by omega)
theorem formMA_reg : (formMA op rel fmt wt reg ea).extractLsb' 39 5 = reg := field_of_toNat 39 reg (formMA_toNat ..) (by omega)
theorem formMA_ea : (formMA op rel fmt wt reg ea).extractLsb' 0 22 = ea := field_of_toNat 0 ea (formMA_toNat ..) (by omega)

end

/-! Form MK. -/

section
variable (op : BitVec 6) (reg : BitVec 5) (kvs : BitVec 4)

theorem formMK_toNat : (formMK op reg kvs).toNat = (((op.toNat * 2 ^ 6) * 2 ^ 5 + reg.toNat) * 2 ^ 4 + kvs.toNat) * 2 ^ 35 := by
  rw [formMK, toNat_append_add, toNat_append_add, toNat_append_add, toNat_append_add]
  simp only [BitVec.toNat_ofNat, Nat.zero_mod, Nat.add_zero]
theorem formMK_op : (formMK op reg kvs).extractLsb' 50 6 = op := field_of_toNat 50 op (formMK_toNat ..) (by omega)
theorem formMK_reg : (formMK op reg kvs).extractLsb' 39 5 = reg := field_of_toNat 39 reg (formMK_toNat ..) (by omega)
theorem formMK_kvs : (formMK op reg kvs).extractLsb' 35 4 = kvs := field_of_toNat 35 kvs (formMK_toNat ..) (by omega)

end

/-! Form VA. -/

section
variable (op : BitVec 8) (d a b c : BitVec 5) (fmt sub : BitVec 4)

theorem formVA_toNat : (formVA op d a b c fmt sub).toNat = ((((((op.toNat * 2 ^ 5 + d.toNat) * 2 ^ 5 + a.toNat) * 2 ^ 5 + b.toNat) * 2
    ^ 5 + c.toNat) * 2 ^ 4 + fmt.toNat) * 2 ^ 4 + sub.toNat) * 2 ^ 20 := by
  rw [formVA, toNat_append_add, toNat_append_add, toNat_append_add, toNat_append_add, toNat_append_add, toNat_append_add,
    toNat_append_add]
  simp only [BitVec.toNat_ofNat, Nat.zero_mod, Nat.add_zero]
theorem formVA_op : (formVA op d a b c fmt sub).extractLsb' 48 8 = op := field_of_toNat 48 op (formVA_toNat ..) (by omega)
theorem formVA_d : (formVA op d a b c fmt sub).extractLsb' 43 5 = d := field_of_toNat 43 d (formVA_toNat ..) (by omega)
theorem formVA_a : (formVA op d a b c fmt sub).extractLsb' 38 5 = a := field_of_toNat 38 a (formVA_toNat ..) (by omega)
theorem formVA_b : (formVA op d a b c fmt sub).extractLsb' 33 5 = b := field_of_toNat 33 b (formVA_toNat ..) (by omega)
theorem formVA_c : (formVA op d a b c fmt sub).extractLsb' 28 5 = c := field_of_toNat 28 c (formVA_toNat ..) (by omega)
theorem formVA_fmt : (formVA op d a b c fmt sub).extractLsb' 24 4 = fmt := field_of_toNat 24 fmt (formVA_toNat ..) (by omega)
theorem formVA_sub : (formVA op d a b c fmt sub).extractLsb' 20 4 = sub := field_of_toNat 20 sub (formVA_toNat ..) (by omega)

end

/-! Operations of the C slot with a form of their own. -/

theorem readC_hurdle (n : Nat) (c : BitVec 5) : readC n (0x30#6 ++ 0#37 ++ c) = some (.hurdle n c) := by
  have hx : (0x30#6 ++ 0#37 ++ c).toNat = (48 * 2 ^ 37) * 2 ^ 5 + c.toNat := by
    rw [toNat_append_add, toNat_append_add]
    simp only [BitVec.toNat_ofNat, Nat.zero_mod, Nat.add_zero, Nat.reducePow, Nat.reduceMod]
  simp only [readC, field_of_toNat 42 0x30#6 hx (by simp only [BitVec.toNat_ofNat]; omega), field_of_toNat 0 c hx (by omega)]
  rfl

theorem readC_fold (n : Nat) (i : BitVec 10) : readC n (0x31#6 ++ 0#32 ++ i) = some (.fold n i) := by
  have hx : (0x31#6 ++ 0#32 ++ i).toNat = (49 * 2 ^ 32) * 2 ^ 10 + i.toNat := by
    rw [toNat_append_add, toNat_append_add]
    simp only [BitVec.toNat_ofNat, Nat.zero_mod, Nat.add_zero, Nat.reducePow, Nat.reduceMod]
  simp only [readC, field_of_toNat 42 0x31#6 hx (by simp only [BitVec.toNat_ofNat]; omega), field_of_toNat 0 i hx (by omega)]
  rfl

theorem readC_rdtally (n : Nat) (d : BitVec 5) : readC n (0x32#6 ++ d ++ 0#37) = some (.rdtally n d) := by
  have hx : (0x32#6 ++ d ++ 0#37).toNat = (50 * 2 ^ 5 + d.toNat) * 2 ^ 37 := by
    rw [toNat_append_add, toNat_append_add]
    simp only [BitVec.toNat_ofNat, Nat.zero_mod, Nat.add_zero, Nat.reducePow, Nat.reduceMod]
  simp only [readC, field_of_toNat 42 0x32#6 hx (by simp only [BitVec.toNat_ofNat]; omega), field_of_toNat 37 d hx (by omega)]
  rfl

theorem readC_flgrd (n : Nat) (d : BitVec 5) : readC n (0x33#6 ++ d ++ 0#37) = some (.flgrd n d) := by
  have hx : (0x33#6 ++ d ++ 0#37).toNat = (51 * 2 ^ 5 + d.toNat) * 2 ^ 37 := by
    rw [toNat_append_add, toNat_append_add]
    simp only [BitVec.toNat_ofNat, Nat.zero_mod, Nat.add_zero, Nat.reducePow, Nat.reduceMod]
  simp only [readC, field_of_toNat 42 0x33#6 hx (by simp only [BitVec.toNat_ofNat]; omega), field_of_toNat 37 d hx (by omega)]
  rfl

theorem readC_flgclr (n : Nat) : readC n (0x34#6 ++ 0#42) = some (.flgclr n) := by
  have hx : (0x34#6 ++ 0#42).toNat = 52 * 2 ^ 42 := by
    rw [toNat_append_add]
    simp only [BitVec.toNat_ofNat, Nat.zero_mod, Nat.add_zero, Nat.reducePow, Nat.reduceMod]
  simp only [readC, field_of_toNat 42 0x34#6 hx (by decide)]
  rfl

/-! Operations of the X slot with a form of their own. -/

theorem readX_mxstream (n : Nat) (wt : BitVec 1) (afmt : BitVec 4) (rel : Bool) (acc cnt : BitVec 7) (line : BitVec 18) : readX n
    (0x01#6 ++ wt ++ afmt ++ BitVec.ofBool rel ++ acc ++ cnt ++ 0#4 ++ line) = some (.mxstream n wt afmt rel acc cnt line) := by
  have hx : (0x01#6 ++ wt ++ afmt ++ BitVec.ofBool rel ++ acc ++ cnt ++ 0#4 ++ line).toNat = ((((((1 * 2 ^ 1 + wt.toNat) * 2 ^ 4 +
    afmt.toNat) * 2 ^ 1 + (BitVec.ofBool rel).toNat) * 2 ^ 7 + acc.toNat) * 2 ^ 7 + cnt.toNat) * 2 ^ 4) * 2 ^ 18 + line.toNat := by
    rw [toNat_append_add, toNat_append_add, toNat_append_add, toNat_append_add, toNat_append_add, toNat_append_add, toNat_append_add]
    simp only [BitVec.toNat_ofNat, Nat.zero_mod, Nat.add_zero, Nat.reducePow, Nat.reduceMod]
  simp only [readX, field_of_toNat 42 0x01#6 hx (by simp only [BitVec.toNat_ofNat]; omega), field_of_toNat 41 wt hx (by omega),
    field_of_toNat 37 afmt hx (by omega), flag_of_toNat 36 rel hx (by omega), field_of_toNat 29 acc hx (by omega), field_of_toNat 22
    cnt hx (by omega), field_of_toNat 0 line hx (by omega)]
  rfl

theorem readX_accout (n : Nat) (acc : BitVec 7) (cnt : BitVec 3) (ofmt : BitVec 4) (d : BitVec 5) : readX n (0x02#6 ++ acc ++ cnt ++
    ofmt ++ d ++ 0#23) = some (.accout n acc cnt ofmt d) := by
  have hx : (0x02#6 ++ acc ++ cnt ++ ofmt ++ d ++ 0#23).toNat = ((((2 * 2 ^ 7 + acc.toNat) * 2 ^ 3 + cnt.toNat) * 2 ^ 4 + ofmt.toNat)
    * 2 ^ 5 + d.toNat) * 2 ^ 23 := by
    rw [toNat_append_add, toNat_append_add, toNat_append_add, toNat_append_add, toNat_append_add]
    simp only [BitVec.toNat_ofNat, Nat.zero_mod, Nat.add_zero, Nat.reducePow, Nat.reduceMod]
  simp only [readX, field_of_toNat 42 0x02#6 hx (by simp only [BitVec.toNat_ofNat]; omega), field_of_toNat 35 acc hx (by omega),
    field_of_toNat 32 cnt hx (by omega), field_of_toNat 28 ofmt hx (by omega), field_of_toNat 23 d hx (by omega)]
  rfl

theorem readX_accclr (n : Nat) (acc cnt : BitVec 7) (ws : Bool) (wb : BitVec 11) (sw : BitVec 5) : readX n (0x03#6 ++ acc ++ cnt ++
    BitVec.ofBool ws ++ wb ++ sw ++ 0#11) = some (.accclr n acc cnt ws wb sw) := by
  have hx : (0x03#6 ++ acc ++ cnt ++ BitVec.ofBool ws ++ wb ++ sw ++ 0#11).toNat = (((((3 * 2 ^ 7 + acc.toNat) * 2 ^ 7 + cnt.toNat) *
    2 ^ 1 + (BitVec.ofBool ws).toNat) * 2 ^ 11 + wb.toNat) * 2 ^ 5 + sw.toNat) * 2 ^ 11 := by
    rw [toNat_append_add, toNat_append_add, toNat_append_add, toNat_append_add, toNat_append_add, toNat_append_add]
    simp only [BitVec.toNat_ofNat, Nat.zero_mod, Nat.add_zero, Nat.reducePow, Nat.reduceMod]
  simp only [readX, field_of_toNat 42 0x03#6 hx (by simp only [BitVec.toNat_ofNat]; omega), field_of_toNat 35 acc hx (by omega),
    field_of_toNat 28 cnt hx (by omega), flag_of_toNat 27 ws hx (by omega), field_of_toNat 16 wb hx (by omega), field_of_toNat 11 sw
    hx (by omega)]
  rfl

/-! Operations of the V slot with a form of their own. -/

theorem readV_vcvt (n : Nat) (d a dr : BitVec 5) (sfmt dfmt : BitVec 4) (sr : Bool) : readV n (0x18#8 ++ d ++ a ++ dr ++ sfmt ++ dfmt
    ++ BitVec.ofBool sr ++ 0#24) = some (.vcvt n d a dr sfmt dfmt sr) := by
  have hx : (0x18#8 ++ d ++ a ++ dr ++ sfmt ++ dfmt ++ BitVec.ofBool sr ++ 0#24).toNat = ((((((24 * 2 ^ 5 + d.toNat) * 2 ^ 5 +
    a.toNat) * 2 ^ 5 + dr.toNat) * 2 ^ 4 + sfmt.toNat) * 2 ^ 4 + dfmt.toNat) * 2 ^ 1 + (BitVec.ofBool sr).toNat) * 2 ^ 24 := by
    rw [toNat_append_add, toNat_append_add, toNat_append_add, toNat_append_add, toNat_append_add, toNat_append_add, toNat_append_add]
    simp only [BitVec.toNat_ofNat, Nat.zero_mod, Nat.add_zero, Nat.reducePow, Nat.reduceMod]
  simp only [readV, field_of_toNat 48 0x18#8 hx (by simp only [BitVec.toNat_ofNat]; omega), field_of_toNat 43 d hx (by omega),
    field_of_toNat 38 a hx (by omega), field_of_toNat 33 dr hx (by omega), field_of_toNat 29 sfmt hx (by omega), field_of_toNat 25
    dfmt hx (by omega), flag_of_toNat 24 sr hx (by omega)]
  rfl

theorem readV_gemv (n : Nat) (wfmt afmt : BitVec 4) (a : BitVec 5) (acc : BitVec 7) (cg : BitVec 1) (beats : BitVec 6) (rel : Bool)
    (line : BitVec 18) : readV n (0x30#8 ++ wfmt ++ afmt ++ a ++ acc ++ cg ++ beats ++ BitVec.ofBool rel ++ 0#2 ++ line) = some (.gemv
    n wfmt afmt a acc cg beats rel line) := by
  have hx : (0x30#8 ++ wfmt ++ afmt ++ a ++ acc ++ cg ++ beats ++ BitVec.ofBool rel ++ 0#2 ++ line).toNat = ((((((((48 * 2 ^ 4 +
    wfmt.toNat) * 2 ^ 4 + afmt.toNat) * 2 ^ 5 + a.toNat) * 2 ^ 7 + acc.toNat) * 2 ^ 1 + cg.toNat) * 2 ^ 6 + beats.toNat) * 2 ^ 1 +
    (BitVec.ofBool rel).toNat) * 2 ^ 2) * 2 ^ 18 + line.toNat := by
    rw [toNat_append_add, toNat_append_add, toNat_append_add, toNat_append_add, toNat_append_add, toNat_append_add, toNat_append_add,
      toNat_append_add, toNat_append_add]
    simp only [BitVec.toNat_ofNat, Nat.zero_mod, Nat.add_zero, Nat.reducePow, Nat.reduceMod]
  simp only [readV, field_of_toNat 48 0x30#8 hx (by simp only [BitVec.toNat_ofNat]; omega), field_of_toNat 44 wfmt hx (by omega),
    field_of_toNat 40 afmt hx (by omega), field_of_toNat 35 a hx (by omega), field_of_toNat 28 acc hx (by omega), field_of_toNat 27 cg
    hx (by omega), field_of_toNat 21 beats hx (by omega), flag_of_toNat 20 rel hx (by omega), field_of_toNat 0 line hx (by omega)]
  rfl

theorem readV_lswadd (n : Nat) (a : BitVec 5) (acc : BitVec 7) (g : BitVec 2) : readV n (0x31#8 ++ 0#5 ++ a ++ acc ++ g ++ 0#29) =
    some (.lswadd n a acc g) := by
  have hx : (0x31#8 ++ 0#5 ++ a ++ acc ++ g ++ 0#29).toNat = ((((49 * 2 ^ 5) * 2 ^ 5 + a.toNat) * 2 ^ 7 + acc.toNat) * 2 ^ 2 +
    g.toNat) * 2 ^ 29 := by
    rw [toNat_append_add, toNat_append_add, toNat_append_add, toNat_append_add, toNat_append_add]
    simp only [BitVec.toNat_ofNat, Nat.zero_mod, Nat.add_zero, Nat.reducePow, Nat.reduceMod]
  simp only [readV, field_of_toNat 48 0x31#8 hx (by simp only [BitVec.toNat_ofNat]; omega), field_of_toNat 38 a hx (by omega),
    field_of_toNat 31 acc hx (by omega), field_of_toNat 29 g hx (by omega)]
  rfl

theorem readV_rngfill (n : Nat) (d : BitVec 5) (seed : BitVec 2) (idx : BitVec 16) : readV n (0x38#8 ++ d ++ seed ++ idx ++ 0#25) =
    some (.rngfill n d seed idx) := by
  have hx : (0x38#8 ++ d ++ seed ++ idx ++ 0#25).toNat = (((56 * 2 ^ 5 + d.toNat) * 2 ^ 2 + seed.toNat) * 2 ^ 16 + idx.toNat) * 2 ^ 25
    := by
    rw [toNat_append_add, toNat_append_add, toNat_append_add, toNat_append_add]
    simp only [BitVec.toNat_ofNat, Nat.zero_mod, Nat.add_zero, Nat.reducePow, Nat.reduceMod]
  simp only [readV, field_of_toNat 48 0x38#8 hx (by simp only [BitVec.toNat_ofNat]; omega), field_of_toNat 43 d hx (by omega),
    field_of_toNat 41 seed hx (by omega), field_of_toNat 25 idx hx (by omega)]
  rfl

theorem readV_vbcast (n : Nat) (d a : BitVec 5) (fmt : BitVec 4) : readV n (0x39#8 ++ d ++ a ++ 0#10 ++ fmt ++ 0#24) = some (.vbcast n
    d a fmt) := by
  have hx : (0x39#8 ++ d ++ a ++ 0#10 ++ fmt ++ 0#24).toNat = ((((57 * 2 ^ 5 + d.toNat) * 2 ^ 5 + a.toNat) * 2 ^ 10) * 2 ^ 4 +
    fmt.toNat) * 2 ^ 24 := by
    rw [toNat_append_add, toNat_append_add, toNat_append_add, toNat_append_add, toNat_append_add]
    simp only [BitVec.toNat_ofNat, Nat.zero_mod, Nat.add_zero, Nat.reducePow, Nat.reduceMod]
  simp only [readV, field_of_toNat 48 0x39#8 hx (by simp only [BitVec.toNat_ofNat]; omega), field_of_toNat 43 d hx (by omega),
    field_of_toNat 38 a hx (by omega), field_of_toNat 24 fmt hx (by omega)]
  rfl

/-! Operations of the L slot with a form of their own. -/

theorem readL_send (n : Nat) (v : BitVec 5) (flow : BitVec 10) : readL n (0x01#5 ++ v ++ flow ++ 0#24) = some (.send n v flow) := by
  have hx : (0x01#5 ++ v ++ flow ++ 0#24).toNat = ((1 * 2 ^ 5 + v.toNat) * 2 ^ 10 + flow.toNat) * 2 ^ 24 := by
    rw [toNat_append_add, toNat_append_add, toNat_append_add]
    simp only [BitVec.toNat_ofNat, Nat.zero_mod, Nat.add_zero, Nat.reducePow, Nat.reduceMod]
  simp only [readL, field_of_toNat 39 0x01#5 hx (by simp only [BitVec.toNat_ofNat]; omega), field_of_toNat 34 v hx (by omega),
    field_of_toNat 24 flow hx (by omega)]
  rfl

theorem readL_recv (n : Nat) (d : BitVec 5) (rel : Bool) (line : BitVec 18) : readL n (0x02#5 ++ d ++ BitVec.ofBool rel ++ 0#15 ++
    line) = some (.recv n d rel line) := by
  have hx : (0x02#5 ++ d ++ BitVec.ofBool rel ++ 0#15 ++ line).toNat = (((2 * 2 ^ 5 + d.toNat) * 2 ^ 1 + (BitVec.ofBool rel).toNat) *
    2 ^ 15) * 2 ^ 18 + line.toNat := by
    rw [toNat_append_add, toNat_append_add, toNat_append_add, toNat_append_add]
    simp only [BitVec.toNat_ofNat, Nat.zero_mod, Nat.add_zero, Nat.reducePow, Nat.reduceMod]
  simp only [readL, field_of_toNat 39 0x02#5 hx (by simp only [BitVec.toNat_ofNat]; omega), field_of_toNat 34 d hx (by omega),
    flag_of_toNat 33 rel hx (by omega), field_of_toNat 0 line hx (by omega)]
  rfl

theorem readL_lswsend (n : Nat) (acc : BitVec 7) (flow : BitVec 10) : readL n (0x03#5 ++ acc ++ flow ++ 0#22) = some (.lswsend n acc
    flow) := by
  have hx : (0x03#5 ++ acc ++ flow ++ 0#22).toNat = ((3 * 2 ^ 7 + acc.toNat) * 2 ^ 10 + flow.toNat) * 2 ^ 22 := by
    rw [toNat_append_add, toNat_append_add, toNat_append_add]
    simp only [BitVec.toNat_ofNat, Nat.zero_mod, Nat.add_zero, Nat.reducePow, Nat.reduceMod]
  simp only [readL, field_of_toNat 39 0x03#5 hx (by simp only [BitVec.toNat_ofNat]; omega), field_of_toNat 32 acc hx (by omega),
    field_of_toNat 22 flow hx (by omega)]
  rfl

theorem readL_strayw (n : Nat) (v t : BitVec 5) (len : BitVec 2) (msk : Bool) (m : BitVec 5) : readL n (0x04#5 ++ v ++ t ++ len ++
    BitVec.ofBool msk ++ m ++ 0#21) = some (.strayw n v t len msk m) := by
  have hx : (0x04#5 ++ v ++ t ++ len ++ BitVec.ofBool msk ++ m ++ 0#21).toNat = (((((4 * 2 ^ 5 + v.toNat) * 2 ^ 5 + t.toNat) * 2 ^ 2 +
    len.toNat) * 2 ^ 1 + (BitVec.ofBool msk).toNat) * 2 ^ 5 + m.toNat) * 2 ^ 21 := by
    rw [toNat_append_add, toNat_append_add, toNat_append_add, toNat_append_add, toNat_append_add, toNat_append_add]
    simp only [BitVec.toNat_ofNat, Nat.zero_mod, Nat.add_zero, Nat.reducePow, Nat.reduceMod]
  simp only [readL, field_of_toNat 39 0x04#5 hx (by simp only [BitVec.toNat_ofNat]; omega), field_of_toNat 34 v hx (by omega),
    field_of_toNat 29 t hx (by omega), field_of_toNat 27 len hx (by omega), flag_of_toNat 26 msk hx (by omega), field_of_toNat 21 m hx
    (by omega)]
  rfl

theorem readL_straya (n : Nat) (v t : BitVec 5) (aop : BitVec 3) (w : Bool) (p : BitVec 5) : readL n (0x05#5 ++ v ++ t ++ aop ++
    BitVec.ofBool w ++ p ++ 0#20) = some (.straya n v t aop w p) := by
  have hx : (0x05#5 ++ v ++ t ++ aop ++ BitVec.ofBool w ++ p ++ 0#20).toNat = (((((5 * 2 ^ 5 + v.toNat) * 2 ^ 5 + t.toNat) * 2 ^ 3 +
    aop.toNat) * 2 ^ 1 + (BitVec.ofBool w).toNat) * 2 ^ 5 + p.toNat) * 2 ^ 20 := by
    rw [toNat_append_add, toNat_append_add, toNat_append_add, toNat_append_add, toNat_append_add, toNat_append_add]
    simp only [BitVec.toNat_ofNat, Nat.zero_mod, Nat.add_zero, Nat.reducePow, Nat.reduceMod]
  simp only [readL, field_of_toNat 39 0x05#5 hx (by simp only [BitVec.toNat_ofNat]; omega), field_of_toNat 34 v hx (by omega),
    field_of_toNat 29 t hx (by omega), field_of_toNat 26 aop hx (by omega), flag_of_toNat 25 w hx (by omega), field_of_toNat 20 p hx
    (by omega)]
  rfl

/-! Every slot reads back what its encoder wrote. -/

theorem readC_of_encodeC {i : Instr} {n : Nat} {w : BitVec 48} (hn : i.coreOf = some n) (h : encodeC i = some w) : readC n w = some i := by
  unfold encodeC at h
  split at h <;> cases h <;> cases hn
  case h_1 => rfl -- NOP
  case h_35 => exact readC_hurdle ..
  case h_36 => exact readC_fold ..
  case h_37 => exact readC_rdtally ..
  case h_38 => exact readC_flgrd ..
  case h_39 => exact readC_flgclr ..
  all_goals
    simp only [readC, formCR_op, formCR_d, formCR_a, formCR_b, formCI_op, formCI_d, formCI_a, formCI_imm, formCB_op, formCB_a, formCB_off]
    rfl

theorem readM_of_encodeM {i : Instr} {n : Nat} {w : BitVec 56} (hn : i.coreOf = some n) (h : encodeM i = some w) : readM n w = some i := by
  unfold encodeM at h
  split at h <;> cases h <;> cases hn
  case h_1 => rfl -- NOP
  all_goals
    simp only [readM, formMA_op, formMA_rel, formMA_fmt, formMA_wt, formMA_reg, formMA_ea, formMK_op, formMK_reg, formMK_kvs]
    rfl

theorem readX_of_encodeX {i : Instr} {n : Nat} {w : BitVec 48} (hn : i.coreOf = some n) (h : encodeX i = some w) : readX n w = some i := by
  unfold encodeX at h
  split at h <;> cases h <;> cases hn
  case h_1 => rfl -- NOP
  case h_2 => exact readX_mxstream ..
  case h_3 => exact readX_accout ..
  case h_4 => exact readX_accclr ..

theorem readV_of_encodeV {i : Instr} {n : Nat} {w : BitVec 56} (hn : i.coreOf = some n) (h : encodeV i = some w) : readV n w = some i := by
  unfold encodeV at h
  split at h <;> cases h <;> cases hn
  case h_1 => rfl -- NOP
  case h_19 => exact readV_vcvt ..
  case h_22 => exact readV_gemv ..
  case h_23 => exact readV_lswadd ..
  case h_24 => exact readV_rngfill ..
  case h_25 => exact readV_vbcast ..
  all_goals
    simp only [readV, formVA_op, formVA_d, formVA_a, formVA_b, formVA_c, formVA_fmt, formVA_sub]
    rfl

theorem readL_of_encodeL {i : Instr} {n : Nat} {w : BitVec 44} (hn : i.coreOf = some n) (h : encodeL i = some w) : readL n w = some i := by
  unfold encodeL at h
  split at h <;> cases h <;> cases hn
  case h_1 => rfl -- NOP
  case h_2 => exact readL_send ..
  case h_3 => exact readL_recv ..
  case h_4 => exact readL_lswsend ..
  case h_5 => exact readL_strayw ..
  case h_6 => exact readL_straya ..

/-- A slot accepts what it reads where the encoding is its bits and the operand values are allowed (R177). -/
theorem accepted_some {w : Nat} {enc : Instr → Option (BitVec w)} {x : BitVec w} {i : Instr} (he : enc i = some x) (hv : opValid i = true) :
    accepted enc x (some i) = some i := if_pos ⟨he, hv⟩

/-- Settles O56: in each slot the operation read from an encoding is the one encoded, and the slot accepts it. -/
theorem operationsDecodeAsEncoded : Obligations.OperationsDecodeAsEncoded := by
  unfold Obligations.OperationsDecodeAsEncoded
  intro i n hn hv
  refine ⟨fun w he => ?_, fun w he => ?_, fun w he => ?_, fun w he => ?_, fun w he => ?_⟩
  · rw [decodeC, readC_of_encodeC hn he, accepted_some he hv]
  · rw [decodeM, readM_of_encodeM hn he, accepted_some he hv]
  · rw [decodeX, readX_of_encodeX hn he, accepted_some he hv]
  · rw [decodeV, readV_of_encodeV hn he, accepted_some he hv]
  · rw [decodeL, readL_of_encodeL hn he, accepted_some he hv]

/-! A bundle. -/

section
variable (last : Bool) (c : BitVec 48) (m : BitVec 56) (x : BitVec 48) (v : BitVec 56) (l : BitVec 44)

theorem encodeBundle_toNat : (encodeBundle last c m x v l).toNat = (((((BitVec.ofBool last).toNat * 2 ^ 3 * 2 ^ 44 + l.toNat) * 2 ^ 56
    + v.toNat) * 2 ^ 48 + x.toNat) * 2 ^ 56 + m.toNat) * 2 ^ 48 + c.toNat := by
  rw [encodeBundle, toNat_append_add, toNat_append_add, toNat_append_add, toNat_append_add, toNat_append_add, toNat_append_add]
  simp only [BitVec.toNat_ofNat, Nat.zero_mod, Nat.add_zero]
theorem encodeBundle_last : (encodeBundle last c m x v l).getLsbD 255 = last :=
  flag_of_toNat 255 last (encodeBundle_toNat ..) (by omega)
theorem encodeBundle_reserved : (encodeBundle last c m x v l).extractLsb' 252 3 = 0 :=
  field_of_toNat 252 0 (encodeBundle_toNat ..) (by simp only [BitVec.ofNat_eq_ofNat, BitVec.toNat_ofNat]; omega)
theorem encodeBundle_c : (encodeBundle last c m x v l).extractLsb' 0 48 = c := field_of_toNat 0 c (encodeBundle_toNat ..) (by omega)
theorem encodeBundle_m : (encodeBundle last c m x v l).extractLsb' 48 56 = m := field_of_toNat 48 m (encodeBundle_toNat ..) (by omega)
theorem encodeBundle_x : (encodeBundle last c m x v l).extractLsb' 104 48 = x := field_of_toNat 104 x (encodeBundle_toNat ..) (by omega)
theorem encodeBundle_v : (encodeBundle last c m x v l).extractLsb' 152 56 = v := field_of_toNat 152 v (encodeBundle_toNat ..) (by omega)
theorem encodeBundle_l : (encodeBundle last c m x v l).extractLsb' 208 44 = l := field_of_toNat 208 l (encodeBundle_toNat ..) (by omega)

end

/-- Settles O57: each field of an encoded bundle is the value given for it. -/
theorem bundlesDecodeBySlot : Obligations.BundlesDecodeBySlot := by
  unfold Obligations.BundlesDecodeBySlot
  intro n last c m x v l
  rw [decodeBundle, encodeBundle_last, encodeBundle_reserved, encodeBundle_c, encodeBundle_m, encodeBundle_x, encodeBundle_v,
    encodeBundle_l]
  rfl

end Sys2Proof
end

section
/-! SUPPORT. The step, the state right after reset, and the frame of one core's operations. -/

namespace Sys2Proof.Machine
open Sys2Proof.Spec

/-- Settles O50: the step looks at the front of the queue. -/
theorem stepRunsTheFrontCommand : Obligations.StepRunsTheFrontCommand := by
  intro s c rest h
  rw [step, h]

/-- Settles O51: the step of an empty queue is one core cycle. -/
theorem emptyQueueIsOneCoreCycle : Obligations.EmptyQueueIsOneCoreCycle := by
  intro s h
  rw [step, h]
  rfl

theorem bankBit_nil (src : Nat) : bankBit [] src = false := by simp [bankBit]

/-- Settles O52: the tables of the reset state are empty, so that every entry is the default one. -/
theorem resetState : Obligations.ResetState := by
  refine ⟨rfl, rfl, rfl, rfl, fun n => ⟨rfl, rfl, rfl, fun r => rfl, fun r => rfl⟩, fun k => rfl, fun p => rfl, fun p r => rfl, fun d k => ?_⟩
  exact bankBit_nil k

/-- Settles O54: no core and no memory is listed after reset. -/
theorem memoryFormAtReset : Obligations.MemoryFormAtReset := by
  refine ⟨fun e he => ?_, rfl⟩
  exact absurd he List.not_mem_nil

/-- The effect of an operation stays in its core. -/
def StaysIn (n : Nat) (eff : State → State) : Prop := ∀ s t : State, State.Own n s t → State.Own n s (eff t)

/-- An operation that issues with an effect that stays in its core. -/
def IssuesIn (n : Nat) (i : Instr) : Prop := ∃ eff, StaysIn n eff ∧ ∀ s, exec i s = .next (s.issueOp n i eff)

theorem IssuesIn.scalar {n l : Nat} {i : Instr} {d : BitVec 5} {v : Core → BitVec 64} (h : ∀ s, exec i s = s.issueScalar n i l d v) :
    IssuesIn n i := ⟨_, fun _ _ k => k.launch _ _, h⟩
theorem IssuesIn.vector {n l : Nat} {i : Instr} {d : BitVec 5} {v : Core → Block} (h : ∀ s, exec i s = s.issueVector n i l d v) :
    IssuesIn n i := ⟨_, fun _ _ k => k.launch _ _, h⟩
theorem IssuesIn.arith {n : Nat} {i : Instr} {d : BitVec 5} {fmt : BitVec 4} {v : Core → Block} (h : vectorArith i = some (n, d, fmt, v)) :
    IssuesIn n i := .vector fun s => (isVector_of_vectorArith s h).exec_eq
theorem IssuesIn.logic {n : Nat} {i : Instr} {d : BitVec 5} {v : Core → Block} (h : vectorLogic i = some (n, d, v)) : IssuesIn n i :=
  .vector fun s => (isVector_of_vectorLogic s h).exec_eq
theorem IssuesIn.branch {n : Nat} {i : Instr} {off : BitVec 19} {p : Core → Bool} (h : ∀ s, exec i s = .next (s.issueBranch n i off p)) :
    IssuesIn n i := ⟨_, fun _ _ k => k.branchAt _ _, h⟩

theorem issuesIn_nop (n : Nat) (k : Fin 5) : IssuesIn n (.nop n k) := ⟨_, fun _ _ h => h, fun _ => rfl⟩

theorem issuesIn_vbcast (n : Nat) (d a : BitVec 5) (fmt : BitVec 4) : IssuesIn n (.vbcast n d a fmt) :=
  .vector fun s => show execVbcast n d a fmt s = _ from rfl
theorem issuesIn_vred (n : Nat) (d a : BitVec 5) (fmt : BitVec 4) (sub : BitVec 4) : IssuesIn n (.vred n d a fmt sub) :=
  .vector fun s => show execVred n d a fmt sub s = _ from rfl
theorem issuesIn_vtr (n : Nat) (d a : BitVec 5) (fmt : BitVec 4) (sub : BitVec 4) : IssuesIn n (.vtr n d a fmt sub) :=
  .vector fun s => show execVtr n d a fmt sub s = _ from rfl

theorem issuesIn_of_slot_zero {i : Instr} {n : Nat} (hslot : slotOf i = some 0) (hcore : i.coreOf = some n)
    (hh : ∀ cl, i ≠ .hurdle n cl) : IssuesIn n i := by
  cases i
  case hurdle m cl =>
    cases hcore
    exact absurd rfl (hh cl)
  case nop => cases hcore; exact issuesIn_nop _ _
  case fold => cases hcore; exact ⟨_, fun _ _ k => (k.hurdleAt _ _ (by decide)).modCore _ (by exact id), fun _ => rfl⟩
  case bdec => cases hcore; exact ⟨_, fun _ _ k => (k.branchAt _ _).launch _ _, fun _ => rfl⟩
  case flgclr => cases hcore; exact ⟨_, fun _ _ k => k.launch _ _, fun _ => rfl⟩
  case flgrd => cases hcore; exact .scalar fun _ => rfl
  case rdtally => cases hcore; exact .scalar (isScalar_rdtally _ _).exec_eq
  case br | beqz | bnez | bltz | bgez => cases hcore; exact .branch (isBranch_of_branches rfl (by nofun)).exec_eq
  case add | sub | and | or | xor | shl | shr | sar | cmpeq | cmplt | cmpltu | mul | mov =>
    cases hcore
    exact .scalar (isScalar_of_scalarRegs rfl).exec_eq
  case addi | subi | andi | ori | xori | shli | shri | sari | cmpeqi | cmplti | cmpltui | muli | li | lih =>
    cases hcore
    exact .scalar (isScalar_of_scalarImms rfl).exec_eq
  all_goals nomatch hslot

theorem issuesIn_of_slot_three {i : Instr} {n : Nat} (hslot : slotOf i = some 3) (hcore : i.coreOf = some n) : IssuesIn n i := by
  cases i
  case nop => cases hcore; exact issuesIn_nop _ _
  case vcvt => cases hcore; exact ⟨_, fun _ _ k => (k.launch _ _).launch _ _, fun _ => rfl⟩
  case gemv =>
    cases hcore
    refine ⟨_, fun s t k => ?_, fun _ => rfl⟩
    dsimp only
    refine State.Own.foldl _ (fun _ _ k => k.launch _ _) _ ?_
    split
    · exact State.Own.foldl _ (fun _ _ k => k.launch _ _) _ k
    · exact k
  case lswadd | rngfill => cases hcore; exact ⟨_, fun _ _ k => k.launch _ _, fun _ => rfl⟩
  case vbcast => cases hcore; exact issuesIn_vbcast _ _ _ _
  case vred => cases hcore; exact issuesIn_vred _ _ _ _ _
  case vtr => cases hcore; exact issuesIn_vtr _ _ _ _ _
  case vfma | vadd | vsub | vmul | vmax | vmin => cases hcore; exact .arith rfl
  case vcmp | vsel | vand | vor | vxor | viadd | visub | vimul | vshl | vshr | vsar =>
    cases hcore
    exact .logic rfl
  all_goals nomatch hslot

/-- Slots M, X and L. -/
theorem issuesIn_of_slot_other {i : Instr} {n k : Nat} (hslot : slotOf i = some k) (h0 : k ≠ 0) (h3 : k ≠ 3) (hcore : i.coreOf = some n) :
    IssuesIn n i := by
  cases i
  case nop => cases hcore; exact issuesIn_nop _ _
  case mxstream => cases hcore; exact ⟨_, fun _ _ k => State.Own.foldl _ (fun _ _ k => k.launch _ _) _ k, fun _ => rfl⟩
  case accout =>
    cases hcore
    exact ⟨_, fun _ _ k => (State.Own.foldl _ (fun _ _ k => k.launch _ _) _ k).launch _ _, fun _ => rfl⟩
  case mxload =>
    cases hcore
    exact ⟨_, fun _ _ k => (((k.modCore _ (by exact id)).launchTile _ _ _ _).launch _ _).launchBase _, fun _ => rfl⟩
  case kvapp => cases hcore; exact ⟨_, fun _ _ k => (k.launch _ _).launch _ _, fun _ => rfl⟩
  case send | lswsend => cases hcore; exact ⟨_, fun _ _ k => k.sendFlits _ _ _, fun _ => rfl⟩
  case strayw | straya => cases hcore; exact ⟨_, fun _ _ k => k.strayRequest _ _ _ _, fun _ => rfl⟩
  case lds | ldv | stv => cases hcore; exact ⟨_, fun _ _ k => (k.launch _ _).launchBase _, fun _ => rfl⟩
  case recv | kvcommit | kvdrop | accclr => cases hcore; exact ⟨_, fun _ _ k => k.launch _ _, fun _ => rfl⟩
  all_goals cases hslot
  all_goals contradiction

/-- Every operation of a core but HURDLE has its effect in its core. -/
theorem issuesIn_of_slotOf {i : Instr} {n : Nat} (hslot : (slotOf i).isSome = true) (hcore : i.coreOf = some n)
    (hh : ∀ cl, i ≠ .hurdle n cl) : IssuesIn n i := by
  obtain ⟨k, hk⟩ := Option.isSome_iff_exists.mp hslot
  by_cases h0 : k = 0
  · exact issuesIn_of_slot_zero (h0 ▸ hk) hcore hh
  · by_cases h3 : k = 3
    · exact issuesIn_of_slot_three (h3 ▸ hk) hcore
    · exact issuesIn_of_slot_other hk h0 h3 hcore

/-- Settles O58: issue, checks, faults and effect of an operation stay in its core. -/
theorem operationsKeepOtherCores : Obligations.OperationsKeepOtherCores := by
  intro s t i n m hslot hcore hh hwait hm ht
  obtain ⟨eff, heff, hexec⟩ := issuesIn_of_slotOf hslot hcore hh
  rw [hexec] at ht
  cases ht
  obtain ⟨hothers, htier, hports, hnv, htime, -⟩ := State.Own.issueOp i eff (fun t => heff s t) hwait
  exact ⟨hothers m hm, htier, hports, hnv, htime⟩

end Sys2Proof.Machine
end

section
/-! SUPPORT. A written line reads back. -/

namespace Sys2Proof.Machine
open Sys2Proof.Spec

theorem Tab.get_del_self {α : Type} (d : α) (k : Nat) (t : List (Nat × α)) : Tab.get d (Tab.del k t) k = d := by
  induction t with
  | nil => rfl
  | cons e t ih =>
    by_cases hk : e.1 = k
    · rwa [Tab.del, List.filter_cons_of_neg (by simpa using hk)]
    · rw [Tab.del, List.filter_cons_of_pos (by simpa using hk), Tab.get, if_neg (Ne.symm hk)]
      split
      · rfl
      · exact ih

theorem Mem.readN_eq_map (m : List (Nat × Byte)) (a k : Nat) : Mem.readN m a k = (List.range k).map fun i => Mem.read m (a + i) := by
  induction k generalizing a with
  | zero => rfl
  | succ k ih =>
    rw [Mem.readN, ih, List.range_succ_eq_map, List.map_cons, List.map_map]
    refine congrArg _ (List.map_congr_left fun i _ => ?_)
    simp only [Function.comp, Nat.succ_eq_add_one]
    congr 1; omega

/-- What a sequence of bytes reads as where it has been written. -/
theorem Mem.readN_writeN_self (m : List (Nat × Byte)) (a : Nat) (bs : Bytes) (hm : Memory.wf m = true) :
    Mem.readN (Mem.writeN m a bs) a bs.length = bs := by
  rw [Mem.readN_eq_map]
  refine List.ext_getElem (by simp) fun i h1 h2 => ?_
  simp only [List.getElem_map, List.getElem_range, Mem.read_writeN _ _ _ _ hm]
  rw [if_pos ⟨by omega, by omega⟩, Nat.add_sub_cancel_left, List.getD_eq_getElem?_getD, List.getElem?_eq_getElem h2, Option.getD_some]

/-- Little-endian bytes of a value: the value's low part, one more byte at a time. -/
theorem leNat_map_bytes (x k : Nat) : leNat ((List.range k).map fun i => BitVec.ofNat 8 (x >>> (8 * i))) = x % 2 ^ (8 * k) := by
  induction k generalizing x with
  | zero => simp [leNat, Nat.mod_one]
  | succ k ih =>
    have hrest : ((List.range k).map fun i => BitVec.ofNat 8 (x >>> (8 * (i + 1)))) = (List.range k).map fun i => BitVec.ofNat 8 ((x / 256) >>> (8 * i)) :=
      List.map_congr_left fun i _ => by
        rw [show (x / 256) = x >>> 8 by rw [Nat.shiftRight_eq_div_pow], ← Nat.shiftRight_add]; congr 2; omega
    rw [List.range_succ_eq_map, List.map_cons, List.map_map, leNat]
    simp only [Function.comp_def, Nat.succ_eq_add_one]
    rw [hrest, ih, show 8 * (k + 1) = 8 + 8 * k by omega, Nat.pow_add, Nat.mod_mul]
    simp

theorem bytesBv_bvBytes (k : Nat) (v : BitVec (8 * k)) : bytesBv (8 * k) (bvBytes k v) = v := by
  have hb : bvBytes k v = (List.range k).map fun i => BitVec.ofNat 8 (v.toNat >>> (8 * i)) := by
    refine List.map_congr_left fun i _ => ?_
    rfl
  rw [bytesBv, hb, leNat_map_bytes, Nat.mod_eq_of_lt v.isLt, BitVec.ofNat_toNat, BitVec.setWidth_eq]

theorem bvBytes_length {w : Nat} (k : Nat) (v : BitVec w) : (bvBytes k v).length = k := by simp [bvBytes]

theorem Core.lineErrs_writeLine (c : Core) (l : Nat) (d : Line) : (c.writeLine l d).lineErrs l = [] := Tab.get_del_self _ _ _

/-- A line without an error pattern decodes as clean and reads as it is stored (R102, R103). -/
theorem Core.lineEcc_of_lineErrs_nil {c : Core} {l : Nat} (h : c.lineErrs l = []) : c.lineEcc l = .clean := by
  rw [Core.lineEcc, h]
  decide
theorem Core.readLine_of_lineErrs_nil {c : Core} {l : Nat} (h : c.lineErrs l = []) : c.readLine l = c.lineData l := by
  rw [Core.readLine, Core.lineEcc_of_lineErrs_nil h, h]
  rfl

theorem Core.lineData_writeLine (c : Core) (l : Nat) (d : Line) (hm : Memory.wf c.sram = true) : (c.writeLine l d).lineData l = d := by
  have hread := Mem.readN_writeN_self c.sram (64 * l) (bvBytes 64 d) hm
  rw [bvBytes_length] at hread
  rw [Core.lineData, Core.sram_writeLine, hread]
  exact bytesBv_bvBytes 64 d

/-- Settles O55: the write lists the line's bytes and drops its error pattern. -/
theorem lineReadsBack : Obligations.LineReadsBack := by
  intro c line d hm
  have herrs := c.lineErrs_writeLine line d
  refine ⟨(Core.readLine_of_lineErrs_nil herrs).trans (c.lineData_writeLine line d hm), Core.lineEcc_of_lineErrs_nil herrs, fun a ha => ?_⟩
  rw [Core.sram_writeLine, Mem.read_writeN _ _ _ _ hm, bvBytes_length]
  exact if_neg (by omega)

end Sys2Proof.Machine
end

section
/-! SUPPORT. The event controllers: banks, delivery and assertion. -/

namespace Sys2Proof.Machine
open Sys2Proof.Spec

@[simp] theorem State.msix_evc (s : State) (p v k : Nat) : (s.msix p v).evc k = s.evc k := by
  unfold State.msix; dsimp only; split <;> rfl
@[simp] theorem State.deliver_evc (s : State) (d x k : Nat) : (s.deliver d x).evc k = s.evc k := by
  unfold State.deliver; dsimp only
  split <;> split <;> simp

/-- Delivery of the sources of a bank that `rise` names. -/
theorem State.foldl_deliver_evc (rise : BitVec 64) (d bank k : Nat) (l : List Nat) (s : State) :
    (l.foldl (fun (s : State) j => if rise.getLsbD j then s.deliver d (64 * bank + j) else s) s).evc k = s.evc k := by
  induction l generalizing s with
  | nil => rfl
  | cons j l ih =>
    rw [List.foldl_cons, ih]
    split
    · exact State.deliver_evc _ _ _ _
    · rfl

/-- A change of a bank changes its controller as the function says: a delivery leaves the controllers alone (R511). -/
theorem State.changeBank_evc (s : State) (d bank : Nat) (f : Evc → Evc) : (s.changeBank d bank f).evc d = f (s.evc d) := by
  rw [State.changeBank, State.foldl_deliver_evc, State.evc_setEvc_self]

theorem foldl_unchanged {α β : Type} (l : List β) (s : α) : l.foldl (fun s _ => s) s = s := by
  induction l with
  | nil => rfl
  | cons x l ih => exact ih
theorem foldl_congr_of_mem {α β : Type} {f g : α → β → α} {l : List β} (h : ∀ t, ∀ x ∈ l, f t x = g t x) (s : α) : l.foldl f s = l.foldl g s := by
  induction l generalizing s with
  | nil => rfl
  | cons x l ih =>
    rw [List.foldl_cons, List.foldl_cons, h s x List.mem_cons_self]
    exact ih (fun t y hy => h t y (List.mem_cons_of_mem x hy)) _

/-- Where no source opens, a change of a bank delivers nothing. -/
theorem State.changeBank_of_closed {s : State} {d bank : Nat} {f : Evc → Evc}
    (h : (f (s.evc d)).open bank &&& ~~~((s.evc d).open bank) = 0) : s.changeBank d bank f = s.setEvc d (f (s.evc d)) := by
  have hno (j : Nat) : ¬(0 : BitVec 64).getLsbD j = true := by simp
  simp only [State.changeBank, h, if_neg (hno _), foldl_unchanged]

theorem foldl_ite_of_not_mem {α : Type} (f : α → Nat → α) {j : Nat} {l : List Nat} (hj : j ∉ l) (s : α) :
    l.foldl (fun s i => if i = j then f s i else s) s = s := by
  induction l with
  | nil => rfl
  | cons x l ih =>
    rw [List.foldl_cons, if_neg (List.ne_of_not_mem_cons hj).symm, ih (List.not_mem_of_not_mem_cons hj)]

theorem foldl_ite_of_mem {α : Type} (f : α → Nat → α) {j : Nat} {l : List Nat} (hl : l.Nodup) (hj : j ∈ l) (s : α) :
    l.foldl (fun s i => if i = j then f s i else s) s = f s j := by
  induction l generalizing s with
  | nil => exact absurd hj List.not_mem_nil
  | cons x l ih =>
    obtain ⟨hx, hl⟩ := List.nodup_cons.mp hl
    rw [List.foldl_cons]
    by_cases h : x = j
    · subst h
      rw [if_pos rfl, foldl_ite_of_not_mem f hx]
    · rw [if_neg h, ih hl ((List.mem_cons.mp hj).resolve_left (Ne.symm h))]

theorem natBit_getLsbD {i : Nat} (j : Nat) (hi : i < 64) : (((1 <<< j : Nat) : BitVec 64)).getLsbD i = decide (i = j) := by
  rw [BitVec.natCast_eq_ofNat, BitVec.getLsbD_ofNat, decide_eq_true hi, Bool.true_and, Nat.one_shiftLeft, Nat.testBit_two_pow, decide_eq_decide]
  exact eq_comm
theorem oneBit_getLsbD {i : Nat} (j : Nat) (hi : i < 64) : ((1 : BitVec 64) <<< j).getLsbD i = decide (i = j) := by
  have h : (1 : BitVec 64) <<< j = ((1 <<< j : Nat) : BitVec 64) := rfl
  rw [h, natBit_getLsbD j hi]

/-- Where one source opens, it is delivered once. -/
theorem State.changeBank_of_opens {s : State} {d bank j : Nat} {f : Evc → Evc} (hj : j < 64)
    (h : (f (s.evc d)).open bank &&& ~~~((s.evc d).open bank) = (1 : BitVec 64) <<< j) :
    s.changeBank d bank f = (s.setEvc d (f (s.evc d))).deliver d (64 * bank + j) := by
  simp only [State.changeBank, h]
  rw [← foldl_ite_of_mem (fun (s : State) i => s.deliver d (64 * bank + i)) List.nodup_range (List.mem_range.mpr hj)]
  refine foldl_congr_of_mem (fun t i hi => ?_) _
  simp only [oneBit_getLsbD j (List.mem_range.mp hi), decide_eq_true_eq]

theorem bankWrite_of_changeBank {i : Instr} {s : State} {d bank : Nat} {e1 : Evc} (f : Evc → Evc) (g : State → State)
    (h : exec i s = .next (g (s.changeBank d bank f))) (he : e1 = f (s.evc d)) : BankWrite i s d bank e1 g := by
  subst he
  refine ⟨fun h0 => ?_, fun j hj h1 => ?_⟩
  · rw [h, State.changeBank_of_closed h0]
  · rw [h, State.changeBank_of_opens hj h1]

theorem bankBit_setBankBit_self (t : List (Nat × BitVec 64)) (src : Nat) : bankBit (setBankBit t src true) src = true := by
  have hlt := Nat.mod_lt src (show 0 < 64 by decide)
  rw [bankBit, setBankBit, Tab.get_put_self, if_pos rfl, BitVec.getLsbD_or, natBit_getLsbD _ hlt, decide_eq_true rfl, Bool.or_true]

theorem bankBit_setBankBit_of_set {t : List (Nat × BitVec 64)} {x : Nat} (src : Nat) (h : bankBit t x = true) :
    bankBit (setBankBit t src true) x = true := by
  unfold bankBit setBankBit at *
  rw [Tab.get_put]
  split
  case isTrue he => rw [if_pos rfl, ← he, BitVec.getLsbD_or, h, Bool.true_or]
  case isFalse => exact h

theorem State.setPend_pend (s : State) (d src : Nat) : ((s.setPend d src).evc d).pend = setBankBit (s.evc d).pend src true := by
  unfold State.setPend; dsimp only; split <;> simp

theorem State.guardSummary_pend {s : State} {d x : Nat} (h : bankBit (s.evc d).pend x = true) :
    bankBit ((s.guardSummary d).evc d).pend x = true := by
  unfold State.guardSummary; dsimp only; split
  · rw [State.setPend_pend]
    exact bankBit_setBankBit_of_set _ (by simpa using h)
  · simpa using h

/-- An assertion makes its source pending (R504, R511). -/
theorem State.assertEvent_pend (s : State) (d src : Nat) (h : (sourceClass d src).isSome = true) :
    bankBit ((s.assertEvent d src).evc d).pend src = true := by
  have hpend (t : State) : bankBit ((t.setPend d src).evc d).pend src = true := by
    rw [State.setPend_pend]; exact bankBit_setBankBit_self _ _
  unfold State.assertEvent
  rw [if_neg (by simpa using Option.isSome_iff_ne_none.mp h)]
  dsimp only
  split
  · exact hpend _
  · split
    · exact State.guardSummary_pend (hpend _)
    · exact hpend _

/-! The writes of a bank that exists. -/

section
variable {s : State} {d bank : Nat} (v : BitVec 64) (hd : d < 2) (hb : bank < 16)
include hd hb
theorem exec_pendWrite : exec (.pendWrite d bank v) s = .next (s.pendWrite d bank v) := congrArg Host.Outcome.next (if_pos ⟨hd, hb⟩)
theorem exec_pendW1cWrite : exec (.pendW1cWrite d bank v) s = .next (s.pendClear d bank v) := congrArg Host.Outcome.next (if_pos ⟨hd, hb⟩)
theorem exec_maskWrite : exec (.maskWrite d bank v) s = .next (s.maskWrite d bank v) := congrArg Host.Outcome.next (if_pos ⟨hd, hb⟩)
theorem exec_stormClear : exec (.stormClear d bank v) s = .next (s.stormClear d bank v) := congrArg Host.Outcome.next (if_pos ⟨hd, hb⟩)
theorem exec_stuckClear : exec (.stuckClear d bank v) s = .next (s.stuckClear d bank v) := congrArg Host.Outcome.next (if_pos ⟨hd, hb⟩)
end

/-- Settles O60: the level is part of every value written, and a masked source opens nothing. -/
theorem activeLevelsStayPending : Obligations.ActiveLevelsStayPending := by
  refine ⟨fun s t i d bank j v hd hb hi hl ht => ?_, fun s d src hm => ?_⟩
  · have hset (w : BitVec 64) : (w ||| Tab.get 0 (s.evc d).level bank).getLsbD j = true := by
      rw [BitVec.getLsbD_or, hl, Bool.or_true]
    rcases hi with rfl | rfl
    · rw [exec_pendWrite v hd hb] at ht
      cases ht
      rw [State.pendWrite, State.changeBank_evc]
      simp only [Tab.get_put_self, hset]
    · rw [exec_pendW1cWrite v hd hb] at ht
      cases ht
      rw [State.pendClear, State.changeBank_evc]
      simp only [Tab.get_put_self, hset]
  · have h : s.setPend d src = s.setEvc d { s.evc d with pend := setBankBit (s.evc d).pend src true } := by
      unfold State.setPend
      simp only [hm, Bool.not_true, Bool.and_false, Bool.false_eq_true, if_false]
    rw [h]
    refine ⟨rfl, rfl, ?_⟩
    rw [State.evc_setEvc_self]
    exact bankBit_setBankBit_self _ _

/-- An edge or the input of a level source that rises, but for source 1 (R504). -/
theorem exec_eventAssert {s : State} {d src : Nat} (hd : d < 2) (hs : (sourceClass d src).isSome = true) (h1 : src ≠ 1) :
    exec (.eventAssert d src) s = .next (if sourceLevel src then s.levelInput d src true else s.assertEvent d src) :=
  congrArg Host.Outcome.next (if_neg (by simp [Option.isSome_iff_ne_none.mp hs, h1, hd]))

/-- Settles O47: a bank write is a change of its bank, and the rest is the model's event operations. -/
theorem eventController : Obligations.EventController := by
  refine ⟨fun s d src hd hs h1 => ?_, State.assertEvent_pend, fun s d bank v hd hb => ?_, fun s d src v hd hs => ?_,
    fun s d src hd hs hl hk => ?_⟩
  · rw [exec_eventAssert hd hs h1]
    refine ⟨fun hl => ?_, fun hl hb => ?_, fun hl hb => ?_⟩
    · rw [if_neg (by simp [hl])]
    · rw [if_pos hl, State.levelInput]
      simp only [hb, Bool.not_true, Bool.and_false, Bool.false_eq_true, if_false]
    · rw [if_pos hl, State.levelInput]
      simp only [hb, Bool.not_false, Bool.and_self, if_true]
  · exact ⟨bankWrite_of_changeBank _ id (exec_pendWrite v hd hb) rfl, bankWrite_of_changeBank _ id (exec_pendW1cWrite v hd hb) rfl,
      bankWrite_of_changeBank _ id (exec_maskWrite v hd hb) rfl,
      bankWrite_of_changeBank _ (·.guardSummary d) (exec_stormClear v hd hb) rfl,
      bankWrite_of_changeBank _ (·.guardSummary d) (exec_stuckClear v hd hb) rfl⟩
  · have hx : exec (.srcCfgWrite d src v) s = .next (s.cfgWrite d src v) := congrArg Host.Outcome.next (if_pos hd)
    rw [hx, State.cfgWrite, if_neg (by simp [Option.isSome_iff_ne_none.mp hs])]
  · have hsrc : src < 1024 ∧ sourceLevel src = true ∧ sourceExempt src = false := by
      simp only [List.mem_cons, List.not_mem_nil, or_false] at hs
      rcases hs with rfl | rfl | rfl <;> decide
    exact congrArg Host.Outcome.next (if_pos ⟨hd, hsrc.1, hsrc.2.1, hsrc.2.2, hl, hk⟩)

end Sys2Proof.Machine
end

section
/-! SUPPORT. What is due at a core's live cycle, and the end of a step. -/

namespace Sys2Proof.Machine
open Sys2Proof.Spec

theorem collides_of_banks_nil {f : Flight} (all : List Flight) (h : f.act.banks = []) : collides all f = false := by
  rw [collides, h, List.any_nil]

/-- One event that uses no bank, due alone: it happens at the core from which what is due has been taken (R42, R43). -/
theorem State.settle_one {s : State} {n : Nat} {f : Flight} (hdue : (s.core n).dueNow = [f]) (hb : f.act.banks = []) :
    s.settle n = (s.setCore n (cleared (s.core n))).happen n f := by
  have hc : collides [f] f = false := collides_of_banks_nil _ hb
  have hclear : [f].filter (·.act == .flagClear) ++ [f].filter (·.act != .flagClear) = [f] := by
    by_cases h : f.act = .flagClear <;> simp [h]
  have hgood : [f].filter (fun g => !collides [f] g) = [f] := by simp [hc]
  have hbad : [f].filter (collides [f]) = [] := by simp [hc]
  simp only [State.settle, hdue, hgood, hbad, hclear, List.isEmpty_cons, List.isEmpty_nil, Bool.false_eq_true, if_false, if_true,
    List.foldl_cons, List.foldl_nil]
  rfl

theorem exec_resultLands_one {s : State} {n : Nat} {f : Flight} (hadv : s.advances n = true) (hdue : (s.core n).dueNow = [f])
    (hb : f.act.banks = []) : exec (.resultLands n) s = .next ((s.setCore n (cleared (s.core n))).happen n f) :=
  congrArg Host.Outcome.next ((if_pos hadv : s.land n = _).trans (State.settle_one hdue hb))

/-- Settles O19: one due event happens alone, a core that does not advance lands nothing, and a fill happens alone. -/
theorem resultsAndTilesLand : Obligations.ResultsAndTilesLand := by
  refine ⟨fun s n f hadv hdue => ⟨fun r v hf => ?_, fun r v a hf => ?_, fun k hf => ?_, fun hf => ?_⟩, fun s n hadv => ?_,
    fun s n fmt b f hadv hw hf hfill => ?_⟩
  · rw [exec_resultLands_one hadv hdue (by rw [hf]; rfl)]
    simp only [State.happen, hf, State.modCore_eq, State.core_setCore_self, State.setCore_setCore]
  · rw [exec_resultLands_one hadv hdue (by rw [hf]; rfl)]
    simp only [State.happen, hf, State.modCore_eq, State.core_setCore_self, State.setCore_setCore]
  · rw [exec_resultLands_one hadv hdue (by rw [hf]; rfl)]
    simp only [State.happen, hf, State.modCore_eq, State.core_setCore_self, State.setCore_setCore, Core.setFlags]
  · rw [exec_resultLands_one hadv hdue (by rw [hf]; rfl)]
    simp only [State.happen, hf, State.modCore_eq, State.core_setCore_self, State.setCore_setCore, Core.clearFlags]
  · exact congrArg Host.Outcome.next (if_neg (by simp [hadv]))
  · have hx : exec (.tileReady n b) s = .next (s.happenAll n fun g => g.fills b (s.core n).live) := by
      refine congrArg Host.Outcome.next ((if_neg (by simp [hw])).trans (if_pos hadv))
    rw [hx, State.happenAll, hfill]
    simp only [List.foldl_cons, List.foldl_nil, State.happen, hf, State.modCore_eq, State.core_setCore_self, State.setCore_setCore]
    rfl

theorem State.beginHold_eq_held {s : State} {n cause origin : Nat} (hrun : (s.core n).run = .run)
    (hh : ((s.core n).holds.any fun h => h.1 == cause && h.2.2 == origin) = false) :
    s.beginHold n cause origin = held s n cause origin := by
  unfold State.beginHold
  simp only [hrun, hh, bne_self_eq_false, Bool.or_self, Bool.false_eq_true, if_false, held]
  by_cases he : (s.core n).holds.isEmpty = true
  · simp only [he, if_true, State.dropAhead, State.modCore_eq, State.core_setCore_self, State.setCore_setCore] <;> rfl
  · simp only [he, Bool.false_eq_true, if_false] <;> rfl

theorem State.beginStep_of_open {s : State} {n : Nat} (hc : s.closed n = true) (hf : s.failedAt n = false)
    (hfold : s.foldNamed n = none ∨ (s.core n).foldDone = true) (hhand : s.fab.fold.handTo = none) (hg : s.gated n = false)
    (hd : s.nextDesc n ≠ lastDesc) : s.beginStep n = s.nextStep n := by
  have hwait : ((s.foldNamed n).isSome && !(s.core n).foldDone) = false := by
    rcases hfold with h | h <;> simp [h]
  simp only [State.beginStep, hf, hc, hwait, hhand, hd, hg, Option.isSome_none, Bool.and_false, Bool.false_and, Bool.not_true,
    Bool.false_eq_true, if_false]

theorem State.nextStep_of_not_killed {s : State} {n : Nat} (h : ∀ k x, s.runCtx = some (k, x) → x.killed = false) :
    s.nextStep n = s.openStep n := by
  cases hr : s.runCtx with
  | none => simp only [State.nextStep, hr, Bool.false_and, Bool.false_eq_true, if_false]
  | some p => simp only [State.nextStep, hr, h p.1 p.2 hr, Bool.false_and, Bool.false_eq_true, if_false]

/-- Settles O21: the branches of the step's begin, and a report that is known and true is kept. -/
theorem stepEvents : Obligations.StepEvents := by
  refine ⟨fun s n hc hf hfold hhand hg hd hk => ?_, fun s n hc hf hfold hdone hrun hh => ?_, fun s n hc hf => ?_,
    fun s n flow r t m k d slot b hp hs hi hr hlt hb => ?_⟩
  · refine congrArg Host.Outcome.next ((State.beginStep_of_open hc hf hfold hhand hg hd).trans ((State.nextStep_of_not_killed hk).trans ?_))
    rfl
  · refine congrArg Host.Outcome.next (Eq.trans ?_ (State.beginHold_eq_held hrun hh))
    simp only [State.beginStep, hf, hc, hfold, hdone, Bool.not_true, Bool.not_false, Bool.and_self, Bool.false_eq_true, if_false, if_true]
  · refine congrArg Host.Outcome.next (?_ : s.beginStep n = s)
    simp only [State.beginStep, hf, hc, Bool.not_false, Bool.false_eq_true, if_false, if_true]
  · refine congrArg Host.Outcome.next (if_pos ?_)
    simp only [hp, hs, hi, hr, hb, hlt, decide_true, Bool.and_self]

end Sys2Proof.Machine
end

section
/-! SUPPORT. Bank cycles, the weight streamer and the tier. -/

namespace Sys2Proof.Machine
open Sys2Proof.Spec

theorem Core.mayServe_of_no_hurdles {c : Core} (h : c.hurdles = []) (cls : Nat) (p : HurdleWait → Bool) : c.mayServe cls p = true := by
  rw [Core.mayServe, h, List.all_nil]
theorem Core.modHurdle_of_no_hurdles {c : Core} (h : c.hurdles = []) (f : HurdleWait → HurdleWait) : c.modHurdle f = c := by
  have hnil : (c.hurdles.map f).filter (fun h => h.stays c.live) = c.hurdles := by rw [h]; rfl
  rw [Core.modHurdle, hnil]

/-- A core without holds whose queues are neither empty nor full keeps its state when it is looked at again (R55). -/
theorem State.refresh_setCore_of_quiet (s : State) (n : Nat) {c : Core} (hh : c.holds = []) (hq : c.queue ≠ []) (hi : c.inbound.length < 24)
    (he : c.ejectQ.length < 6) : (s.setCore n c).refresh n = s.setCore n c := by
  have hrecheck : (s.setCore n c).recheck n = s.setCore n c := by
    simp only [State.recheck, State.core_setCore_self, hh, List.any_nil, Bool.false_eq_true, if_false]
  have hend (cause origin : Nat) : (s.setCore n c).endHold n cause origin = s.setCore n c := by
    have : { c with holds := c.holds.filter fun h => !(h.1 == cause && h.2.2 == origin) } = c := by rw [hh, List.filter_nil, ← hh]
    rw [State.endHold, State.modCore_eq, State.core_setCore_self, this, State.setCore_setCore]
  have hq' : c.queue.isEmpty = false := by simpa using hq
  simp only [State.refresh, hrecheck, State.core_setCore_self, hq', Bool.false_eq_true, hend, if_neg (show ¬24 ≤ c.inbound.length by omega),
    if_neg (show ¬6 ≤ c.ejectQ.length by omega), ite_self]

theorem State.writeInbound_first (s : State) (n : Nat) {c : Core} {x : Inbound} (hkeep : s.pw.keeper = false)
    (hkind : c.isKind (s.runSlot.getD 0) x.line (if x.landing then 3 else 2) = true) (hfill : c.fill.contains x.line = false)
    (hnull : x.null = false) (hpoison : x.poison = false) :
    (s.setCore n c).writeInbound n x
      = s.setCore n { c.writeLine x.line x.data with banks := bankOf x.line :: c.banks, fill := x.line :: c.fill } := by
  have hrun : (s.setCore n c).runSlot = s.runSlot := rfl
  simp only [State.writeInbound, State.setCore_pw, hkeep, State.core_setCore_self, hrun, hkind, hfill, hnull, hpoison, Bool.false_eq_true,
    if_false, if_true, State.setCore_setCore]

/-- The line at the head of the queue, written (R85, R96). -/
def Core.filled (c : Core) (x : Inbound) (rest : List Inbound) : Core :=
  { c.writeLine x.line x.data with inbound := rest, banks := bankOf x.line :: c.banks, fill := x.line :: c.fill }

theorem Core.filled_eq (c : Core) (x : Inbound) (rest : List Inbound) :
    { ({ c with inbound := rest } : Core).writeLine x.line x.data with banks := bankOf x.line :: c.banks, fill := x.line :: c.fill }
      = c.filled x rest := by
  simp only [Core.filled, Core.writeLine]
theorem Core.filled_holds (c : Core) (x : Inbound) (rest : List Inbound) : (c.filled x rest).holds = c.holds := by
  simp only [Core.filled, Core.writeLine]
theorem Core.filled_queue (c : Core) (x : Inbound) (rest : List Inbound) : (c.filled x rest).queue = c.queue := by
  simp only [Core.filled, Core.writeLine]
theorem Core.filled_inbound (c : Core) (x : Inbound) (rest : List Inbound) : (c.filled x rest).inbound = rest := by
  simp only [Core.filled, Core.writeLine]
theorem Core.filled_ejectQ (c : Core) (x : Inbound) (rest : List Inbound) : (c.filled x rest).ejectQ = c.ejectQ := by
  simp only [Core.filled, Core.writeLine]

/-- Settles O22: each access of a bank cycle, under the conditions that let it go, is the model's read or write. -/
theorem bankCycleEvents : Obligations.BankCycleEvents := by
  refine ⟨fun s n hm hecc => ?_, fun s n l hm => ⟨fun hecc => ?_, fun hecc => ?_⟩,
    fun s n bank x rest hin hbank hfree hfetch hhur hkeep hkind hfill hnull hpoison hh hq hi he => ?_,
    fun s n l rest hwb hkeep hfree hqueued hfetch => ?_, fun s n hscrub hn hfree hwant hahead => ⟨fun hecc => ?_, fun k e hecc => ?_⟩⟩
  · refine congrArg Host.Outcome.next ((if_pos hm).trans ?_)
    simp only [State.fetchRead, hecc, State.modCore_eq, State.core_setCore_self, State.setCore_setCore, Core.fly]
  · refine congrArg Host.Outcome.next ((if_pos hm).trans ?_)
    simp only [hecc, beq_self_eq_true, if_true]
  · refine congrArg Host.Outcome.next ((if_pos hm).trans ?_)
    simp only [beq_eq_false_iff_ne.mpr hecc, Bool.false_eq_true, if_false]
  · subst hbank
    have hidx : (x :: rest).findIdx (fun y => bankOf y.line == bankOf x.line) = 0 := by
      rw [List.findIdx_cons, beq_self_eq_true, cond_true]
    have hlift {c : Core} (h : c.hurdles = []) : (if x.landing then (c.inboundHandled 0).tierHandled x.line else c.inboundHandled 0) = c := by
      rw [Core.inboundHandled, Core.modHurdle_of_no_hurdles h, Core.tierHandled, Core.modHurdle_of_no_hurdles h, ite_self]
    have hfillable : (s.core n).mayFill 0 x = true := by
      simp only [Core.mayFill, Core.mayServe_of_no_hurdles hhur, Bool.or_true, Bool.and_self]
    show execInboundLineWrite n (bankOf x.line) s = _
    simp only [execInboundLineWrite, hin, hidx, List.getElem?_cons_zero, List.eraseIdx_cons_zero, hfree, hfetch, hfillable, Bool.not_false,
      Bool.and_self, if_true]
    rw [hlift (c := { s.core n with inbound := rest }) hhur]
    have hwrite := State.writeInbound_first s n (c := { s.core n with inbound := rest }) hkeep hkind hfill hnull hpoison
    rw [Core.filled_eq] at hwrite
    have hrefresh := State.refresh_setCore_of_quiet s n (c := (s.core n).filled x rest)
      (by rwa [Core.filled_holds]) (by rwa [Core.filled_queue]) (by rwa [Core.filled_inbound]) (by rwa [Core.filled_ejectQ])
    exact congrArg Host.Outcome.next ((congrArg (fun t => State.refresh t n) hwrite).trans hrefresh)
  · have hfind : (s.core n).writeback.find? (s.mayWriteBack n) = some l := by
      rw [hwb, List.find?_cons_of_pos]
      simp only [State.mayWriteBack, hfree, hqueued, hfetch, Bool.not_false, Bool.and_self]
    show execEccWriteback n s = _
    simp only [execEccWriteback, hkeep, Bool.false_eq_true, if_false, hfind]
  · refine congrArg Host.Outcome.next ((if_pos ⟨hscrub, hn, hfree, hwant, hahead⟩).trans ?_)
    simp only [hecc]
    rfl
  · refine congrArg Host.Outcome.next ((if_pos ⟨hscrub, hn, hfree, hwant, hahead⟩).trans ?_)
    have hqueue (b : Bool) (x y : List Nat) : (if (!b) = true then x else y) = if b = true then y else x := by cases b <;> rfl
    simp only [hecc, State.correctedRead, State.modCore_eq, State.core_setCore_self, State.setCore_setCore, Bool.true_and, hqueue]
    rfl

/-- A tier line that no host holds is granted at once (R457). -/
theorem State.tierClaim_of_free {s : State} {ta : Nat} (hu : s.tier.usable = true) (hf : s.tier.hostHeld.contains (s.heldKey ta) = false) :
    s.tierClaim ta = (true, s) := by
  simp only [State.tierClaim, hu, hf, Bool.not_true, Bool.not_false, Bool.true_or, Bool.false_eq_true, if_false, if_true]

/-- The read of a clean block delivers its data and keeps the block's ECC block in the store (R111). -/
theorem State.tierRead_of_clean {s : State} {ta : Nat} (finder : Nat) (h : s.tierEcc ta = .clean) :
    s.tierRead ta finder = (s.tierGarbled ta (Tab.get [] s.tier.errs (ta / 64)), false, s.storeTouch ta false) := by
  simp only [State.tierRead, h]

/-- The read of a correctable block whose granule no host holds rewrites it (R111). -/
theorem State.tierRead_of_correctable {s : State} {ta k e : Nat} (finder : Nat) (h : s.tierEcc ta = .correctable k e)
    (hf : s.tier.hostHeld.contains (s.heldKey ta) = false) :
    (s.tierRead ta finder).2.2 = ({ s.storeTouch ta false with tier := { (s.storeTouch ta false).tier with
      corrected := Tab.put (s.tierChannel ta) (satAdd 64 (Tab.get 0 s.tier.corrected (s.tierChannel ta)) 1) s.tier.corrected } } :
        State).rewriteBlock ta (s.tierDecoded ta k e) := by
  simp only [State.tierRead, h]
  exact if_pos (.inr (.inr (.inl (by rw [Bool.not_eq_true']; exact hf))))

/-- Settles O23: a request that may go is asked for, and a landing is read or dropped. -/
theorem streamerEvents : Obligations.StreamerEvents := by
  refine ⟨fun s slot entry k m base size b hp he hk hopen hh hth hhur hreq hr => ?_, fun s slot n line epoch q hq hhur => ?_⟩
  · have hx : exec (.streamerRequest slot entry k) s = .next (s.streamerAsk slot (Img.strEntry b m entry).core
        ((Img.strEntry b m entry).line + k) ((Img.strEntry b m entry).toff + 64 * k)) := by
      show execStreamerRequest slot entry k s = _
      simp only [execStreamerRequest, hp]
      rw [if_pos ⟨trivial, he, hk, hopen, hh, hth, Core.mayServe_of_no_hurdles hhur _ _, hreq⟩]
    rw [hx]
    refine ⟨fun hlt hu hf => ?_, fun hle => ?_⟩
    · simp only [State.streamerAsk, hr, if_neg (show ¬size ≤ (Img.strEntry b m entry).toff + 64 * k by omega), State.tierClaim_of_free hu hf]
    · simp only [State.streamerAsk, hr, if_pos hle]
  · have hqe : q.epoch = epoch := by
      have hfound := List.find?_some hq
      simp only [Bool.and_eq_true, beq_iff_eq] at hfound
      exact hfound.1.2
    have hx (t : State) (ht : execStreamerLanding slot n line epoch s = .next t) : exec (.streamerLanding slot n line epoch) s = .next t := ht
    refine ⟨fun hep hin hkeep hecc => hx _ ?_, fun hep => ⟨_, hx _ rfl, ?_⟩⟩
    · have hstale : (q.epoch != (s.ctx slot).epoch) = false := by simp [hqe, hep]
      simp only [execStreamerLanding, hq, hstale, Core.mayServe_of_no_hurdles hhur, hkeep,
        decide_eq_false (show ¬32 ≤ (s.core n).inbound.length by omega), Bool.not_false, Bool.not_true, Bool.or_self, Bool.and_false,
        Bool.false_eq_true, if_false]
      rw [State.tierRead_of_clean 0 (by exact hecc)]
      rfl
    · have hstale : (q.epoch != (s.ctx slot).epoch) = true := by simp [hqe, hep]
      simp only [hq, hstale, Bool.not_true, Bool.false_and, Bool.true_or, Bool.false_eq_true, if_false, if_true]
      refine ⟨rfl, rfl, fun k => ?_, rfl⟩
      rw [State.modCore_eq, State.core_setCore]
      split
      · next hk => exact (Core.modHurdle_of_no_hurdles hhur _).trans (congrArg s.core hk.symm)
      · rfl

/-- Settles O24: the tier's upkeep is a change of the tier alone. -/
theorem tierEvents : Obligations.TierEvents := by
  refine ⟨fun s ch rank bank hc hr hb => congrArg Host.Outcome.next (if_pos ⟨hc, hr, hb⟩), fun s ch => rfl, fun s hp hu hl => ⟨fun hecc => ?_, fun k e hecc hheld => ?_⟩⟩
  · refine congrArg Host.Outcome.next ((if_pos ⟨hp, hu⟩).trans ?_)
    simp only [hl, State.tierRead_of_clean 1 hecc, Bool.false_eq_true, if_false, decide_eq_true_eq]
    rfl
  · refine congrArg Host.Outcome.next ((if_pos ⟨hp, hu⟩).trans ?_)
    simp only [hl, State.tierRead_of_correctable 1 hecc hheld, Bool.false_eq_true, if_false, decide_eq_true_eq]
    have hblock : 64 * s.tier.scrubBlock / 64 = s.tier.scrubBlock := Nat.mul_div_cancel_left _ (by decide)
    simp only [State.rewriteBlock, hblock]
    rfl

end Sys2Proof.Machine
end

section
/-! SUPPORT. The drove fabric: flits at their positions. -/

namespace Sys2Proof.Machine
open Sys2Proof.Spec

theorem positionKind_of_mem {k : Nat} (h : k ∈ [0, 2, 3, 4]) : positionKind k = true := by
  simp only [List.mem_cons, List.not_mem_nil, or_false] at h
  rcases h with rfl | rfl | rfl | rfl <;> rfl

theorem rxLink_mod {k : Nat} (h : k < 32) : rxLink k % 32 = k := by unfold rxLink; omega
theorem le_rxLink (k : Nat) : 0x10000 ≤ rxLink k := by unfold rxLink; omega

@[simp] theorem State.rawOut_setOut_self (s : State) (out : Nat) (o : OutSt) : (s.setOut out o).rawOut out = o := Tab.get_put_self _ _ _ _
@[simp] theorem State.rawIn_setIn_self (s : State) (l : Nat) (i : InSt) : (s.setIn l i).rawIn l = i := Tab.get_put_self _ _ _ _

@[simp] theorem State.rawOut_setIn (s : State) (l out : Nat) (i : InSt) : (s.setIn l i).rawOut out = s.rawOut out := rfl

/-- An output has a next position only while a context runs. -/
theorem State.prog_of_nextEnt {s : State} {out : Nat} {e : Ent} (h : s.nextEnt out = some e) : ∃ b m slot, s.prog = some (b, m, slot) := by
  unfold State.nextEnt at h
  cases hp : s.prog with
  | none => rw [hp] at h; exact absurd h (by simp)
  | some x => exact ⟨x.1, x.2.1, x.2.2, rfl⟩

/-- The departure of a core's own staged flit on a mesh output: onto the link that the output feeds (R250, R251, R255). -/
theorem State.depart_local {s : State} {out m slot : Nat} {b : Bytes} {e : Ent} {p : Block} (h0 : outKind out = 0) (h4 : out % 8 < 4)
    (hl : isLocal out e = true) (hn : s.nextEnt out = some e) (hf : s.flitAt out (s.outSt out) e = some (0, p))
    (hroom : s.roomAfter out e = true) (hhold : s.holdReady out = false) (hp : s.prog = some (b, m, slot)) :
    let o := s.outSt out
    let u := ((s.setOut out o).takeStaged (out / 8) out o.step e).setOut out
      { o with pos := o.pos + 1, held := o.held.filter fun x => !x.isFor o.step o.pos }
    s.depart out = u.setIn out { s.rawIn out with
      wire := (s.rawIn out).wire ++ [{ pen := Img.pen b, kind := 0, step := o.step, pos := o.pos, payload := p }] } := by
  intro o u
  have hu : u.prog = some (b, m, slot) := hp
  have hsend : s.depart out = u.sendOn out o e 0 p := by
    simp only [State.depart, hn, hf, hroom, hhold, Bool.not_false, Bool.and_self, if_true, State.takeFlit, hl]
    rfl
  rw [hsend]
  simp only [State.sendOn, hu]
  rw [if_neg (by omega), if_neg (by omega), if_neg (by omega)]
  rfl

/-- Settles O25: the flit at its position, taken and passed on, and what replaces it where it does not agree. -/
theorem droveFlits : Obligations.DroveFlits := by
  refine ⟨fun s out e p h0 h4 hl hn hf hroom hhold => ?_, fun s input m slot b f rest hp hlt hw hpos => ⟨fun hstep hfp hk => ?_, fun bad hbad => ?_⟩,
    fun s k bad f rest hk hw hpen => ?_, fun s port m slot b hp hd hpos hroom => ?_⟩
  · obtain ⟨b, m, slot, hp⟩ := State.prog_of_nextEnt hn
    have hx : exec (.droveFlitDepart out) s = .next (s.depart out) := by
      have hslot : s.slotTime out = s := if_neg (by omega)
      exact congrArg Host.Outcome.next ((if_neg (by omega)).trans (congrArg (State.depart · out) hslot))
    refine ⟨_, hx, ?_⟩
    rw [State.depart_local h0 h4 hl hn hf hroom hhold hp]
    rw [State.rawOut_setIn, State.rawOut_setOut_self, State.rawIn_setIn_self]
    exact ⟨rfl, rfl, _, rfl, rfl, rfl, rfl, rfl⟩
  · show execDroveFlitArrive _ s = _
    simp only [execDroveFlitArrive, hw, hp, decide_eq_false (show ¬0x10000 ≤ input by omega), Bool.false_and, Bool.false_eq_true, if_false]
    rw [if_pos hpos]
    simp only [State.arrive, hstep, hfp, positionKind_of_mem hk, beq_self_eq_true, Bool.not_false, Bool.and_self, if_true]
  · show execDroveFlitArrive _ s = _
    simp only [execDroveFlitArrive, hw, hp, decide_eq_false (show ¬0x10000 ≤ input by omega), Bool.false_and, Bool.false_eq_true, if_false]
    rw [if_pos hpos]
    have hgood : (f.step % 256 == (s.inSt input).step % 256 && f.pos == (s.inSt input).pos && positionKind f.kind && !(bad && !false)) = false := by
      rcases hbad with h | h <;> simp [h]
    simp only [State.arrive, hgood, Bool.false_eq_true, if_false]
  · show execDroveFlitArrive _ s = _
    have hne : (s.pen != some f.pen) = true := by simpa using hpen
    simp only [execDroveFlitArrive, hw, decide_eq_true (le_rxLink k), hne, Bool.and_self, if_true, rxLink_mod hk, Port.foreignFlit, Port.freeDrove,
      Nat.zero_mul, Nat.add_zero]
  · show execResetDrainNullSupply port s = _
    simp only [execResetDrainNullSupply, hp]
    rw [if_pos ⟨hd, hpos, hroom⟩]

/-- A HOLD flit of the running pen is read and goes on from its link; a reserved cause is counted at a port (R24, R263, R282). -/
theorem exec_holdFlitArrive {s : State} {x : LinkHold} {cause step pos omod osite m slot d : Nat} {b : Bytes}
    (hpen : x.link < 0x10000 ∨ s.pen = some x.pen) (hp : s.prog = some (b, m, slot))
    (hd : s.descAt b x.link (extendTally 8 (step % 256) (s.inSt x.link).step) = some d) :
    exec (.holdFlitArrive x cause step pos omod osite) s = .next
      ((if 0x10000 ≤ x.link ∧ (cause = 0 ∨ 9 < cause) then s.modPort (x.link % 32) fun q => q.count 10 1 else s).holdOnLink x.link
        { pen := x.pen, cause := readCause cause, step := extendTally 8 (step % 256) (s.inSt x.link).step, pos, omod, osite, desc := d }) := by
  have hport : ¬(decide (0x10000 ≤ x.link) && s.pen != some x.pen) = true := by
    rcases hpen with h | h
    · rw [decide_eq_false (Nat.not_le.mpr h), Bool.false_and]
      exact Bool.false_ne_true
    · rw [h, bne_self_eq_false, Bool.and_false]
      exact Bool.false_ne_true
  have hread : (readCause cause != cause) = true ↔ cause = 0 ∨ 9 < cause := by
    rw [bne_iff_ne, readCause]
    split <;> omega
  have hcount : (decide (0x10000 ≤ x.link) && readCause cause != cause) = true ↔ 0x10000 ≤ x.link ∧ (cause = 0 ∨ 9 < cause) := by
    rw [Bool.and_eq_true, decide_eq_true_iff, hread]
  refine congrArg Host.Outcome.next ((if_neg hport).trans ?_)
  -- An opaque name keeps the kernel from evaluating the search for the descriptor where a match reduces.
  obtain ⟨find, hfind⟩ : ∃ find, find = s.descAt := ⟨_, rfl⟩
  rw [← hfind] at hd ⊢
  simp only [hp, hd]
  rw [ite_congr (propext hcount) (fun _ => rfl) fun _ => rfl]

/-- Settles O26: the branches of a due position, a HOLD flit's way through the outputs, and the stall. -/
theorem holdFlitsAndStall : Obligations.HoldFlitsAndStall := by
  refine ⟨fun s out i e h1 hdue hrun hkeep => ⟨fun k hk hroom => ?_, fun hk => ?_⟩, fun s x cause step pos omod osite m slot d b hp hpen => ?_,
    fun s out m slot b h e hp h0 h4 he hroom hafter hpos hheld => ?_, fun s x cause step pos omod osite hx hpen => ?_,
    fun s out h rest hq => ⟨fun h1 hroom => ?_, fun h1 hd hst hpq => ?_⟩, fun s port m slot cause b hp hc hk => ?_, fun s n flow hst => ?_⟩
  · show execPositionDue out s = _
    simp only [execPositionDue, hdue, hrun, hkeep, hk]
    rw [if_neg h1, if_neg (by decide), State.ownHold, if_neg (by omega)]
  · show execPositionDue out s = _
    simp only [execPositionDue, hdue, hrun, hkeep, hk]
    rw [if_neg h1, if_neg (by decide)]
  · intro tl read u hd
    have hu : u.tabs d = s.tabs d ∧ u.width = s.width := by
      unfold u
      split <;> exact ⟨rfl, rfl⟩
    rw [exec_holdFlitArrive hpen hp hd, ← hu.1, ← hu.2]
    rfl
  · simp only [State.holdAt, hp, he]
    rw [if_neg (by omega), if_neg (by omega), if_neg (by omega), if_neg]
    rintro (h | h | h)
    · exact absurd (h.symm.trans hafter) (by decide)
    · exact absurd (hpos h.1) (by omega)
    · exact absurd (h.symm.trans hheld) (by decide)
  · show execHoldFlitArrive x cause step pos omod osite s = _
    have hne : (s.pen != some x.pen) = true := by simpa using hpen
    simp only [execHoldFlitArrive, decide_eq_true hx, hne, Bool.and_self, if_true, Port.foreignFlit, Nat.zero_mul, Nat.add_zero,
      Nat.reduceMod, State.modPort_eq]
  · show execHoldFlitDepart out s = _
    simp only [execHoldFlitDepart, hq]
    rw [if_neg h1, if_pos hroom]
  · show execHoldFlitDepart out s = _
    have hidle : ((s.port (out % 32)).st == .active && (s.port (out % 32)).holdQ.isEmpty) = true := by rw [hst, hpq]; rfl
    simp only [execHoldFlitDepart, hq]
    rw [if_pos h1, if_neg (by simp [hd]), if_pos hidle]
    rfl
  · show execPortHoldGenerate port s = _
    simp only [execPortHoldGenerate, hp, hc]
    rw [if_pos hk]
  · refine ⟨_, congrArg Host.Outcome.next (if_pos hst), ?_⟩
    have hstart : ((s.core n).failed 7 n).stepStart = (s.core n).stepStart := by unfold Core.failed; split <;> rfl
    simp only [Core.goSilent, hstart]

end Sys2Proof.Machine
end

section
/-! SUPPORT. The fold unit. -/

namespace Sys2Proof.Machine
open Sys2Proof.Spec

/-- A fold flit with the values of R278 is read as it is; the count of odd flits takes nothing (R602). -/
theorem State.readFold_of_plain {s : State} {m : FoldMsg} (hs : m.status ≤ 1) (hr : m.reason ≤ 8) :
    s.readFold m = (m, s.modDiag fun d => { d with droveOrder := satAdd 64 d.droveOrder 0 }) := by
  have hm : { m with status := if m.status = 0 then 0 else 1 } = m := by
    have : (if m.status = 0 then 0 else 1) = m.status := by split <;> omega
    rw [this]
  rw [State.readFold, hm, if_neg (by omega), if_neg (by omega)]

/-- The end of the wait for a fold, of the holds that a core has (R236). -/
theorem State.endHold_setCore (s : State) (n cause origin : Nat) (c : Core) : (s.setCore n c).endHold n cause origin
    = s.setCore n { c with holds := c.holds.filter fun h => !(h.1 == cause && h.2.2 == origin) } := by
  rw [State.endHold, State.modCore_eq, State.core_setCore_self, State.setCore_setCore]

/-- The arrival of a module that is not the root goes to its PARENT, and what that port has brought already is carried out (R279, R280). -/
theorem State.sendArrival_of_child {s : State} {f t : Nat} (h : (s.foldPlace f).1 ≠ 0x3F) :
    s.sendArrival f t = ((s.modFold fun k => { k with arrival := some s.formArrival }).modFold fun k => { k with
      tx := k.tx ++ [((s.foldPlace f).1, 2, foldMsg f t s.formArrival)] }).parentEarly f t (s.foldPlace f).1 := if_neg h

theorem State.parentEarly_of_none {s : State} {f t p : Nat} (he : s.fab.fold.early = none) (hd : (s.port p).drain = false) :
    s.parentEarly f t p = s := by
  simp only [State.parentEarly, he, hd, Bool.false_eq_true, if_false]
theorem State.parentEarly_of_some {s : State} {f t p : Nat} {m : FoldMsg} (he : s.fab.fold.early = some (some m)) :
    s.parentEarly f t p = s.holdOutcome m := by
  simp only [State.parentEarly, he]

/-- Settles O27: the arrival of a core, of the module and of a child, the outcome, its effect at a core, and the timeout. -/
theorem foldEvents : Obligations.FoldEvents := by
  refine ⟨fun s n f t hnow hrun hsent ht hnamed hout harr hready => ?_, fun s f t hnow hall harr hout => ?_,
    fun s f t port m hnow hout harr hport hchild hs hr => ?_, fun s f t port m hnow hpl ht hs hr => ?_,
    fun s n m hout hrun hdone => ?_, fun s f t k hnow hout harr hcores hall hmiss => ?_⟩
  · show Host.Outcome.next (s.arriveCore n) = _
    have hgo : ((s.core n).run == .idle || (s.core n).foldSent || (s.core n).tally != t || s.foldNamed n != some f || s.fab.fold.outcome.isSome
        || s.fab.fold.arrival.isSome || !(s.core n).foldReady) = false := by
      simp [hrun, hsent, ht, hnamed, hout, harr, hready]
    simp only [State.arriveCore, hnow, hgo, Bool.false_eq_true, if_false]
  · have hx : exec .foldArrivalComplete s = .next (s.sendArrival f t) := by
      show execFoldArrivalComplete s = _
      simp only [execFoldArrivalComplete, hnow, hall, harr, hout, Option.isNone_none, Bool.and_self, if_true]
    rw [hx]
    refine ⟨fun hroot => ?_, fun hroot hdrain => ⟨fun hearly => ?_, fun m hearly => ?_⟩⟩
    · simp only [State.sendArrival, hroot, if_true]
    · exact congrArg Host.Outcome.next ((State.sendArrival_of_child hroot).trans (State.parentEarly_of_none (by exact hearly) (by exact hdrain)))
    · exact congrArg Host.Outcome.next ((State.sendArrival_of_child hroot).trans (State.parentEarly_of_some (by exact hearly)))
  · show Host.Outcome.next (s.foldUp port m) = _
    have hgo : (s.fab.fold.outcome.isSome || !(s.foldPlace f).2.contains port || s.fab.fold.children.any (·.1 == port)
        || s.fab.fold.arrival.isSome) = false := by
      simp [hout, harr, hport, hchild]
    simp only [State.foldUp, State.readFold_of_plain hs hr, hnow, hgo, Bool.false_eq_true, if_false]
  · have hx : exec (.foldDownReceive port m) s = .next (s.foldDown port m) := rfl
    rw [hx]
    have hno : ¬((s.foldPlace f).1 ≠ port ∨ m.tally ≠ t) := by simp [hpl, ht]
    simp only [State.foldDown, State.readFold_of_plain hs hr, hnow, if_neg hno]
    exact ⟨fun harr => by rw [if_neg harr], fun harr => by rw [if_pos harr]⟩
  · have hx : exec (.foldOutcomeReachCore n) s = .next (s.outcomeAt n) := rfl
    have hgo : ((s.core n).run == .idle || (s.core n).foldDone) = false := by simp [hrun, hdone]
    rw [hx]
    simp only [State.outcomeAt, hout, hgo, Bool.false_eq_true, if_false, State.modCore_eq, State.endHold_setCore, Core.takeOutcome]
    exact ⟨fun hs => by simp only [if_neg hs]; rfl, fun hs => by simp only [if_pos hs]; rfl⟩
  · show Host.Outcome.next s.foldTimedOut = _
    simp only [State.foldTimedOut, hnow, hout, harr, hcores, hall, hmiss, Option.isSome_none, Bool.false_eq_true, if_false]

end Sys2Proof.Machine
end

section
/-! SUPPORT. A stray at its destination: the eject output. -/

namespace Sys2Proof.Machine
open Sys2Proof.Spec

theorem State.nCores_le (s : State) : s.nCores ≤ 2048 := by
  unfold State.nCores
  split <;> omega

theorem outKind_eject {n : Nat} (hn : n < 2048) : outKind (routerOut n 4) = 0 := by unfold outKind routerOut; omega
theorem eject_mod (n : Nat) : routerOut n 4 % 8 = 4 := by unfold routerOut; omega
theorem eject_div (n : Nat) : routerOut n 4 / 8 = n := by unfold routerOut; omega

/-- One packet at a node is served alone. -/
theorem State.serveOrder_single {s : State} {n k : Nat} {a : StrayAt} (hp : s.net.packets = [(k, a)]) (ha : a.node = n) :
    s.serveOrder n = [(k, a)] := by
  rw [State.serveOrder, hp, List.filter_cons_of_pos (by simp [ha])]
  rfl

theorem State.fillInjection_of_nothing {s : State} {n : Nat} (hr : (s.core n).respQ = []) (hq : s.net.injQ = []) : s.fillInjection n = s := by
  have hresp : (if n < 4096 then (s.core n).respQ else []) = [] := by rw [hr, ite_self]
  simp only [State.fillInjection, hresp, hq, List.find?_nil, ite_self]

/-- Below AGE 64 and on its first channels a packet keeps its channel (R298). -/
theorem Packet.ch_of_not_escapes {p : Packet} (h : p.escapes = false) : ¬(64 ≤ p.age ∧ p.ch < 2) ∧ p.ch < 2 := by
  simp only [Packet.escapes, Bool.or_eq_false_iff, decide_eq_false_iff_not] at h
  omega

/-- A packet at the router of its destination takes the eject output (R294). -/
theorem State.productiveOuts_here {s : State} {n : Nat} {p : Packet} (hn : n < 2048) (hh : s.isHere p = true) (hd : p.dag = 0)
    (hdest : p.dest = n) : s.productiveOuts n p = [routerOut n 4] := by
  simp only [State.productiveOuts, if_pos (show n < 4096 by omega), hh, hd, hdest, beq_self_eq_true, Bool.and_self, if_true]

theorem State.strayWay_here {s : State} {n : Nat} {p : Packet} (hn : n < 2048) (hh : s.isHere p = true) (hd : p.dag = 0) (hdest : p.dest = n)
    (he : p.escapes = false) (hb : p.bounced = false) (hf : s.strayFree (routerOut n 4) p.ch p.isReq = true) :
    s.strayWay n p [] = (some (routerOut n 4, false), s) := by
  obtain ⟨hch, hlow⟩ := Packet.ch_of_not_escapes he
  have hgood : ([routerOut n 4].filter fun o => !(false && outKind o == 0 && o % 8 == 4)).filter
      (fun o => !([] : List Nat).contains o && s.strayFree o p.ch p.isReq) = [routerOut n 4] := by
    simp [hf]
  simp only [State.strayWay, if_neg hch, if_neg (show ¬2 ≤ p.ch by omega), State.productiveOuts_here hn hh hd hdest, hb, hgood]

/-- The whole packet at its core (R89, R291). -/
theorem State.strayDepart_eject {s : State} {n k : Nat} {a : StrayAt} (hn : n < 2048) (hp : s.net.packets = [(k, a)]) :
    s.strayDepart k a (routerOut n 4) false = ejected s n { a.packet with
      ch := if 64 ≤ a.packet.age ∧ a.packet.ch < 2 then a.packet.ch + 2 else a.packet.ch } := by
  have hdrop : s.dropPacket k = { s with net := { s.net with packets := [] } } := by
    rw [State.dropPacket, hp, List.filter_cons_of_neg (by simp), List.filter_nil]
  rw [State.strayDepart, if_pos ⟨outKind_eject hn, eject_mod n⟩, eject_div n, State.ejectPacket, hdrop]
  rfl

theorem State.strayArrive_eject {s : State} {n k : Nat} {a : StrayAt} {x : Sending} (hn : n < 2048) (hp : s.net.packets = [(k, a)])
    (hk : x.packet = k) (ho : x.out = routerOut n 4) (hd : x.deflected = false) (hl : x.lost = false) :
    s.strayArrive x = ejected s n { a.packet with
      ch := if 64 ≤ a.packet.age ∧ a.packet.ch < 2 then a.packet.ch + 2 else a.packet.ch } := by
  subst hk
  have hfind : s.net.packets.find? (·.1 == x.packet) = some (x.packet, a) := by simp [hp]
  simp only [State.strayArrive, hfind, hl, ho, hd, Bool.false_eq_true, if_false]
  exact State.strayDepart_eject hn hp

/-- A packet part-way through departing is not served again: with none, one slot time of a node serves its packet alone (R285, R295). -/
theorem State.strayServe_eject {s : State} {n k : Nat} {a : StrayAt} (bad : List Nat) (hn : n < 2048) (hr : (s.core n).respQ = [])
    (hq : s.net.injQ = []) (hs : s.net.sending = []) (hp : s.net.packets = [(k, a)]) (ha : a.node = n) (hh : s.isHere a.packet = true)
    (hd : a.packet.dag = 0) (hdest : a.packet.dest = n) (he : a.packet.escapes = false) (hb : a.packet.bounced = false)
    (hf : s.strayFree (routerOut n 4) a.packet.ch a.packet.isReq = true) :
    s.strayServe n bad = s.strayStart bad k a (routerOut n 4) false := by
  have hcore : ¬(4096 ≤ n ∧ s.isHere a.packet = true ∧ a.packet.dag = 1 ∧ agentDie a.packet.dest = n - 4096) := by omega
  simp only [State.strayServe, State.fillInjection_of_nothing hr hq, hs, List.filter_nil, List.foldl_nil, State.serveOrder_single hp ha,
    List.foldl_cons, List.any_nil, Bool.false_eq_true, if_false, List.map_nil, if_neg hcore,
    State.strayWay_here hn hh hd hdest he hb hf]

/-- A packet that has its turn at the eject output: its service is noted where it is on escape (R299). -/
def State.noteServed (s : State) (n : Nat) (a : StrayAt) : State :=
  if a.packet.escapes then { s with net := { s.net with served := Tab.put (routerOut n 4) (s.inputNo a.node a) s.net.served } } else s

theorem State.noteServed_of_not_escapes {s : State} {n : Nat} {a : StrayAt} (he : a.packet.escapes = false) : s.noteServed n a = s :=
  if_neg (by simp [he])
theorem State.noteServed_packets (s : State) (n : Nat) (a : StrayAt) : (s.noteServed n a).net.packets = s.net.packets := by
  unfold State.noteServed
  split <;> rfl
theorem State.noteServed_sending (s : State) (n : Nat) (a : StrayAt) : (s.noteServed n a).net.sending = s.net.sending := by
  unfold State.noteServed
  split <;> rfl

/-- A packet of one flit is at its core with its head; one with data flits goes on from the next slot time (R285). -/
theorem State.strayStart_eject {s : State} {n k : Nat} {a : StrayAt} (bad : List Nat) (hn : n < 2048) :
    s.strayStart bad k a (routerOut n 4) false
      = (let x : Sending := { out := routerOut n 4, packet := k, left := a.packet.ndi, lost := bad.contains (routerOut n 4), deflected := false }
        let u := s.noteServed n a
        if a.packet.ndi = 0 then u.strayArrive x else { u with net := { u.net with sending := u.net.sending ++ [x] } }) :=
  if_neg (by rw [outKind_eject hn]; decide)

theorem State.strayStart_eject_head {s : State} {n k : Nat} {a : StrayAt} {bad : List Nat} (hn : n < 2048) (hp : s.net.packets = [(k, a)])
    (hi : a.packet.ndi = 0) (hbad : bad.contains (routerOut n 4) = false) :
    s.strayStart bad k a (routerOut n 4) false = ejected (s.noteServed n a) n { a.packet with
      ch := if 64 ≤ a.packet.age ∧ a.packet.ch < 2 then a.packet.ch + 2 else a.packet.ch } := by
  rw [State.strayStart_eject bad hn]
  dsimp only
  rw [if_pos hi]
  exact State.strayArrive_eject hn ((s.noteServed_packets n a).trans hp) rfl rfl rfl hbad

/-- A head that fails its CRC-32 loses its packet (R287). -/
theorem State.strayStart_eject_lost {s : State} {n k : Nat} {a : StrayAt} {bad : List Nat} (hn : n < 2048) (hp : s.net.packets = [(k, a)])
    (he : a.packet.escapes = false) (hi : a.packet.ndi = 0) (hbad : bad.contains (routerOut n 4) = true) :
    s.strayStart bad k a (routerOut n 4) false
      = ({ s with net := { s.net with packets := [] } } : State).modDiag fun d => { d with framing := satAdd 64 d.framing 1 } := by
  have hdrop : s.dropPacket k = { s with net := { s.net with packets := [] } } := by
    rw [State.dropPacket, hp, List.filter_cons_of_neg (by simp), List.filter_nil]
  have hfind : s.net.packets.find? (·.1 == k) = some (k, a) := by simp [hp]
  rw [State.strayStart_eject bad hn]
  dsimp only
  rw [if_pos hi, State.noteServed_of_not_escapes he]
  simp only [State.strayArrive, hfind, hbad, if_true, hdrop]

theorem State.strayStart_eject_data {s : State} {n k : Nat} {a : StrayAt} (bad : List Nat) (hn : n < 2048) (hs : s.net.sending = [])
    (hi : a.packet.ndi ≠ 0) : s.strayStart bad k a (routerOut n 4) false
      = { s.noteServed n a with net := { (s.noteServed n a).net with
          sending := [{ out := routerOut n 4, packet := k, left := a.packet.ndi, lost := bad.contains (routerOut n 4), deflected := false }] } } := by
  rw [State.strayStart_eject bad hn]
  dsimp only
  rw [if_neg hi, State.noteServed_sending, hs, List.nil_append]

/-- The next flit of the packet that departs on a core's eject output (R285, R287). -/
theorem State.sendFlit_eject {s : State} {n k : Nat} {a : StrayAt} {x : Sending} (hn : n < 2048) (hs : s.net.sending = [x])
    (ho : x.out = routerOut n 4) (hk : x.packet = k) (hp : s.net.packets = [(k, a)]) (he : a.packet.escapes = false)
    (hd : s.droveNow (routerOut n 4) = false) :
    (x.left = 1 → x.lost = false → x.deflected = false →
      s.sendFlit [] x = ejected { s with net := { s.net with sending := [] } } n a.packet)
    ∧ (1 < x.left → s.sendFlit [] x = { s with net := { s.net with sending := [{ x with left := x.left - 1 }] } }) := by
  have hrest : s.net.sending.filter (·.out != x.out) = [] := by simp [hs]
  have hgo : ¬s.droveNow x.out = true := by rw [ho, hd]; exact Bool.false_ne_true
  have hlost : (x.lost || ([] : List Nat).contains x.out) = x.lost := Bool.or_false _
  simp only [State.sendFlit, if_neg hgo, hrest, hlost, List.nil_append]
  refine ⟨fun h1 hl hdef => ?_, fun h1 => if_neg (by omega)⟩
  refine (if_pos (by omega)).trans ((State.strayArrive_eject hn (by exact hp) (by exact hk) (by exact ho) (by exact hdef) (by exact hl)).trans ?_)
  rw [if_neg (Packet.ch_of_not_escapes he).1]

end Sys2Proof.Machine
end

section
/-! SUPPORT. A stray request at its core, responses and timeouts. -/

namespace Sys2Proof.Machine
open Sys2Proof.Spec

theorem wrapDiff_self (w a : Nat) : wrapDiff w a a = 0 := by
  have hmod : (a + 2 ^ w - a % 2 ^ w) % 2 ^ w = 0 := by
    have h1 := Nat.mod_add_div a (2 ^ w)
    have h2 : a + 2 ^ w - a % 2 ^ w = 2 ^ w * (a / 2 ^ w + 1) := by rw [Nat.mul_add, Nat.mul_one]; omega
    rw [h2, Nat.mul_mod_right]
  rw [wrapDiff, signed, hmod, if_pos (Nat.two_pow_pos _)]
  rfl

/-- A WRITE of one data flit, of the epoch and in its source's order, that the core's region lets through (R290, R301). -/
structure WriteInOrder (s : State) (c : Core) (q : Packet) (d : Block) : Prop where
  type_eq : q.type = 1
  src_lt : q.src < 2048
  fep_eq : q.fep = c.epoch
  datas_eq : q.datas = [d]
  known : (c.recvSeq.any fun e => e.1 == q.srcKey) = true
  seq_eq : Tab.get 0 c.recvSeq q.srcKey = q.pseq
  lets : c.lets (s.runSlot.getD 4) (q.addr / 64) 0 = true
  mask_eq : q.mask = 0xFFFF

theorem Core.expected_of_core {c : Core} {q : Packet} (h : q.src < 2048) : c.expected q = Tab.get 0 c.recvSeq q.srcKey :=
  if_neg (by omega)

theorem WriteInOrder.isReq {s : State} {c : Core} {q : Packet} {d : Block} (h : WriteInOrder s c q d) : q.isReq = true := by
  simp [Packet.isReq, h.type_eq]
theorem WriteInOrder.inEpoch {s : State} {c : Core} {q : Packet} {d : Block} (h : WriteInOrder s c q d) : c.inEpoch q = true := by
  simp [Core.inEpoch, h.fep_eq]
theorem WriteInOrder.ahead {s : State} {c : Core} {q : Packet} {d : Block} (h : WriteInOrder s c q d) : c.ahead q = 0 := by
  rw [Core.ahead, Core.expected_of_core h.src_lt, h.seq_eq, wrapDiff_self]
theorem WriteInOrder.mustBounce {s : State} {c : Core} {q : Packet} {d : Block} (h : WriteInOrder s c q d) : c.mustBounce q = false := by
  simp [Core.mustBounce, Core.tableFull, h.inEpoch, h.ahead, h.known]

/-- The next request of a core that has this one alone to look at (R291, R301). -/
theorem Core.nextReq_of_single {c : Core} {q : Packet} (hre : c.reorder = []) (hhur : c.hurdles = []) (hej : c.ejectQ = [q])
    (hreq : q.isReq = true) : c.nextReq = some q := by
  have hstored : c.storedReq = none := by rw [Core.storedReq, hre, List.find?_nil]
  have hmay : c.mayPerform q = true := by
    unfold Core.mayPerform
    dsimp only
    split <;> exact Core.mayServe_of_no_hurdles hhur _ _
  simp only [Core.nextReq, hstored, hej, List.find?_cons, hreq, hmay, Bool.and_self]

theorem groups_first {q : Packet} (again : Bool) (h : q.mask = 0xFFFF) : StrayWork.groups { req := q, again } = 65535 := by
  simp [StrayWork.groups, h]

/-- The work on a write of one flit whose mask names its first line alone begins at that line and is over with it (R290). -/
theorem skipClear_first {q : Packet} (h : q.mask = 0xFFFF) : StrayWork.skipClear 16 { req := q, again := false } = { req := q } := by
  rw [StrayWork.skipClear, groups_first false h, if_neg (by omega)]

theorem skipClear_rest {w : StrayWork} {d : Block} (ht : w.req.type = 1) (hd : w.req.datas = [d]) (hm : w.req.mask = 0xFFFF) (hk : w.k = 1) :
    StrayWork.skipClear 16 w = { w with k := 4 } := by
  have hclear {k : Nat} (h1 : 1 ≤ k) (h2 : k < 4) : StrayWork.groups { w with k := k } = 0 := by
    have : k = 1 ∨ k = 2 ∨ k = 3 := by omega
    rcases this with rfl | rfl | rfl <;> simp [StrayWork.groups, hm]
  have hlines (k : Nat) : StrayWork.lines { w with k := k } = 4 := by simp [StrayWork.lines, ht, hd]
  have hgo {k m : Nat} (h1 : 1 ≤ k) (h2 : k < 4) :
      StrayWork.skipClear (m + 1) { w with k := k } = StrayWork.skipClear m { w with k := k + 1 } :=
    if_pos ⟨ht, hclear h1 h2, by rw [hlines]; exact h2⟩
  have hstop (m : Nat) : StrayWork.skipClear (m + 1) { w with k := 4 } = { w with k := 4 } :=
    if_neg fun h => by have := h.2.2; rw [hlines] at this; exact absurd this (Nat.lt_irrefl 4)
  have hw : w = { w with k := 1 } := by rw [← hk]
  rw [hw, hgo (by decide) (by decide), hgo (by decide) (by decide), hgo (by decide) (by decide), hstop]

/-- The core while it works on a WRITE taken from its ejection queue. -/
def Core.working (c : Core) (q : Packet) : Core := { c with ejectQ := [], work := some { req := q } }

/-- A request in order is begun (R301). -/
theorem State.handleReq_write {s : State} {n : Nat} {q : Packet} {d : Block} (hk : s.pw.keeper = false)
    (h : WriteInOrder s (s.core n) q d) :
    (s.setCore n { s.core n with ejectQ := [] }).handleReq n q = s.setCore n ((s.core n).working q) := by
  have hb : ({ s.core n with ejectQ := [] } : Core).mustBounce q = false := h.mustBounce
  have he : ({ s.core n with ejectQ := [] } : Core).inEpoch q = true := h.inEpoch
  have ha : ({ s.core n with ejectQ := [] } : Core).ahead q = 0 := h.ahead
  have hlines : ¬StrayWork.lines { req := q, again := false } ≤ 0 := by simp [StrayWork.lines, h.type_eq, h.datas_eq]
  simp only [State.handleReq, State.setCore_pw, hk, State.core_setCore_self, hb, he, ha, h.type_eq, Bool.not_true, Bool.false_eq_true, if_false,
    if_neg (show ¬1 = 4 by decide), State.beginWork, skipClear_first h.mask_eq, if_neg hlines, State.modCore_eq, State.setCore_setCore]
  rfl

/-- The core when the WRITE is over: the line written, answered, its sequence taken (R290, R301). -/
def Core.wroteFirst (c : Core) (q : Packet) (d : Block) : Core :=
  let line := q.addr / 64
  { c.writeLine line (lineOf d 0) with
    ejectQ := [], banks := bankOf line :: c.banks, respQ := c.respQ ++ [q.response 0 0 []]
    recvSeq := Tab.put q.srcKey ((q.pseq + 1) % 1024) c.recvSeq, hostWaiting := c.hostWaiting.erase (q.srcKey, q.pseq) }

/-- A request handled at a core without HURDLEs or holds: the host accesses that wait lose it (R89, R231). -/
theorem State.reqHandled_setCore {s : State} {n : Nat} {c : Core} {q : Packet} (hhur : c.hurdles = []) (hh : c.holds = [])
    (hhost : c.hostHold = none) (hq : c.queue ≠ []) (hin : c.inbound.length < 24) (hej : c.ejectQ.length < 6) :
    (s.setCore n c).reqHandled n q = s.setCore n { c with hostWaiting := c.hostWaiting.erase (q.srcKey, q.pseq) } := by
  have hnone : ¬(none : Option (Nat × Nat)) = some (q.srcKey, q.pseq) := by simp
  have hserved : (s.setCore n { c with hostWaiting := c.hostWaiting.erase (q.srcKey, q.pseq) }).hostServed n (q.srcKey, q.pseq)
      = s.setCore n { c with hostWaiting := c.hostWaiting.erase (q.srcKey, q.pseq) } := by
    rw [State.hostServed, State.core_setCore_self, if_neg (by rw [hhost]; exact hnone)]
  simp only [State.reqHandled, State.core_setCore_self, Core.strayHandled, Core.modHurdle_of_no_hurdles hhur, State.setCore_setCore]
  rw [hserved]
  exact State.refresh_setCore_of_quiet s n (c := { c with hostWaiting := c.hostWaiting.erase (q.srcKey, q.pseq) }) hh hq hin hej

/-- The end of a WRITE of a core: its answer is queued and its sequence taken (R290, R301). -/
theorem State.finishWork_write {s : State} {n : Nat} {c : Core} {w : StrayWork} (ht : w.req.type = 1) (hsrc : w.req.src < 2048)
    (ha : w.again = false) (hhur : c.hurdles = []) (hh : c.holds = []) (hhost : c.hostHold = none) (hq : c.queue ≠ [])
    (hin : c.inbound.length < 24) (hej : c.ejectQ.length < 6) :
    (s.setCore n c).finishWork n w 0 0 = s.setCore n { c with
      work := none, recvSeq := Tab.put w.req.srcKey ((c.expected w.req + 1) % 1024) c.recvSeq
      respQ := c.respQ ++ [w.req.response 0 0 []], hostWaiting := c.hostWaiting.erase (w.req.srcKey, w.req.pseq) } := by
  have hadv (c : Core) : c.advanceSeq w.req = { c with recvSeq := Tab.put w.req.srcKey ((c.expected w.req + 1) % 1024) c.recvSeq } :=
    if_neg (by omega)
  have hperf (t : State) (b : Bool) : t.hostPerformed w.req b = t := if_pos hsrc
  simp only [State.finishWork, StrayWork.answer, ht, ha, hadv, hperf, if_true, Bool.false_eq_true, if_false, if_neg (show ¬1 = 2 by decide),
    State.respond, State.modCore_eq, State.core_setCore_self, State.setCore_setCore]
  exact State.reqHandled_setCore (c := { c with
    work := none, recvSeq := Tab.put w.req.srcKey ((c.expected w.req + 1) % 1024) c.recvSeq
    respQ := c.respQ ++ [w.req.response 0 0 []] }) hhur hh hhost hq hin hej

theorem State.workAccess_write {s : State} {n : Nat} {q : Packet} {d : Block} (hwork : (s.core n).work = none) (hhur : (s.core n).hurdles = [])
    (hh : (s.core n).holds = []) (hhost : (s.core n).hostHold = none) (hq : (s.core n).queue ≠ []) (hin : (s.core n).inbound.length < 24)
    (h : WriteInOrder s (s.core n) q d) :
    (s.setCore n ((s.core n).working q)).workAccess n { req := q } = s.setCore n ((s.core n).wroteFirst q d) := by
  have haccess : q.access = 0 := by
    have := h.src_lt
    simp [Packet.access, h.type_eq, show ¬2048 ≤ q.src by omega, show q.src ≠ 2050 by omega]
  have hslot (t : State) : t.accessSlot q = t.runSlot.getD 4 := if_pos h.src_lt
  have hlets : ((s.core n).working q).lets ((s.setCore n ((s.core n).working q)).runSlot.getD 4) (StrayWork.line { req := q }) 0 = true := h.lets
  have hgroups : StrayWork.groups { req := q } = 65535 := groups_first false h.mask_eq
  have hskip : StrayWork.skipClear 16 { req := q, k := 1, wrote := true } = { req := q, k := 4, wrote := true } :=
    skipClear_rest h.type_eq h.datas_eq h.mask_eq rfl
  have hlines : StrayWork.lines { req := q, k := 4, wrote := true } ≤ 4 := by simp [StrayWork.lines, h.type_eq, h.datas_eq]
  simp only [State.workAccess, haccess, hslot, State.core_setCore_self, hlets, h.type_eq, hgroups, Bool.not_true, Bool.false_eq_true, if_false,
    if_neg (show ¬1 = 3 by decide), if_neg (show ¬1 = 2 by decide), if_true, State.nextLine, hskip, if_pos hlines, State.modCore_eq,
    State.setCore_setCore]
  rw [State.finishWork_write (by exact h.type_eq) (by exact h.src_lt) rfl (by simpa only [Core.writeLine, Core.working] using hhur)
    (by simpa only [Core.writeLine, Core.working] using hh) (by simpa only [Core.writeLine, Core.working] using hhost)
    (by simpa only [Core.writeLine, Core.working] using hq) (by simpa only [Core.writeLine, Core.working] using hin)
    (by simp only [Core.writeLine, Core.working]; decide)]
  simp only [Core.writeLine, Core.working, Core.wroteFirst, h.datas_eq, StrayWork.line, hwork, Nat.add_zero, Nat.zero_div, Nat.zero_mod,
    List.getD_cons_zero, Core.expected_of_core h.src_lt, h.seq_eq, Option.map_none]

end Sys2Proof.Machine
end

section
/-! SUPPORT. The stray network settled. -/

namespace Sys2Proof.Machine
open Sys2Proof.Spec

theorem exec_strayRoute {s : State} {n : Nat} (bad : List Nat) (hn : n < s.nCores) :
    exec (.strayRoute { node := n, bad }) s = .next (s.strayServe n bad) :=
  congrArg Host.Outcome.next (if_pos (.inl hn))

theorem exec_strayEject_go {s : State} {n : Nat} {x : Sending} (hn : n < s.nCores) (hs : s.net.sending = [x]) (ho : x.out = routerOut n 4) :
    exec (.strayEject n) s = .next (s.sendFlit [] x) := by
  refine congrArg Host.Outcome.next ((if_neg (by omega)).trans ?_)
  simp only [hs, List.find?_cons, ho, beq_self_eq_true]

/-- With nothing departing the packet at its core begins to depart (R285, R294). -/
theorem exec_strayEject_start {s : State} {n k : Nat} {a : StrayAt} (hn : n < s.nCores) (hs : s.net.sending = [])
    (hp : s.net.packets = [(k, a)]) (ha : a.node = n) (hh : s.isHere a.packet = true) (hd : a.packet.dag = 0) (hdest : a.packet.dest = n)
    (hb : a.packet.bounced = false) (hf : s.strayFree (routerOut n 4) a.packet.ch a.packet.isReq = true) :
    exec (.strayEject n) s = .next (s.strayStart [] k a (routerOut n 4) false) := by
  refine congrArg Host.Outcome.next ((if_neg (by omega)).trans ?_)
  have hlet : (s.isHere a.packet && a.packet.dag == 0 && a.packet.dest == n && !a.packet.bounced &&
      !([] : List Sending).any (fun x => x.packet == k) && s.strayFree (routerOut n 4) a.packet.ch a.packet.isReq) = true := by
    simp [hh, hd, hdest, hb, hf]
  simp only [hs, List.find?_nil, State.serveOrder_single hp ha, List.find?_cons, hlet]

theorem Core.takeReq_single {c : Core} {q : Packet} (hre : c.reorder = []) (hej : c.ejectQ = [q]) : c.takeReq q = { c with ejectQ := [] } := by
  simp [Core.takeReq, hre, hej]
theorem Core.takeRsp_single {c : Core} {q : Packet} (hre : c.reorder = []) (hej : c.ejectQ = [q]) : c.takeRsp q = { c with ejectQ := [] } := by
  simp [Core.takeRsp, hre, hej]
theorem Core.nextRsp_single {c : Core} {q : Packet} (hre : c.reorder = []) (hej : c.ejectQ = [q]) (hrsp : q.isRsp = true) :
    c.nextRsp = some q := by
  simp [Core.nextRsp, hre, hej, hrsp]

/-- A core with work and no write of its own that waits for its read (R91): its access needs its bank alone. -/
theorem State.performAccess_ready {s : State} {n : Nat} {w : StrayWork} (hw : (s.core n).work = some w) (hold : w.old = none) :
    s.performAccess n = if s.bankForStray n (bankOf w.line) then s.workAccess n w else s := by
  obtain ⟨req, again, k, wrote, old⟩ := w
  cases hold
  simp only [State.performAccess, hw, List.range_zero, List.foldl_nil]

theorem State.bankForStray_working {s : State} {n bank : Nat} (q : Packet) :
    (s.setCore n ((s.core n).working q)).bankForStray n bank = s.bankForStray n bank := by
  simp only [State.bankForStray, State.bankFree, State.mayFetch, State.advances, State.heldNow, State.core_setCore_self]
  rfl

/-- The request that a core takes when nothing else waits there (R291, R301). -/
theorem execStrayRequestPerform_take {s : State} {n : Nat} {q : Packet} {d : Block} (hk : s.pw.keeper = false)
    (hwork : (s.core n).work = none) (hloads : (s.core n).loads = []) (hre : (s.core n).reorder = []) (hhur : (s.core n).hurdles = [])
    (hrsp : (s.core n).respQ.length < 4) (hej : (s.core n).ejectQ = [q]) (h : WriteInOrder s (s.core n) q d) :
    execStrayRequestPerform n s = .next (if s.bankForStray n (bankOf (q.addr / 64)) then
        (s.setCore n ((s.core n).working q)).workAccess n { req := q } else s.setCore n ((s.core n).working q)) := by
  have hgo : ¬(4 ≤ (s.core n).respQ.length ∨ ((s.core n).mustBounce q && !s.injectFree n) = true) := by
    rw [h.mustBounce, Bool.false_and]
    exact fun hor => hor.elim (by omega) Bool.false_ne_true
  simp only [execStrayRequestPerform, hwork, hloads, List.find?_nil, Core.nextReq_of_single hre hhur hej h.isReq, if_neg hgo]
  rw [Core.takeReq_single hre hej, State.handleReq_write hk h, State.performAccess_ready (w := { req := q }) (by exact congrArg Core.work (State.core_setCore_self _ _ _)) rfl, State.bankForStray_working]
  rfl

theorem State.dropPacket_single {s : State} {k : Nat} {a : StrayAt} (hp : s.net.packets = [(k, a)]) :
    s.dropPacket k = { s with net := { s.net with packets := [] } } := by
  rw [State.dropPacket, hp, List.filter_cons_of_neg (by simp), List.filter_nil]

/-- Settles O28: the single packet, request or response of each clause is the one that the search finds. -/
theorem strayEvents : Obligations.StrayEvents := by
  refine ⟨fun s n k bad a hn hr hq hs hp ha hh hd hdest he hb hf => ?_, fun s k => rfl, fun s n k a hn hs hp ha hh hd hdest hb hf => ?_,
    fun s n k a x hn hs ho hk hp he hd => ?_,
    fun s n q d hk hwork hloads hre hhur hh hhost hq hin hrsp hej ht hsrc hfep hdatas hknown hseq hlets hmask => ?_,
    fun s n q hn hej hre hrsp => ?_, fun s a k z ha hp hz => ?_, fun s n rtag e hn hfind => ?_, fun s a rtag e hfind => ?_⟩
  · have hn' : n < 2048 := Nat.lt_of_lt_of_le hn s.nCores_le
    have hserve := (exec_strayRoute bad hn).trans (congrArg Host.Outcome.next
      (State.strayServe_eject bad hn' hr hq hs hp ha hh hd hdest he hb hf))
    refine ⟨fun hi hbad => hserve.trans (congrArg Host.Outcome.next ?_),
      fun hi hbad => hserve.trans (congrArg Host.Outcome.next (State.strayStart_eject_lost hn' hp he hi hbad)),
      fun hi => hserve.trans (congrArg Host.Outcome.next ?_)⟩
    · rw [State.strayStart_eject_head hn' hp hi hbad, State.noteServed_of_not_escapes he, if_neg (Packet.ch_of_not_escapes he).1]
    · rw [State.strayStart_eject_data bad hn' hs hi, State.noteServed_of_not_escapes he]
  · have hn' : n < 2048 := Nat.lt_of_lt_of_le hn s.nCores_le
    have hstart := exec_strayEject_start hn hs hp ha hh hd hdest hb hf
    subst ha
    exact ⟨fun hi => hstart.trans (congrArg Host.Outcome.next (State.strayStart_eject_head hn' hp hi rfl)),
      fun hi => hstart.trans (congrArg Host.Outcome.next (State.strayStart_eject_data [] hn' hs hi))⟩
  · have hn' : n < 2048 := Nat.lt_of_lt_of_le hn s.nCores_le
    obtain ⟨hlast, hmore⟩ := State.sendFlit_eject hn' hs ho hk hp he hd
    exact ⟨fun h1 hl hdef => (exec_strayEject_go hn hs ho).trans (congrArg Host.Outcome.next (hlast h1 hl hdef)),
      fun h1 => (exec_strayEject_go hn hs ho).trans (congrArg Host.Outcome.next (hmore h1))⟩
  · have h : WriteInOrder s (s.core n) q d := ⟨ht, hsrc, hfep, hdatas, hknown, hseq, hlets, hmask⟩
    have htake := execStrayRequestPerform_take hk hwork hloads hre hhur hrsp hej h
    refine ⟨fun hbank => htake.trans (congrArg Host.Outcome.next ?_), fun hbank => htake.trans (congrArg Host.Outcome.next ?_)⟩
    · exact (if_pos hbank).trans (State.workAccess_write hwork hhur hh hhost hq hin h)
    · exact if_neg (by rw [hbank]; exact Bool.false_ne_true)
  · have hlow : ¬2048 ≤ n := by omega
    refine ⟨fun hm => ?_, fun o hm ho hl => ?_, fun o hm ho => ?_⟩ <;>
      refine congrArg Host.Outcome.next ((if_neg hlow).trans ?_) <;>
      simp only [Core.nextRsp_single hre hej hrsp, hm, State.modCore_eq, Core.takeRsp_single hre hej]
    · rw [if_pos ho, if_pos hl]
    · simp only [ho, hre, List.length_nil, Bool.false_eq_true, if_false, if_pos (show 0 < 256 by decide), State.core_setCore_self,
        State.setCore_setCore, List.nil_append]
  · have hagent : 2048 ≤ 2048 + a := by omega
    have hexec : exec (.strayResponseLand (2048 + a)) s = .next (s.agentLand a) := by
      refine congrArg Host.Outcome.next ((if_pos hagent).trans ((if_pos (by omega)).trans ?_))
      rw [Nat.add_sub_cancel_left]
    refine ⟨fun hm => hexec.trans ?_, fun o hm ho => hexec.trans ?_⟩
    · have hready : s.agentReady a (k, z) = true := by simp [State.agentReady, hz, hm]
      simp only [State.agentLand, hp, List.find?_cons, hready, hm, State.dropPacket_single hp]
    · have hready : s.agentReady a (k, z) = true := by simp [State.agentReady, hz, hm, ho]
      simp only [State.agentLand, hp, List.find?_cons, hready, hm, State.dropPacket_single hp]
  · have hcore : decide (2048 ≤ n) = false := decide_eq_false (by omega)
    refine ⟨fun hr => ?_, fun hr hl => ?_⟩ <;> show execStrayResponseTimeout n rtag s = _ <;>
      simp only [execStrayResponseTimeout, hcore, Bool.false_eq_true, if_false, hfind, hr, State.modCore_eq]
    simp only [hl, Bool.not_false, Bool.not_true, Bool.and_false, Bool.false_eq_true, if_false, if_true]
  · have hagent : decide (2048 ≤ 2048 + a) = true := decide_eq_true (by omega)
    refine ⟨fun hr => ?_, fun hr => ?_⟩ <;> show execStrayResponseTimeout (2048 + a) rtag s = _ <;>
      simp only [execStrayResponseTimeout, hagent, if_true, Nat.add_sub_cancel_left, hfind, hr, Bool.not_true, Bool.false_and,
        Bool.false_eq_true, if_false]

end Sys2Proof.Machine
end

section
/-! SUPPORT. The canonical form of the memories: what every operation of the state keeps of it. -/

namespace Sys2Proof.Spec
open Sys2Proof.Machine

/-- The canonical form of the cores' memories. -/
def CoresForm (l : List (Nat × Core)) : Prop := ∀ e ∈ l, Memory.wf e.2.sram = true

theorem memoryForm_iff {s : State} : MemoryForm s ↔ CoresForm s.cores ∧ Memory.wf s.tier.mem = true := Iff.rfl

@[simp] theorem memoryForm_mk (pending now free sent fuse nv cores fab net ports tier strm ctxs switchTo switchAttempt switchRefused must time cxls
    evcs diag pw sec mgmt) : MemoryForm (State.mk pending now free sent fuse nv cores fab net ports tier strm ctxs switchTo switchAttempt
      switchRefused must time cxls evcs diag pw sec mgmt) ↔ CoresForm cores ∧ Memory.wf tier.mem = true := Iff.rfl
/-- The projections of one state put together again. -/
@[simp] theorem coresForm_and_mem {s : State} : CoresForm s.cores ∧ Memory.wf s.tier.mem = true ↔ MemoryForm s := Iff.rfl

theorem MemoryForm.cores {s : State} (h : MemoryForm s) : CoresForm s.cores := h.1
theorem MemoryForm.mem {s : State} (h : MemoryForm s) : Memory.wf s.tier.mem = true := h.2
@[simp] theorem MemoryForm.core {s : State} (h : MemoryForm s) (n : Nat) : Memory.wf (s.core n).sram = true := State.CoresWf.core h.1 n

theorem coresForm_put {l : List (Nat × Core)} {n : Nat} {c : Core} (h : CoresForm l) (hc : Memory.wf c.sram = true) :
    CoresForm (Tab.put n c l) := fun e he => by
  obtain rfl | h' := Tab.mem_put he
  · exact hc
  · exact h e h'

/-- A core put back with its memory as it was. -/
theorem coresForm_put_same {l : List (Nat × Core)} {n : Nat} {c : Core} (hc : c.sram = (Tab.get {} l n).sram) :
    CoresForm (Tab.put n c l) ↔ CoresForm l := by
  induction l with
  | nil => simpa [CoresForm, Tab.put, Tab.get] using congrArg Memory.wf hc
  | cons x l ih =>
    unfold Tab.get at hc
    unfold Tab.put
    split at hc
    · rename_i hlt
      rw [if_pos hlt]
      simp only [CoresForm, List.forall_mem_cons, hc, show Memory.wf ({} : Core).sram = true from rfl, true_and]
    · rename_i hlt
      rw [if_neg hlt]
      split at hc
      · rename_i heq
        rw [if_pos heq]
        simp only [CoresForm, List.forall_mem_cons, hc]
      · rename_i hne
        rw [if_neg hne]
        simpa only [CoresForm, List.forall_mem_cons] using and_congr_right fun _ => ih hc

@[simp] theorem MemoryForm.setCore {s : State} {n : Nat} {c : Core} (h : MemoryForm s) (hc : Memory.wf c.sram = true) :
    MemoryForm (s.setCore n c) := ⟨coresForm_put h.cores hc, h.mem⟩
@[simp] theorem memoryForm_setCore {s : State} {n : Nat} {c : Core} (hc : c.sram = (s.core n).sram) :
    MemoryForm (s.setCore n c) ↔ MemoryForm s := and_congr (coresForm_put_same hc) Iff.rfl
@[simp] theorem MemoryForm.modCore {s : State} {n : Nat} {f : Core → Core} (h : MemoryForm s)
    (hf : Memory.wf (f (s.core n)).sram = true) : MemoryForm (s.modCore n f) := h.setCore hf
@[simp] theorem memoryForm_modCore {s : State} {n : Nat} {f : Core → Core} (hf : (f (s.core n)).sram = (s.core n).sram) :
    MemoryForm (s.modCore n f) ↔ MemoryForm s := memoryForm_setCore hf

@[simp] theorem coresForm_setCore {s : State} {n : Nat} {c : Core} (hc : c.sram = (s.core n).sram) :
    CoresForm (s.setCore n c).cores ↔ CoresForm s.cores := coresForm_put_same hc
@[simp] theorem coresForm_modCore {s : State} {n : Nat} {f : Core → Core} (hf : (f (s.core n)).sram = (s.core n).sram) :
    CoresForm (s.modCore n f).cores ↔ CoresForm s.cores := coresForm_put_same hf

@[simp] theorem coresForm_map {l : List (Nat × Core)} {f : Nat → Core → Core} (hf : ∀ n c, (f n c).sram = c.sram) :
    CoresForm (Tab.map f l) ↔ CoresForm l := by
  simp only [CoresForm, Tab.map, List.forall_mem_map, hf]
@[simp] theorem core_modDiag {s : State} {f : Diag → Diag} {n : Nat} : (s.modDiag f).core n = s.core n := (rfl)

@[simp] theorem memoryForm_ite {p : Prop} [Decidable p] {s t : State} :
    MemoryForm (if p then s else t) ↔ if p then MemoryForm s else MemoryForm t := by
  rw [← apply_ite MemoryForm]

@[simp] theorem memoryForm_foldl {α : Type} {f : State → α → State} {l : List α} {s : State} (hf : ∀ t a, MemoryForm (f t a) ↔ MemoryForm t) :
    MemoryForm (l.foldl f s) ↔ MemoryForm s := by
  induction l generalizing s with
  | nil => exact Iff.rfl
  | cons a l ih => exact ih.trans (hf s a)
theorem MemoryForm.foldl {α : Type} {f : State → α → State} {l : List α} {s : State} (h : MemoryForm s)
    (hf : ∀ t a, MemoryForm t → MemoryForm (f t a)) : MemoryForm (l.foldl f s) := by
  induction l generalizing s with
  | nil => exact h
  | cons a l ih => exact ih (hf s a h)

/-- What the event controllers change is no memory. -/
theorem memoryForm_of_event {s t : State} (k : State.EventFrame s t) : MemoryForm t ↔ MemoryForm s := by
  rw [memoryForm_iff, memoryForm_iff, k.cores, k.tier]

end Sys2Proof.Spec

namespace Sys2Proof.Machine

/-! The memory of a core under its own operations. -/

@[simp] theorem Core.goSilent_sram (c : Core) (now : Nat) : (c.goSilent now).sram = c.sram := (rfl)
@[simp] theorem Core.setFlags_sram (c : Core) (f : Nat) : (c.setFlags f).sram = c.sram := (rfl)
@[simp] theorem Core.clearFlags_sram (c : Core) : (c.clearFlags).sram = c.sram := (rfl)
@[simp] theorem Core.fly_sram (c : Core) (d i : Nat) (a : Act) : (c.fly d i a).sram = c.sram := (rfl)
@[simp] theorem Core.enqueue_sram (c : Core) (l : Nat) (d : Line) : (c.enqueue l d).sram = c.sram := (rfl)
@[simp] theorem Core.countAhead_sram (c : Core) (l n : Nat) : (c.countAhead l n).sram = c.sram := (rfl)
@[simp] theorem Core.modHurdle_sram (c : Core) (f : HurdleWait → HurdleWait) : (c.modHurdle f).sram = c.sram := (rfl)
@[simp] theorem Core.strayHandled_sram (c : Core) (k : Nat × Nat) : (c.strayHandled k).sram = c.sram := (rfl)
@[simp] theorem Core.tierHandled_sram (c : Core) (l : Nat) : (c.tierHandled l).sram = c.sram := (rfl)
@[simp] theorem Core.inboundHandled_sram (c : Core) (i : Nat) : (c.inboundHandled i).sram = c.sram := (rfl)
@[simp] theorem Core.pass_sram (c : Core) (now : Nat) : (c.pass now).sram = c.sram := (rfl)
@[simp] theorem Core.fresh_sram (c : Core) : (c.fresh).sram = c.sram := (rfl)
@[simp] theorem Core.keepCount_sram (c : Core) : (c.keepCount).sram = c.sram := (rfl)
@[simp] theorem Core.leave_sram (c : Core) : (c.leave).sram = c.sram := (rfl)
@[simp] theorem Core.recordAtomic_sram (c : Core) (q : Packet) (l : Line) : (c.recordAtomic q l).sram = c.sram := (rfl)
@[simp] theorem Core.start_sram (c : Core) (t d pc : Nat) : (c.start t d pc).sram = c.sram := (rfl)
@[simp] theorem Core.halt_sram (c : Core) : (c.halt).sram = c.sram := (rfl)
@[simp] theorem Core.reserveFlits_sram (c : Core) (f k : Nat) : (c.reserveFlits f k).sram = c.sram := (rfl)
@[simp] theorem Core.ownStray_sram (c : Core) (r : Nat) : (c.ownStray r).sram = c.sram := (rfl)
@[simp] theorem Core.stopIfDue_sram (c : Core) (now : Nat) : (c.stopIfDue now).sram = c.sram := by
  unfold Core.stopIfDue
  split <;> rfl
@[simp] theorem Core.advanceSeq_sram (c : Core) (q : Packet) : (c.advanceSeq q).sram = c.sram := by
  unfold Core.advanceSeq
  split <;> rfl
@[simp] theorem Core.takeRsp_sram (c : Core) (q : Packet) : (c.takeRsp q).sram = c.sram := by
  unfold Core.takeRsp
  split <;> rfl
@[simp] theorem Core.takeReq_sram (c : Core) (q : Packet) : (c.takeReq q).sram = c.sram := by
  unfold Core.takeReq
  split <;> rfl
@[simp] theorem Core.takeOutcome_sram (c : Core) (m : FoldMsg) : (c.takeOutcome m).sram = c.sram := by
  unfold Core.takeOutcome
  split <;> rfl

@[simp] theorem Core.advance_sram (c : Core) (n : Nat) : (c.advance n).sram = c.sram := by
  unfold Core.advance
  split
  · rfl
  · dsimp only
    split
    · rfl
    · split
      · split <;> rfl
      · rfl

theorem Core.foldl_sram {α : Type} {f : Core → α → Core} (hf : ∀ c a, (f c a).sram = c.sram) (l : List α) (c : Core) :
    (l.foldl f c).sram = c.sram := by
  induction l generalizing c with
  | nil => rfl
  | cons a l ih => exact (ih (f c a)).trans (hf c a)

@[simp] theorem Core.starve_sram (c : Core) : c.starve.sram = c.sram := by
  unfold Core.starve
  dsimp only
  split
  · refine Core.foldl_sram (fun c f => ?_) _ _
    split <;> rfl
  · rfl

/-- A property of the core's memory that every step of a fold keeps. -/
theorem Core.wf_foldl {α : Type} {f : Core → α → Core} (hf : ∀ c a, Memory.wf c.sram = true → Memory.wf (f c a).sram = true) (l : List α)
    (c : Core) (h : Memory.wf c.sram = true) : Memory.wf (l.foldl f c).sram = true := by
  induction l generalizing c with
  | nil => exact h
  | cons a l ih => exact ih (f c a) (hf c a h)

@[simp] theorem Core.wf_clearLines {c : Core} {b l : Nat} (h : Memory.wf c.sram = true) : Memory.wf (c.clearLines b l).sram = true :=
  Memory.wf_clear c.sram _ _ h
@[simp] theorem Core.wf_takeRegions {c : Core} {slot : Nat} {es : List Nat} (h : Memory.wf c.sram = true) :
    Memory.wf (c.takeRegions slot es).sram = true := by
  refine Core.wf_foldl (fun c e hc => ?_) _ c h
  dsimp only
  split
  · exact Core.wf_clearLines hc
  · exact hc
@[simp] theorem Core.wf_giveUp {c : Core} {slot : Nat} (h : Memory.wf c.sram = true) : Memory.wf (c.giveUp slot).sram = true :=
  Core.wf_foldl (fun _ _ hc => Core.wf_clearLines hc) _ c h
@[simp] theorem Core.wf_tested (c : Core) : Memory.wf c.tested.sram = true := rfl
@[simp] theorem Core.wf_wrote {c : Core} {l : Nat} {d : Line} (h : Memory.wf c.sram = true) : Memory.wf (c.writeLine l d).sram = true :=
  Core.wf_writeLine c l d h

theorem Core.wf_writeLoads {c : Core} (ls : List (Nat × Nat × Line)) (h : Memory.wf c.sram = true) :
    Memory.wf (ls.foldl (fun (c : Core) l => c.writeLine l.2.1 l.2.2) c).sram = true := by
  induction ls generalizing c with
  | nil => exact h
  | cons l ls ih =>
    rw [List.foldl_cons]
    exact ih (Core.wf_writeLine c l.2.1 l.2.2 h)
theorem Core.sram_ite_failed (c : Core) (p : Prop) [Decidable p] (r k : Nat) : (if p then c.failed r k else c).sram = c.sram := by
  split <;> simp

end Sys2Proof.Machine
end

section
/-! SUPPORT. The canonical form of the memories under every operation of the state: most leave it as it was, the ones that write a memory
keep it. In the order of the model. -/

namespace Sys2Proof.Spec
open Sys2Proof.Machine

/-! Machine/Ops. -/

@[simp] theorem memoryForm_setPort {s : State} {n : Nat} {p : Port} : MemoryForm (s.setPort n p) ↔ MemoryForm s := Iff.rfl
@[simp] theorem memoryForm_modPort {s : State} {n : Nat} {f : Port → Port} : MemoryForm (s.modPort n f) ↔ MemoryForm s := Iff.rfl
@[simp] theorem memoryForm_setCtx {s : State} {n : Nat} {c : Ctx} : MemoryForm (s.setCtx n c) ↔ MemoryForm s := Iff.rfl
@[simp] theorem memoryForm_modCtx {s : State} {n : Nat} {f : Ctx → Ctx} : MemoryForm (s.modCtx n f) ↔ MemoryForm s := Iff.rfl
@[simp] theorem memoryForm_setCxl {s : State} {n : Nat} {c : Cxl} : MemoryForm (s.setCxl n c) ↔ MemoryForm s := Iff.rfl
@[simp] theorem memoryForm_modCxl {s : State} {n : Nat} {f : Cxl → Cxl} : MemoryForm (s.modCxl n f) ↔ MemoryForm s := Iff.rfl
@[simp] theorem memoryForm_setEvc {s : State} {n : Nat} {e : Evc} : MemoryForm (s.setEvc n e) ↔ MemoryForm s := Iff.rfl
@[simp] theorem memoryForm_emit {s : State} {x : Sent} : MemoryForm (s.emit x) ↔ MemoryForm s := Iff.rfl
@[simp] theorem memoryForm_modDiag {s : State} {f : Diag → Diag} : MemoryForm (s.modDiag f) ↔ MemoryForm s := Iff.rfl
@[simp] theorem memoryForm_msix {s : State} {port vec : Nat} : MemoryForm (s.msix port vec) ↔ MemoryForm s :=
  memoryForm_of_event (State.eventFrame_msix _ _ _)
@[simp] theorem memoryForm_deliver {s : State} {die src : Nat} : MemoryForm (s.deliver die src) ↔ MemoryForm s :=
  memoryForm_of_event (State.eventFrame_deliver _ _ _)
@[simp] theorem memoryForm_setPend {s : State} {die src : Nat} : MemoryForm (s.setPend die src) ↔ MemoryForm s :=
  memoryForm_of_event (State.eventFrame_setPend _ _ _)
@[simp] theorem memoryForm_guardSummary {s : State} {die : Nat} : MemoryForm (s.guardSummary die) ↔ MemoryForm s :=
  memoryForm_of_event (State.eventFrame_guardSummary _ _)
@[simp] theorem memoryForm_assertEvent {s : State} {die src : Nat} : MemoryForm (s.assertEvent die src) ↔ MemoryForm s :=
  memoryForm_of_event (State.eventFrame_assertEvent _ _ _)
@[simp] theorem memoryForm_levelInput {s : State} {die src : Nat} {b : Bool} : MemoryForm (s.levelInput die src b) ↔ MemoryForm s :=
  memoryForm_of_event (State.eventFrame_levelInput _ _ _ _)
@[simp] theorem memoryForm_coreEvent {s : State} {core base : Nat} : MemoryForm (s.coreEvent core base) ↔ MemoryForm s := by
  unfold State.coreEvent
  simp
@[simp] theorem memoryForm_faultRecord {s : State} {core addr slot cls code : Nat} :
    MemoryForm (s.faultRecord core addr slot cls code) ↔ MemoryForm s := by
  unfold State.faultRecord
  simp
@[simp] theorem memoryForm_fault {s : State} {core addr slot cls code : Nat} : MemoryForm (s.fault core addr slot cls code) ↔ MemoryForm s := by
  unfold State.fault
  simp
@[simp] theorem memoryForm_faultOutside {s : State} {core code : Nat} : MemoryForm (s.faultOutside core code) ↔ MemoryForm s := by
  unfold State.faultOutside
  simp
@[simp] theorem memoryForm_poisonAt {s : State} {core addr kind reg : Nat} : MemoryForm (s.poisonAt core addr kind reg) ↔ MemoryForm s := by
  have hdiag (f : Diag → Diag) : MemoryForm (if kind < 4 then s.modDiag f else s) ↔ MemoryForm s := by simp
  have hcore (f : Diag → Diag) : (if kind < 4 then s.modDiag f else s).core core = s.core core := by split <;> rfl
  unfold State.poisonAt
  dsimp only
  split
  · exact (memoryForm_setCore ((Core.sram_ite_failed _ _ _ _).trans (by rw [hcore]))).trans (hdiag _)
  · refine memoryForm_coreEvent.trans (memoryForm_modDiag.trans ((memoryForm_setCore ?_).trans (hdiag _)))
    exact (Core.sram_ite_failed _ _ _ _).trans (by rw [hcore])
@[simp] theorem memoryForm_correctedRead {s : State} {core line : Nat} {queue : Bool} :
    MemoryForm (s.correctedRead core line queue) ↔ MemoryForm s := by
  unfold State.correctedRead
  simp
@[simp] theorem memoryForm_ctxState {s : State} {slot : Nat} {st : CtxSt} : MemoryForm (s.ctxState slot st) ↔ MemoryForm s := by
  unfold State.ctxState
  simp

/-! Machine/Events. -/

@[simp] theorem memoryForm_changeBank {s : State} {die bank : Nat} {f : Evc → Evc} : MemoryForm (s.changeBank die bank f) ↔ MemoryForm s := by
  unfold State.changeBank
  simp
@[simp] theorem memoryForm_pendWrite {s : State} {die bank : Nat} {v : BitVec 64} : MemoryForm (s.pendWrite die bank v) ↔ MemoryForm s := by
  unfold State.pendWrite
  simp
@[simp] theorem memoryForm_pendClear {s : State} {die bank : Nat} {v : BitVec 64} : MemoryForm (s.pendClear die bank v) ↔ MemoryForm s := by
  unfold State.pendClear
  simp
@[simp] theorem memoryForm_maskWrite {s : State} {die bank : Nat} {v : BitVec 64} : MemoryForm (s.maskWrite die bank v) ↔ MemoryForm s := by
  unfold State.maskWrite
  simp
@[simp] theorem memoryForm_stormClear {s : State} {die bank : Nat} {v : BitVec 64} : MemoryForm (s.stormClear die bank v) ↔ MemoryForm s := by
  unfold State.stormClear
  simp
@[simp] theorem memoryForm_stuckClear {s : State} {die bank : Nat} {v : BitVec 64} : MemoryForm (s.stuckClear die bank v) ↔ MemoryForm s := by
  unfold State.stuckClear
  simp
@[simp] theorem memoryForm_cfgWrite {s : State} {die src : Nat} {v : BitVec 64} : MemoryForm (s.cfgWrite die src v) ↔ MemoryForm s := by
  unfold State.cfgWrite
  simp

/-! Machine/Land. -/

@[simp] theorem memoryForm_satEvent {s : State} {core row col : Nat} : MemoryForm (s.satEvent core row col) ↔ MemoryForm s := by
  unfold State.satEvent
  simp
/-! Reads of a core's memory: the bank is used, a correction or a poison recorded. -/

@[simp] theorem memoryForm_opRead {s : State} {core line kind : Nat} : MemoryForm (s.opRead core line kind).2.2 ↔ MemoryForm s := by
  unfold State.opRead
  dsimp only
  split <;> simp
@[simp] theorem memoryForm_opReads {s : State} {core line n : Nat} : MemoryForm (s.opReads core line n).2.2 ↔ MemoryForm s := by
  induction n generalizing s line with
  | zero => exact Iff.rfl
  | succ n ih => exact ih.trans memoryForm_opRead
@[simp] theorem memoryForm_opReadsEach {s : State} {core line n : Nat} : MemoryForm (s.opReadsEach core line n).2 ↔ MemoryForm s := by
  induction n generalizing s line with
  | zero => exact Iff.rfl
  | succ n ih => exact ih.trans memoryForm_opRead
@[simp] theorem memoryForm_moveRead {s : State} {core line : Nat} : MemoryForm (s.moveRead core line).2.2 ↔ MemoryForm s := by
  unfold State.moveRead
  split <;> simp
@[simp] theorem memoryForm_moveReads {s : State} {core line n : Nat} : MemoryForm (s.moveReads core line n).2.2 ↔ MemoryForm s := by
  induction n generalizing s line with
  | zero => exact Iff.rfl
  | succ n ih => exact ih.trans memoryForm_moveRead
@[simp] theorem memoryForm_fetchRead {s : State} {core line : Nat} : MemoryForm (s.fetchRead core line).2 ↔ MemoryForm s := by
  unfold State.fetchRead
  dsimp only
  split <;> simp
@[simp] theorem memoryForm_updateRow {s : State} {core row : Nat} {f : Int → Nat → Col → Col} {cols : List Nat} :
    MemoryForm (s.updateRow core row f cols) ↔ MemoryForm s := by
  unfold State.updateRow
  simp
@[simp] theorem memoryForm_putInjected {s : State} {node : Nat} {p : Packet} : MemoryForm (s.putInjected node p) ↔ MemoryForm s := Iff.rfl
@[simp] theorem memoryForm_injectAt {s : State} {node : Nat} {p : Packet} : MemoryForm (s.injectAt node p) ↔ MemoryForm s := by
  unfold State.injectAt
  simp
@[simp] theorem memoryForm_modKv {s : State} {core kvs : Nat} {f : KvDesc → KvDesc} : MemoryForm (s.modKv core kvs f) ↔ MemoryForm s := by
  unfold State.modKv
  split <;> simp
@[simp] theorem MemoryForm.happen {s : State} {core : Nat} {fl : Flight} (h : MemoryForm s) : MemoryForm (s.happen core fl) := by
  unfold State.happen
  split
  case h_7 => exact h.modCore (Core.wf_writeLines _ _ _ _ (h.core core))
  all_goals
    (repeat' split) <;> simp [h]
@[simp] theorem MemoryForm.settle {s : State} {core : Nat} (h : MemoryForm s) : MemoryForm (s.settle core) := by
  have hland (fs : List Flight) (c : Core) (hc : c.sram = (s.core core).sram) :
      MemoryForm (fs.foldl (fun s f => s.happen core f) (s.setCore core c)) :=
    MemoryForm.foldl ((memoryForm_setCore hc).mpr h) fun _ _ ht => ht.happen
  unfold State.settle
  dsimp only
  split
  · exact h
  · split
    · exact hland _ _ (by rfl)
    · exact memoryForm_faultOutside.mpr (hland _ _ (by rfl))
@[simp] theorem memoryForm_dropAhead {s : State} {core : Nat} : MemoryForm (s.dropAhead core) ↔ MemoryForm s := by
  unfold State.dropAhead
  simp
@[simp] theorem memoryForm_beginHold {s : State} {core cause origin : Nat} : MemoryForm (s.beginHold core cause origin) ↔ MemoryForm s := by
  unfold State.beginHold
  simp
@[simp] theorem memoryForm_endHold {s : State} {core cause origin : Nat} : MemoryForm (s.endHold core cause origin) ↔ MemoryForm s := by
  unfold State.endHold
  simp
@[simp] theorem memoryForm_endOrigin {s : State} {core origin : Nat} : MemoryForm (s.endOrigin core origin) ↔ MemoryForm s := by
  unfold State.endOrigin
  simp
@[simp] theorem memoryForm_countHold {s : State} {core cause : Nat} : MemoryForm (s.countHold core cause) ↔ MemoryForm s := by
  unfold State.countHold
  simp
@[simp] theorem memoryForm_countWait {s : State} {core : Nat} : MemoryForm (s.countWait core) ↔ MemoryForm s := by
  unfold State.countWait
  simp
@[simp] theorem MemoryForm.land {s : State} {core : Nat} (h : MemoryForm s) : MemoryForm (s.land core) := by
  unfold State.land
  simp [h]

/-! Machine/Issue. -/

@[simp] theorem memoryForm_clear {s : State} {n : Nat} : MemoryForm (s.clear n) ↔ MemoryForm s := by
  unfold State.clear
  dsimp only
  (repeat' split) <;> simp
@[simp] theorem memoryForm_recheck {s : State} {n : Nat} : MemoryForm (s.recheck n) ↔ MemoryForm s := by
  unfold State.recheck
  simp
@[simp] theorem memoryForm_refresh {s : State} {n : Nat} : MemoryForm (s.refresh n) ↔ MemoryForm s := by
  unfold State.refresh
  simp
@[simp] theorem memoryForm_heldCycle {s : State} {n : Nat} : MemoryForm (s.heldCycle n) ↔ MemoryForm s := by
  unfold State.heldCycle
  simp
@[simp] theorem memoryForm_nextBundle {s : State} {n : Nat} : MemoryForm (s.nextBundle n) ↔ MemoryForm s := by
  unfold State.nextBundle
  simp
@[simp] theorem memoryForm_runCycle {s : State} {n : Nat} : MemoryForm (s.runCycle n) ↔ MemoryForm s := by
  unfold State.runCycle
  simp
@[simp] theorem MemoryForm.silentCycle {s : State} {n : Nat} (h : MemoryForm s) : MemoryForm (s.silentCycle n) := by
  unfold State.silentCycle
  simp [h]
@[simp] theorem MemoryForm.coreCycle {s : State} {n : Nat} (h : MemoryForm s) : MemoryForm (s.coreCycle n) := by
  unfold State.coreCycle
  split
  · simp [h]
  · exact h.silentCycle
  · have hland := h.land (core := n)
    dsimp only
    split <;> simp [hland]
@[simp] theorem memoryForm_countPorts {s : State} : MemoryForm (s.countPorts) ↔ MemoryForm s := by
  unfold State.countPorts
  split <;> simp
@[simp] theorem MemoryForm.tick {s : State} (h : MemoryForm s) : MemoryForm (s.tick) := memoryForm_countPorts.mpr (h.foldl fun _ _ ht => ht.coreCycle)

/-! Machine/Runahead. -/

@[simp] theorem memoryForm_cancelStreamer {s : State} {slot : Nat} {all : Bool} : MemoryForm (s.cancelStreamer slot all) ↔ MemoryForm s := by
  unfold State.cancelStreamer
  simp

/-! Machine/TierOps. -/

@[simp] theorem memoryForm_storeTouch {s : State} {ta : Nat} {dirty : Bool} : MemoryForm (s.storeTouch ta dirty) ↔ MemoryForm s := Iff.rfl
@[simp] theorem memoryForm_backInvalidate {s : State} {b : Nat} : MemoryForm (s.backInvalidate b) ↔ MemoryForm s := by
  unfold State.backInvalidate
  split <;> simp
@[simp] theorem MemoryForm.rewriteBlock {s : State} {ta : Nat} {d : Line} (h : MemoryForm s) : MemoryForm (s.rewriteBlock ta d) := by
  unfold State.rewriteBlock
  simp [h.cores, h.mem, Memory.wf_writeN]
@[simp] theorem MemoryForm.correctBlock {s : State} {ta finder : Nat} {d : Line} (h : MemoryForm s) : MemoryForm (s.correctBlock ta finder d) := by
  unfold State.correctBlock
  simp [h]
@[simp] theorem MemoryForm.endRewrite {s : State} {b : Nat} (h : MemoryForm s) : MemoryForm (s.endRewrite b) := by
  unfold State.endRewrite
  (repeat' split) <;> simp [h]
@[simp] theorem MemoryForm.tierWrite {s : State} {ta : Nat} {d : Line} {poison : Bool} (h : MemoryForm s) : MemoryForm (s.tierWrite ta d poison) := by
  unfold State.tierWrite
  simp [(memoryForm_storeTouch.mpr h).cores, (memoryForm_storeTouch.mpr h).mem, Memory.wf_writeN]
@[simp] theorem MemoryForm.tierStore {s : State} {ta : Nat} {d : Line} (h : MemoryForm s) : MemoryForm (s.tierStore ta d) := by
  unfold State.tierStore
  simp [h]

/-! Machine/StepOps. -/

@[simp] theorem memoryForm_sendReports {s : State} {n : Nat} : MemoryForm (s.sendReports n) ↔ MemoryForm s := by
  unfold State.sendReports
  refine (memoryForm_foldl fun t p => ?_).trans Iff.rfl
  (repeat' split) <;> simp
@[simp] theorem memoryForm_openStep {s : State} {n : Nat} : MemoryForm (s.openStep n) ↔ MemoryForm s := by
  unfold State.openStep
  exact memoryForm_sendReports.trans (memoryForm_modCore (by dsimp only))
@[simp] theorem memoryForm_freshModule {s : State} : MemoryForm (s.freshModule) ↔ MemoryForm s := Iff.rfl
@[simp] theorem memoryForm_freshInterval {s : State} : MemoryForm (s.freshInterval) ↔ MemoryForm s := by
  unfold State.freshInterval
  simp
@[simp] theorem memoryForm_keepCounts {s : State} {fold tally : Nat} : MemoryForm (s.keepCounts fold tally) ↔ MemoryForm s := Iff.rfl
@[simp] theorem MemoryForm.writeInbound {s : State} {core : Nat} {x : Inbound} (h : MemoryForm s) : MemoryForm (s.writeInbound core x) := by
  have hset (c : Core) (hc : Memory.wf c.sram = true) : MemoryForm (s.setCore core c) := h.setCore hc
  unfold State.writeInbound
  dsimp only
  (repeat' split) <;> simp [h, hset, h.core core]
theorem MemoryForm.landAll {s : State} {n k : Nat} (h : MemoryForm s) : MemoryForm (s.landAll n k) := by
  induction k generalizing s with
  | zero => exact h
  | succ k ih =>
    unfold State.landAll
    split
    · exact h
    · exact ih ((memoryForm_modCore rfl).mpr h.settle)
@[simp] theorem MemoryForm.drainCore {s : State} {n : Nat} (h : MemoryForm s) : MemoryForm (s.drainCore n) :=
  MemoryForm.foldl ((memoryForm_modCore rfl).mpr h.landAll) fun _ _ ht => ht.writeInbound
@[simp] theorem MemoryForm.spill {s : State} {slot core kvs toff : Nat} (h : MemoryForm s) : MemoryForm (s.spill slot core kvs toff) := by
  unfold State.spill
  dsimp only
  split
  · exact h
  · exact h.foldl fun _ _ ht => ht.tierStore
@[simp] theorem MemoryForm.applyKv {s : State} {slot : Nat} {q : KvReq} (h : MemoryForm s) : MemoryForm (s.applyKv slot q) :=
  h.foldl fun _ _ ht => memoryForm_modCtx.mpr (by split <;> simp [ht])
@[simp] theorem MemoryForm.applyKvQueue {s : State} {slot : Nat} (h : MemoryForm s) : MemoryForm (s.applyKvQueue slot) :=
  memoryForm_modCtx.mpr (h.foldl fun _ _ ht => ht.applyKv)
@[simp] theorem MemoryForm.stopCtx {s : State} {slot : Nat} {st : CtxSt} {tally desc : Nat} (h : MemoryForm s) :
    MemoryForm (s.stopCtx slot st tally desc) := by
  have hdrain : MemoryForm ((s.activeCores.foldl State.drainCore s).cancelStreamer slot true) :=
    memoryForm_cancelStreamer.mpr (h.foldl fun _ _ ht => ht.drainCore)
  unfold State.stopCtx
  refine (memoryForm_freshInterval.mpr (memoryForm_ctxState.mpr ?_)).applyKvQueue
  exact ⟨(coresForm_map fun _ c => Core.leave_sram c).mpr hdrain.cores, hdrain.mem⟩

/-! Machine/DroveOps. -/

@[simp] theorem memoryForm_setOut {s : State} {out : Nat} {o : OutSt} : MemoryForm (s.setOut out o) ↔ MemoryForm s := Iff.rfl
@[simp] theorem memoryForm_setIn {s : State} {link : Nat} {i : InSt} : MemoryForm (s.setIn link i) ↔ MemoryForm s := Iff.rfl
@[simp] theorem memoryForm_takeBuffered {s : State} {link out step pos : Nat} : MemoryForm (s.takeBuffered link out step pos) ↔ MemoryForm s := by
  unfold State.takeBuffered
  simp
@[simp] theorem memoryForm_takeStaged {s : State} {core out step : Nat} {e : Ent} : MemoryForm (s.takeStaged core out step e) ↔ MemoryForm s := by
  unfold State.takeStaged
  simp
@[simp] theorem memoryForm_takeFlit {s : State} {out : Nat} {o : OutSt} {e : Ent} : MemoryForm (s.takeFlit out o e) ↔ MemoryForm s := by
  unfold State.takeFlit
  (repeat' split) <;> simp
@[simp] theorem memoryForm_dropHold {s : State} : MemoryForm (s.dropHold) ↔ MemoryForm s := Iff.rfl
@[simp] theorem memoryForm_markHold {s : State} {core : Nat} {e : Ent} {h : HFlit} : MemoryForm (s.markHold core e h) ↔ MemoryForm s := by
  unfold State.markHold
  simp
@[simp] theorem memoryForm_holdAt {s : State} {out : Nat} {h : HFlit} : MemoryForm (s.holdAt out h) ↔ MemoryForm s := by
  unfold State.holdAt
  (repeat' split) <;> simp
@[simp] theorem memoryForm_holdOnLink {s : State} {link : Nat} {h : HFlit} : MemoryForm (s.holdOnLink link h) ↔ MemoryForm s := by
  unfold State.holdOnLink
  simp
@[simp] theorem memoryForm_ownHold {s : State} {out pos cause omod osite : Nat} : MemoryForm (s.ownHold out pos cause omod osite) ↔ MemoryForm s := by
  unfold State.ownHold
  simp
@[simp] theorem memoryForm_blockedAt {s : State} {out : Nat} : MemoryForm (s.blockedAt out) ↔ MemoryForm s := by
  unfold State.blockedAt
  dsimp only
  (repeat' split) <;> simp
@[simp] theorem memoryForm_ejectTo {s : State} {core step : Nat} {e : Ent} {ts : List OutTab} {kind : Nat} {p : Block} :
    MemoryForm (s.ejectTo core step e ts kind p) ↔ MemoryForm s := by
  unfold State.ejectTo
  simp
@[simp] theorem memoryForm_modFold {s : State} {f : FoldUnit → FoldUnit} : MemoryForm (s.modFold f) ↔ MemoryForm s := Iff.rfl
@[simp] theorem memoryForm_latchSwitch {s : State} {m : FoldMsg} : MemoryForm (s.latchSwitch m) ↔ MemoryForm s := by
  unfold State.latchSwitch
  split <;> simp
@[simp] theorem memoryForm_holdOutcome {s : State} {m : FoldMsg} : MemoryForm (s.holdOutcome m) ↔ MemoryForm s := by
  unfold State.holdOutcome
  simp
@[simp] theorem memoryForm_parentFailed {s : State} {fold tally reason parent : Nat} :
    MemoryForm (s.parentFailed fold tally reason parent) ↔ MemoryForm s := by
  unfold State.parentFailed
  split <;> simp
@[simp] theorem memoryForm_parentEarly {s : State} {fold tally parent : Nat} : MemoryForm (s.parentEarly fold tally parent) ↔ MemoryForm s := by
  unfold State.parentEarly
  split <;> simp
@[simp] theorem memoryForm_sendArrival {s : State} {fold tally : Nat} : MemoryForm (s.sendArrival fold tally) ↔ MemoryForm s := by
  unfold State.sendArrival
  simp
@[simp] theorem memoryForm_readFold {s : State} {m : FoldMsg} : MemoryForm (s.readFold m).2 ↔ MemoryForm s := Iff.rfl
@[simp] theorem memoryForm_foldUp {s : State} {port : Nat} {m : FoldMsg} : MemoryForm (s.foldUp port m) ↔ MemoryForm s := by
  unfold State.foldUp
  split <;> simp
@[simp] theorem memoryForm_foldDown {s : State} {port : Nat} {m : FoldMsg} : MemoryForm (s.foldDown port m) ↔ MemoryForm s := by
  unfold State.foldDown
  split <;> simp
@[simp] theorem memoryForm_parentNull {s : State} {fold tally parent : Nat} : MemoryForm (s.parentNull fold tally parent) ↔ MemoryForm s := by
  unfold State.parentNull
  simp
@[simp] theorem memoryForm_foldFlit {s : State} {port kind : Nat} {p : Block} : MemoryForm (s.foldFlit port kind p) ↔ MemoryForm s := by
  unfold State.foldFlit
  (repeat' split) <;> simp
@[simp] theorem memoryForm_sendOn {s : State} {out : Nat} {o : OutSt} {e : Ent} {kind : Nat} {p : Block} :
    MemoryForm (s.sendOn out o e kind p) ↔ MemoryForm s := by
  unfold State.sendOn
  split <;> simp
@[simp] theorem memoryForm_depart {s : State} {out : Nat} : MemoryForm (s.depart out) ↔ MemoryForm s := by
  unfold State.depart
  dsimp only
  (repeat' split) <;> simp

/-! Machine/StrayOps. -/

@[simp] theorem memoryForm_dropPacket {s : State} {k : Nat} : MemoryForm (s.dropPacket k) ↔ MemoryForm s := Iff.rfl
@[simp] theorem memoryForm_mapPacket {s : State} {k : Nat} {f : StrayAt → StrayAt} : MemoryForm (s.mapPacket k f) ↔ MemoryForm s := Iff.rfl
@[simp] theorem memoryForm_ejectPacket {s : State} {core : Nat} {k : Nat} {p : Packet} : MemoryForm (s.ejectPacket core k p) ↔ MemoryForm s := by
  unfold State.ejectPacket
  simp
@[simp] theorem memoryForm_strayDepart {s : State} {k : Nat} {a : StrayAt} {out : Nat} {deflected : Bool} :
    MemoryForm (s.strayDepart k a out deflected) ↔ MemoryForm s := by
  unfold State.strayDepart
  simp
@[simp] theorem memoryForm_strayArrive {s : State} {x : Sending} : MemoryForm (s.strayArrive x) ↔ MemoryForm s := by
  unfold State.strayArrive
  split <;> simp
@[simp] theorem memoryForm_sendFlit {s : State} {bad : List Nat} {x : Sending} : MemoryForm (s.sendFlit bad x) ↔ MemoryForm s := by
  unfold State.sendFlit
  simp
@[simp] theorem memoryForm_strayStart {s : State} {bad : List Nat} {k : Nat} {a : StrayAt} {out : Nat} {deflected : Bool} :
    MemoryForm (s.strayStart bad k a out deflected) ↔ MemoryForm s := by
  unfold State.strayStart
  simp
@[simp] theorem memoryForm_fillInjection {s : State} {node : Nat} : MemoryForm (s.fillInjection node) ↔ MemoryForm s := by
  unfold State.fillInjection
  (repeat' split) <;> simp
@[simp] theorem memoryForm_reachAgent {s : State} {node k : Nat} {p : Packet} : MemoryForm (s.reachAgent node k p) ↔ MemoryForm s := by
  unfold State.reachAgent
  simp
theorem memoryForm_foldl_fst {α β : Type} {f : State × β → α → State × β} {l : List α} {s : State × β}
    (hf : ∀ t a, MemoryForm (f t a).1 ↔ MemoryForm t.1) : MemoryForm (l.foldl f s).1 ↔ MemoryForm s.1 := by
  induction l generalizing s with
  | nil => exact Iff.rfl
  | cons a l ih => exact ih.trans (hf s a)
@[simp] theorem memoryForm_choose {s : State} {l : List Nat} : MemoryForm (s.choose l).2 ↔ MemoryForm s := Iff.rfl
@[simp] theorem memoryForm_strayWay {s : State} {node : Nat} {p : Packet} {used : List Nat} : MemoryForm (s.strayWay node p used).2 ↔ MemoryForm s := by
  unfold State.strayWay
  dsimp only
  (repeat' split) <;> simp
@[simp] theorem memoryForm_strayServe {s : State} {node : Nat} {bad : List Nat} : MemoryForm (s.strayServe node bad) ↔ MemoryForm s := by
  unfold State.strayServe
  refine (memoryForm_foldl_fst fun t e => ?_).trans (by simp)
  dsimp only
  (repeat' split) <;> simp
@[simp] theorem memoryForm_strayFromPort {s : State} {port : Nat} : MemoryForm (s.strayFromPort port) ↔ MemoryForm s := by
  unfold State.strayFromPort
  dsimp only
  split <;> simp
@[simp] theorem memoryForm_strayRegionFault {s : State} {core : Nat} {q : Packet} : MemoryForm (s.strayRegionFault core q) ↔ MemoryForm s := by
  unfold State.strayRegionFault
  simp
@[simp] theorem memoryForm_modDesc {s : State} {port ring i : Nat} {f : Desc → Desc} : MemoryForm (s.modDesc port ring i f) ↔ MemoryForm s := Iff.rfl
@[simp] theorem memoryForm_touchDesc {s : State} {port ring i slot : Nat} : MemoryForm (s.touchDesc port ring i slot) ↔ MemoryForm s := Iff.rfl
@[simp] theorem memoryForm_hostPerformed {s : State} {q : Packet} {wrote : Bool} : MemoryForm (s.hostPerformed q wrote) ↔ MemoryForm s := by
  unfold State.hostPerformed
  (repeat' split) <;> simp
@[simp] theorem memoryForm_respond {s : State} {core : Nat} {r : Option Packet} : MemoryForm (s.respond core r) ↔ MemoryForm s := by
  unfold State.respond
  split <;> simp
@[simp] theorem memoryForm_hostServed {s : State} {core : Nat} {key : Nat × Nat} : MemoryForm (s.hostServed core key) ↔ MemoryForm s := by
  unfold State.hostServed
  simp
@[simp] theorem memoryForm_reqHandled {s : State} {core : Nat} {q : Packet} : MemoryForm (s.reqHandled core q) ↔ MemoryForm s := by
  unfold State.reqHandled
  simp
@[simp] theorem memoryForm_finishWork {s : State} {core : Nat} {w : StrayWork} {status old : Nat} :
    MemoryForm (s.finishWork core w status old) ↔ MemoryForm s := by
  unfold State.finishWork
  (repeat' split) <;> simp
@[simp] theorem memoryForm_nextLine {s : State} {core : Nat} {w : StrayWork} : MemoryForm (s.nextLine core w) ↔ MemoryForm s := by
  unfold State.nextLine
  simp
@[simp] theorem memoryForm_rmwRead {s : State} {core line : Nat} : MemoryForm (s.rmwRead core line).2 ↔ MemoryForm s := by
  unfold State.rmwRead
  dsimp only
  split <;> simp
@[simp] theorem memoryForm_rmwBegin {s : State} {core : Nat} {w : StrayWork} : MemoryForm (s.rmwBegin core w) ↔ MemoryForm s := by
  unfold State.rmwBegin
  have hread := memoryForm_rmwRead (s := s) (core := core) (line := w.line)
  split
  next heq => rw [heq] at hread; split <;> simp [hread]
  next heq => rw [heq] at hread; simp [hread]
@[simp] theorem MemoryForm.workAccess {s : State} {core : Nat} {w : StrayWork} (h : MemoryForm s) : MemoryForm (s.workAccess core w) := by
  have hput (l : Line) (f : Core → Core) (hf : (f (s.core core)).sram = (s.core core).sram) :
      MemoryForm ((s.modCore core f).modCore core fun c => c.writeLine w.line l) :=
    ((memoryForm_modCore hf).mpr h).modCore (Core.wf_writeLine _ _ _ (((memoryForm_modCore hf).mpr h).core core))
  unfold State.workAccess
  dsimp only
  (repeat' split) <;> simp [h, hput]
@[simp] theorem memoryForm_beginWork {s : State} {core : Nat} {q : Packet} {again : Bool} : MemoryForm (s.beginWork core q again) ↔ MemoryForm s := by
  unfold State.beginWork
  simp
@[simp] theorem memoryForm_duplicate {s : State} {core : Nat} {q : Packet} : MemoryForm (s.duplicate core q) ↔ MemoryForm s := by
  unfold State.duplicate
  simp
@[simp] theorem memoryForm_bounce {s : State} {core : Nat} {q : Packet} : MemoryForm (s.bounce core q) ↔ MemoryForm s := by
  unfold State.bounce
  simp
@[simp] theorem memoryForm_store {s : State} {core : Nat} {q : Packet} : MemoryForm (s.store core q) ↔ MemoryForm s := by
  unfold State.store
  simp
@[simp] theorem memoryForm_handleReq {s : State} {core : Nat} {q : Packet} : MemoryForm (s.handleReq core q) ↔ MemoryForm s := by
  unfold State.handleReq
  simp
@[simp] theorem memoryForm_badStatus {s : State} {core : Nat} {o : OutReq} {status : Nat} :
    MemoryForm (s.badStatus core o status) ↔ MemoryForm s := by
  unfold State.badStatus
  (repeat' split) <;> simp
@[simp] theorem MemoryForm.retire {s : State} {core : Nat} {o : OutReq} {r : Packet} (h : MemoryForm s) : MemoryForm (s.retire core o r) := by
  have hland (l : Nat) (d : Line) (f : Core → Core) (hf : ∀ c, (f c).sram = (c.writeLine l d).sram) : MemoryForm (s.modCore core f) :=
    h.modCore (by rw [hf]; exact Core.wf_writeLine _ _ _ (h.core core))
  unfold State.retire
  dsimp only
  split
  next sp _ =>
    split
    · simp [h]
    · simp [hland (sp / 64) r.inline]
  · simp [h]
@[simp] theorem memoryForm_agentSend {s : State} {a : Nat} {o : OutReq} : MemoryForm (s.agentSend a o) ↔ MemoryForm s := by
  unfold State.agentSend
  simp
@[simp] theorem memoryForm_agentPump {s : State} {a k : Nat} : MemoryForm (s.agentPump a k) ↔ MemoryForm s := by
  induction k generalizing s with
  | zero => exact Iff.rfl
  | succ k ih =>
    unfold State.agentPump
    split
    · exact Iff.rfl
    · split
      · exact Iff.rfl
      · exact ih.trans memoryForm_agentSend
@[simp] theorem memoryForm_agentAsk {s : State} {a core slot : Nat} {serve : Nat × Nat × Nat × Nat} {p : Packet} :
    MemoryForm (s.agentAsk a core slot serve p) ↔ MemoryForm s := by
  unfold State.agentAsk
  simp

/-! Machine/LinkOps. -/

@[simp] theorem memoryForm_sendCodeword {s : State} {port : Nat} : MemoryForm (s.sendCodeword port) ↔ MemoryForm s := by
  unfold State.sendCodeword
  simp
@[simp] theorem memoryForm_enterRetrain {s : State} {port : Nat} : MemoryForm (s.enterRetrain port) ↔ MemoryForm s := by
  unfold State.enterRetrain
  simp
@[simp] theorem memoryForm_putFlit {s : State} {port seq ft : Nat} {body : Bytes} : MemoryForm (s.putFlit port seq ft body) ↔ MemoryForm s := by
  unfold State.putFlit
  simp
@[simp] theorem memoryForm_sendSequenced {s : State} {port tag : Nat} {payload : Block} :
    MemoryForm (s.sendSequenced port tag payload) ↔ MemoryForm s := by
  unfold State.sendSequenced
  simp
@[simp] theorem memoryForm_sendControl {s : State} {port : Nat} : MemoryForm (s.sendControl port) ↔ MemoryForm s := by
  unfold State.sendControl
  dsimp only
  split
  · exact memoryForm_putFlit
  · exact memoryForm_putFlit
@[simp] theorem memoryForm_sendTrain {s : State} {port : Nat} : MemoryForm (s.sendTrain port) ↔ MemoryForm s := by
  unfold State.sendTrain
  simp
@[simp] theorem memoryForm_sendFrames {s : State} {port : Nat} : MemoryForm (s.sendFrames port) ↔ MemoryForm s := Iff.rfl
@[simp] theorem memoryForm_equalizeFrames {s : State} {port : Nat} : MemoryForm (s.equalizeFrames port) ↔ MemoryForm s := Iff.rfl
@[simp] theorem memoryForm_sealFlit {s : State} {port : Nat} : MemoryForm (s.sealFlit port) ↔ MemoryForm s := by
  unfold State.sealFlit
  simp
@[simp] theorem memoryForm_switchTx {s : State} {port : Nat} : MemoryForm (s.switchTx port) ↔ MemoryForm s := by
  unfold State.switchTx
  dsimp only
  split <;> simp
@[simp] theorem memoryForm_switchRx {s : State} {port : Nat} : MemoryForm (s.switchRx port) ↔ MemoryForm s := by
  unfold State.switchRx
  dsimp only
  split <;> simp
@[simp] theorem memoryForm_addedFrames {s : State} {port : Nat} : MemoryForm (s.addedFrames port) ↔ MemoryForm s := by
  unfold State.addedFrames
  simp
@[simp] theorem memoryForm_fillFlit {s : State} {port : Nat} : MemoryForm (s.fillFlit port) ↔ MemoryForm s := by
  unfold State.fillFlit
  dsimp only
  (repeat' split) <;> simp only [memoryForm_putFlit, memoryForm_sendSequenced, memoryForm_sendControl, memoryForm_setPort]
@[simp] theorem memoryForm_activeFlit {s : State} {port : Nat} : MemoryForm (s.activeFlit port) ↔ MemoryForm s := by
  unfold State.activeFlit
  simp
@[simp] theorem memoryForm_addFailure {s : State} {reason fsite : Nat} : MemoryForm (s.addFailure reason fsite) ↔ MemoryForm s := Iff.rfl
@[simp] theorem memoryForm_answerDropped {s : State} {port : Nat} {p : Packet} : MemoryForm (s.answerDropped port p) ↔ MemoryForm s := by
  unfold State.answerDropped
  simp
@[simp] theorem memoryForm_sendReset {s : State} {port reason : Nat} : MemoryForm (s.sendReset port reason) ↔ MemoryForm s := by
  unfold State.sendReset
  simp
@[simp] theorem memoryForm_noteReset {s : State} {port : Nat} : MemoryForm (s.noteReset port) ↔ MemoryForm s := by
  unfold State.noteReset
  simp
@[simp] theorem memoryForm_resetPort {s : State} {port reason : Nat} {own off : Bool} :
    MemoryForm (s.resetPort port reason own off) ↔ MemoryForm s := by
  unfold State.resetPort
  dsimp only
  (repeat' split) <;> simp
@[simp] theorem memoryForm_enterSeal {s : State} {port : Nat} : MemoryForm (s.enterSeal port) ↔ MemoryForm s := Iff.rfl

/-! Machine/TimeOps. -/

@[simp] theorem memoryForm_timeState {s : State} {st : TimeSt} : MemoryForm (s.timeState st) ↔ MemoryForm s := by
  unfold State.timeState
  simp
@[simp] theorem memoryForm_takeParent {s : State} {p : Nat} : MemoryForm (s.takeParent p) ↔ MemoryForm s := Iff.rfl
@[simp] theorem memoryForm_enterNet {s : State} {step : Bool} : MemoryForm (s.enterNet step) ↔ MemoryForm s := by
  unfold State.enterNet
  simp
@[simp] theorem memoryForm_edgeRecords {s : State} {k stamp : Nat} : MemoryForm (s.edgeRecords k stamp) ↔ MemoryForm s := Iff.rfl
@[simp] theorem memoryForm_firstEdge {s : State} {ts stamp : Nat} : MemoryForm (s.firstEdge ts stamp) ↔ MemoryForm s := by
  unfold State.firstEdge
  simp
@[simp] theorem memoryForm_edgeCommand {s : State} : MemoryForm (s.edgeCommand) ↔ MemoryForm s := by
  unfold State.edgeCommand
  (repeat' split) <;> simp
@[simp] theorem memoryForm_laterEdge {s : State} {count stamp : Nat} : MemoryForm (s.laterEdge count stamp) ↔ MemoryForm s := by
  unfold State.laterEdge
  split <;> simp
@[simp] theorem memoryForm_askTime {s : State} {p : Nat} : MemoryForm (s.askTime p) ↔ MemoryForm s := Iff.rfl
@[simp] theorem memoryForm_coast {s : State} : MemoryForm (s.coast) ↔ MemoryForm s := by
  unfold State.coast
  simp
@[simp] theorem memoryForm_cmdCoast {s : State} : MemoryForm (s.cmdCoast) ↔ MemoryForm s := by
  unfold State.cmdCoast
  simp
@[simp] theorem memoryForm_refuseTheta {s : State} {th40 : Int} : MemoryForm (s.refuseTheta th40) ↔ MemoryForm s := Iff.rfl
@[simp] theorem memoryForm_useReply {s : State} {port t1 t2 tx t4 nt2 : Nat} : MemoryForm (s.useReply port t1 t2 tx t4 nt2) ↔ MemoryForm s := by
  unfold State.useReply
  simp

/-! Machine/MusterOps. -/

@[simp] theorem memoryForm_recordReply {s : State} {port : Nat} {b : Block} {t4 : Nat} : MemoryForm (s.recordReply port b t4) ↔ MemoryForm s :=
  Iff.rfl
@[simp] theorem memoryForm_sendMuster {s : State} {ports : List Nat} {b : Block} {fresh : Bool} :
    MemoryForm (s.sendMuster ports b fresh) ↔ MemoryForm s := by
  unfold State.sendMuster
  simp
@[simp] theorem memoryForm_newMuster {s : State} {b : Block} : MemoryForm (s.newMuster b) ↔ MemoryForm s := by
  unfold State.newMuster
  simp
@[simp] theorem MemoryForm.musterEnds {s : State} {reason fmodid rx : Nat} {b : Block} (h : MemoryForm s) :
    MemoryForm (s.musterEnds reason fmodid rx b) := by
  unfold State.musterEnds
  split
  · exact h
  · exact MemoryForm.applyKvQueue (by simp [h])
@[simp] theorem MemoryForm.musterFail {s : State} {reason : Nat} (h : MemoryForm s) : MemoryForm (s.musterFail reason) := by
  unfold State.musterFail
  split <;> simp [h]
@[simp] theorem memoryForm_bareFail {s : State} {slot attempt pen : Nat} {ports : List Nat} :
    MemoryForm (s.bareFail slot attempt pen ports) ↔ MemoryForm s := by
  unfold State.bareFail
  simp
@[simp] theorem memoryForm_clearRecords {s : State} : MemoryForm (s.clearRecords) ↔ MemoryForm s := by
  unfold State.clearRecords
  simp
@[simp] theorem memoryForm_resetBefore {s : State} {port : Nat} : MemoryForm (s.resetBefore port) ↔ MemoryForm s := by
  unfold State.resetBefore
  simp
@[simp] theorem memoryForm_fillQueue {s : State} {n k : Nat} : MemoryForm (s.fillQueue n k) ↔ MemoryForm s := by
  induction k generalizing s with
  | zero => exact Iff.rfl
  | succ k ih =>
    unfold State.fillQueue
    simp [ih]
@[simp] theorem memoryForm_startCtx {s : State} {slot : Nat} : MemoryForm (s.startCtx slot) ↔ MemoryForm s := by
  unfold State.startCtx
  refine (memoryForm_foldl fun _ _ => memoryForm_resetBefore).trans ((memoryForm_foldl fun _ _ => memoryForm_fillQueue).trans
    ((memoryForm_foldl fun _ _ => memoryForm_sendReports).trans (memoryForm_freshInterval.trans (memoryForm_assertEvent.trans
    (memoryForm_ctxState.trans (memoryForm_modCtx.trans ((memoryForm_foldl fun _ _ => memoryForm_modCore rfl).trans ?_)))))))
  simp
@[simp] theorem memoryForm_setClass {s : State} {b : Bytes} {m port cls : Nat} {n : Option (Nat × Nat × Nat × Nat)} :
    MemoryForm (s.setClass b m port cls n) ↔ MemoryForm s := by
  unfold State.setClass
  simp
@[simp] theorem MemoryForm.musterClassed {s : State} {slot : Nat} {b : Bytes} {m : Nat} (h : MemoryForm s) :
    MemoryForm (s.musterClassed slot b m) := by
  unfold State.musterClassed
  dsimp only
  (repeat' split) <;> simp [h]
@[simp] theorem MemoryForm.musterRecords {s : State} {slot : Nat} {b : Bytes} (h : MemoryForm s) : MemoryForm (s.musterRecords slot b) := by
  unfold State.musterRecords
  dsimp only
  (repeat' split) <;> simp [h]
theorem MemoryForm.musterRounds {s : State} {slot k : Nat} {b : Bytes} (h : MemoryForm s) : MemoryForm (s.musterRounds slot b k) := by
  induction k generalizing s with
  | zero => exact h
  | succ k ih =>
    unfold State.musterRounds
    split
    · exact ih (memoryForm_newMuster.mpr h)
    · exact h
@[simp] theorem MemoryForm.musterGo {s : State} (h : MemoryForm s) : MemoryForm (s.musterGo) := by
  unfold State.musterGo
  split
  · exact h
  · dsimp only
    split
    · exact h
    · split
      · exact memoryForm_startCtx.mpr h.musterClassed.musterRecords.musterRounds
      · exact h.musterClassed.musterRecords.musterRounds
@[simp] theorem MemoryForm.startMuster {s : State} {slot attempt : Nat} (h : MemoryForm s) : MemoryForm (s.startMuster slot attempt) := by
  unfold State.startMuster
  simp [h]
@[simp] theorem MemoryForm.classify {s : State} {port : Nat} (h : MemoryForm s) : MemoryForm (s.classify port) := by
  unfold State.classify
  dsimp only
  (repeat' split) <;> simp [h]
@[simp] theorem MemoryForm.checkLeft {s : State} {port : Nat} (h : MemoryForm s) : MemoryForm (s.checkLeft port) := by
  unfold State.checkLeft
  simp [h]

/-! Machine/FoldOps. -/

@[simp] theorem MemoryForm.handOver {s : State} {target : Option (Nat × Nat)} (h : MemoryForm s) : MemoryForm (s.handOver target) := by
  unfold State.handOver
  split
  · dsimp only
    split
    · exact MemoryForm.startMuster h
    · exact h
  · exact h
@[simp] theorem MemoryForm.finishFold {s : State} (h : MemoryForm s) : MemoryForm (s.finishFold) := by
  unfold State.finishFold
  split
  · exact h
  · split
    · exact h
    · dsimp only
      split
      · exact MemoryForm.handOver h.stopCtx
      · (repeat' split)
        · exact h
        · exact h.stopCtx
        · exact h
        · exact MemoryForm.handOver h.stopCtx
        · exact h
@[simp] theorem memoryForm_nextFold {s : State} : MemoryForm (s.nextFold) ↔ MemoryForm s := by
  unfold State.nextFold
  split <;> simp
@[simp] theorem MemoryForm.outcomeAt {s : State} {n : Nat} (h : MemoryForm s) : MemoryForm (s.outcomeAt n) := by
  unfold State.outcomeAt
  split <;> simp [h]
@[simp] theorem MemoryForm.closeLast {s : State} {n : Nat} (h : MemoryForm s) : MemoryForm (s.closeLast n) := by
  unfold State.closeLast
  simp [h]
@[simp] theorem memoryForm_nextStep {s : State} {n : Nat} : MemoryForm (s.nextStep n) ↔ MemoryForm s := by
  unfold State.nextStep
  dsimp only
  refine memoryForm_openStep.trans ?_
  (repeat' split) <;> simp
@[simp] theorem MemoryForm.beginStep {s : State} {n : Nat} (h : MemoryForm s) : MemoryForm (s.beginStep n) := by
  unfold State.beginStep
  (repeat' split) <;> simp [h]
@[simp] theorem memoryForm_arriveCore {s : State} {n : Nat} : MemoryForm (s.arriveCore n) ↔ MemoryForm s := by
  unfold State.arriveCore
  split <;> simp
@[simp] theorem memoryForm_foldTimedOut {s : State} : MemoryForm (s.foldTimedOut) ↔ MemoryForm s := by
  unfold State.foldTimedOut
  (repeat' split) <;> simp

/-! Machine/Intake. -/

@[simp] theorem MemoryForm.deliverShard {s : State} {slot : Nat} {e : ShardEnt} {out : Bytes} (h : MemoryForm s) :
    MemoryForm (s.deliverShard slot e out) := by
  unfold State.deliverShard
  dsimp only
  split
  · refine h.foldl fun t q ht => ?_
    split <;> simp [ht]
  · split
    · exact h.foldl fun _ _ ht => ht.tierStore
    · exact h
@[simp] theorem memoryForm_modShard {s : State} {slot i : Nat} {f : Shard → Shard} : MemoryForm (s.modShard slot i f) ↔ MemoryForm s := Iff.rfl
@[simp] theorem memoryForm_fetchShard {s : State} {slot i : Nat} : MemoryForm (s.fetchShard slot i) ↔ MemoryForm s := Iff.rfl
@[simp] theorem memoryForm_startShards {s : State} {slot : Nat} : MemoryForm (s.startShards slot) ↔ MemoryForm s := by
  unfold State.startShards
  simp
@[simp] theorem memoryForm_startLoad {s : State} {slot : Nat} : MemoryForm (s.startLoad slot) ↔ MemoryForm s := by
  unfold State.startLoad
  simp
@[simp] theorem memoryForm_startPending {s : State} : MemoryForm (s.startPending) ↔ MemoryForm s := by
  unfold State.startPending
  (repeat' split) <;> simp
@[simp] theorem memoryForm_dropLoads {s : State} {slot : Nat} : MemoryForm (s.dropLoads slot) ↔ MemoryForm s := by
  unfold State.dropLoads
  simp
theorem coresForm_map_of {l : List (Nat × Core)} {f : Nat → Core → Core} (h : CoresForm l)
    (hf : ∀ n c, Memory.wf c.sram = true → Memory.wf (f n c).sram = true) : CoresForm (Tab.map f l) := by
  intro e he
  obtain ⟨x, hx, rfl⟩ := List.mem_map.mp he
  exact hf x.1 x.2 (h x hx)
@[simp] theorem MemoryForm.flushLoads {s : State} {slot : Nat} (h : MemoryForm s) : MemoryForm (s.flushLoads slot) := by
  rw [State.flushLoads, memoryForm_dropLoads, memoryForm_mk]
  exact ⟨coresForm_map_of h.cores fun _ _ hc => Core.wf_writeLoads _ hc, h.mem⟩
@[simp] theorem memoryForm_failLoad {s : State} {slot status detail : Nat} : MemoryForm (s.failLoad slot status detail) ↔ MemoryForm s := by
  unfold State.failLoad
  simp
@[simp] theorem memoryForm_finishLoad {s : State} {slot : Nat} : MemoryForm (s.finishLoad slot) ↔ MemoryForm s := by
  unfold State.finishLoad
  simp
@[simp] theorem memoryForm_endAttempt {s : State} {slot i status : Nat} {cs : Nat × Nat × Nat} :
    MemoryForm (s.endAttempt slot i status cs) ↔ MemoryForm s := by
  unfold State.endAttempt
  simp
@[simp] theorem memoryForm_copySegs {s : State} {slot n : Nat} {b : Bytes} {ss : List (Nat × Nat × Nat × Nat)} :
    MemoryForm (s.copySegs slot n b ss) ↔ MemoryForm s := by
  unfold State.copySegs
  simp
@[simp] theorem MemoryForm.writeImage {s : State} {slot m : Nat} {kv : List Nat} (h : MemoryForm s) : MemoryForm (s.writeImage slot m kv) :=
  memoryForm_modCtx.mpr (h.foldl fun _ n ht => memoryForm_copySegs.mpr (ht.modCore (Core.wf_takeRegions (ht.core n))))
@[simp] theorem memoryForm_gotCpb {s : State} {slot : Nat} {d : Bytes} : MemoryForm (s.gotCpb slot d) ↔ MemoryForm s := by
  unfold State.gotCpb
  dsimp only
  (repeat' split) <;> simp
@[simp] theorem memoryForm_segmentsDone {s : State} {slot : Nat} : MemoryForm (s.segmentsDone slot) ↔ MemoryForm s := by
  unfold State.segmentsDone
  simp
@[simp] theorem memoryForm_segmentAnswer {s : State} {slot : Nat} {q r : Packet} : MemoryForm (s.segmentAnswer slot q r) ↔ MemoryForm s := by
  unfold State.segmentAnswer
  simp
@[simp] theorem MemoryForm.gotImage {s : State} {slot : Nat} {d : Bytes} (h : MemoryForm s) : MemoryForm (s.gotImage slot d) := by
  unfold State.gotImage
  dsimp only
  (repeat' split) <;> simp [h]
@[simp] theorem memoryForm_gotManifest {s : State} {slot : Nat} {d : Bytes} : MemoryForm (s.gotManifest slot d) ↔ MemoryForm s := by
  unfold State.gotManifest
  dsimp only
  (repeat' split) <;> simp
@[simp] theorem memoryForm_loadReadFailed {s : State} {slot : Nat} : MemoryForm (s.loadReadFailed slot) ↔ MemoryForm s := by
  unfold State.loadReadFailed
  simp
@[simp] theorem MemoryForm.loadRead {s : State} {slot : Nat} {phase : LoadPhase} {data : Option Bytes} (h : MemoryForm s) :
    MemoryForm (s.loadRead slot phase data) := by
  unfold State.loadRead
  (repeat' split) <;> simp [h]
@[simp] theorem MemoryForm.zeroTier {s : State} {lo n : Nat} (h : MemoryForm s) : MemoryForm (s.zeroTier lo n) := by
  unfold State.zeroTier
  exact (memoryForm_foldl fun _ _ => memoryForm_backInvalidate).mpr ⟨h.cores, Memory.wf_clear _ _ _ h.mem⟩
@[simp] theorem MemoryForm.clearCtx {s : State} {slot : Nat} (h : MemoryForm s) : MemoryForm (s.clearCtx slot) := by
  have hcores : MemoryForm ({ s with cores := Tab.map (fun _ c => c.giveUp slot) s.cores } : State) :=
    ⟨coresForm_map_of h.cores fun _ _ hc => Core.wf_giveUp hc, h.mem⟩
  unfold State.clearCtx
  dsimp only
  refine memoryForm_setCtx.mpr ?_
  have hzero (r : Nat × Nat) := hcores.zeroTier (lo := r.1) (n := r.2)
  have hclear {t : State} (ht : MemoryForm t) : CoresForm t.clearRecords.cores ∧ Memory.wf t.clearRecords.tier.mem = true :=
    memoryForm_clearRecords.mpr ht
  cases (s.ctx slot).tierRange with
  | none =>
    dsimp only
    split
    · exact hclear hcores
    · exact hcores
  | some r =>
    dsimp only
    split
    · exact hclear (hzero r)
    · exact hzero r
@[simp] theorem memoryForm_cmdLoad {s : State} {slot : Nat} : MemoryForm (s.cmdLoad slot) ↔ MemoryForm s := by
  unfold State.cmdLoad
  simp
@[simp] theorem MemoryForm.cmdUnload {s : State} {slot : Nat} (h : MemoryForm s) : MemoryForm (s.cmdUnload slot) := by
  unfold State.cmdUnload
  simp [h]
@[simp] theorem MemoryForm.cmdMuster {s : State} {slot : Nat} (h : MemoryForm s) : MemoryForm (s.cmdMuster slot) := by
  unfold State.cmdMuster
  simp [h]
@[simp] theorem MemoryForm.cmdKill {s : State} {slot : Nat} (h : MemoryForm s) : MemoryForm (s.cmdKill slot) := by
  unfold State.cmdKill
  simp [h]
@[simp] theorem MemoryForm.kvReq {s : State} {slot op kvs core reserved toff : Nat} (h : MemoryForm s) :
    MemoryForm (s.kvReq slot op kvs core reserved toff) := by
  unfold State.kvReq
  dsimp only
  split
  · exact MemoryForm.applyKvQueue (memoryForm_modCtx.mpr h)
  · exact memoryForm_modCtx.mpr h

/-! Machine/HostOps. -/

@[simp] theorem memoryForm_unsupported {s : State} {port offset : Nat} : MemoryForm (s.unsupported port offset) ↔ MemoryForm s := Iff.rfl
@[simp] theorem memoryForm_abortRead {s : State} {port offset : Nat} : MemoryForm (s.abortRead port offset) ↔ MemoryForm s := Iff.rfl
@[simp] theorem memoryForm_issueRead {s : State} {port offset len : Nat} : MemoryForm (s.issueRead port offset len) ↔ MemoryForm s := by
  unfold State.issueRead
  simp
@[simp] theorem memoryForm_startReads {s : State} {port : Nat} : MemoryForm (s.startReads port) ↔ MemoryForm s := by
  unfold State.startReads
  simp
@[simp] theorem memoryForm_windowAnswer {s : State} {port num : Nat} {q r : Packet} : MemoryForm (s.windowAnswer port num q r) ↔ MemoryForm s := by
  unfold State.windowAnswer
  split <;> simp
@[simp] theorem memoryForm_modRing {s : State} {port ring : Nat} {f : Ring → Ring} : MemoryForm (s.modRing port ring f) ↔ MemoryForm s := Iff.rfl
@[simp] theorem memoryForm_cacheRead {s : State} {port a : Nat} : MemoryForm (s.cacheRead port a) ↔ MemoryForm s := Iff.rfl
@[simp] theorem memoryForm_fillRing {s : State} {port ring : Nat} : MemoryForm (s.fillRing port ring) ↔ MemoryForm s := by
  unfold State.fillRing
  simp
@[simp] theorem memoryForm_enableRing {s : State} {port ring : Nat} : MemoryForm (s.enableRing port ring) ↔ MemoryForm s := by
  unfold State.enableRing
  simp
@[simp] theorem memoryForm_endDrain {s : State} {port ring : Nat} : MemoryForm (s.endDrain port ring) ↔ MemoryForm s := by
  unfold State.endDrain
  simp
@[simp] theorem memoryForm_ringOn {s : State} {port ring : Nat} : MemoryForm (s.ringOn port ring) ↔ MemoryForm s := by
  unfold State.ringOn
  split <;> simp
@[simp] theorem memoryForm_ringOff {s : State} {port ring : Nat} : MemoryForm (s.ringOff port ring) ↔ MemoryForm s := by
  unfold State.ringOff
  split <;> simp
@[simp] theorem memoryForm_tailTo {s : State} {port ring v : Nat} : MemoryForm (s.tailTo port ring v) ↔ MemoryForm s := by
  unfold State.tailTo
  simp
@[simp] theorem memoryForm_takeDesc {s : State} {port ring i : Nat} {d : Desc} : MemoryForm (s.takeDesc port ring i d) ↔ MemoryForm s := by
  unfold State.takeDesc
  simp
@[simp] theorem memoryForm_startDesc {s : State} {port ring : Nat} : MemoryForm (s.startDesc port ring) ↔ MemoryForm s := by
  unfold State.startDesc
  dsimp only
  (repeat' split) <;> simp
@[simp] theorem memoryForm_sendAll {s : State} {port ring i core slot : Nat} {ps : List Packet} :
    MemoryForm (s.sendAll port ring i core slot ps) ↔ MemoryForm s := by
  unfold State.sendAll
  simp
@[simp] theorem memoryForm_refuseTier {s : State} {port ring i : Nat} {b : Bytes} : MemoryForm (s.refuseTier port ring i b) ↔ MemoryForm s := Iff.rfl
@[simp] theorem MemoryForm.copyIn {s : State} {port ring i : Nat} {b d : Bytes} (h : MemoryForm s) : MemoryForm (s.copyIn port ring i b d) := by
  unfold State.copyIn
  split
  · split
    · simp [h]
    · exact memoryForm_touchDesc.mpr (MemoryForm.foldl (memoryForm_modDesc.mpr h) fun _ _ ht => ht.tierWrite)
  · simp [h]
@[simp] theorem MemoryForm.tierRead {s : State} {ta finder : Nat} (h : MemoryForm s) : MemoryForm (s.tierRead ta finder).2.2 := by
  have htouch : MemoryForm (s.storeTouch ta false) := memoryForm_storeTouch.mpr h
  unfold State.tierRead
  dsimp only
  split
  · exact htouch
  · exact MemoryForm.correctBlock ⟨htouch.cores, htouch.mem⟩
  · exact memoryForm_assertEvent.mpr ⟨htouch.cores, htouch.mem⟩
@[simp] theorem MemoryForm.tierReads {s : State} {ta k : Nat} (h : MemoryForm s) : MemoryForm (s.tierReads ta k).2.2 := by
  induction k generalizing s ta with
  | zero => exact h
  | succ k ih =>
    unfold State.tierReads
    dsimp only
    split
    · exact h.tierRead
    · exact ih h.tierRead
@[simp] theorem MemoryForm.copyOut {s : State} {port ring i : Nat} {b : Bytes} (h : MemoryForm s) : MemoryForm (s.copyOut port ring i b) := by
  unfold State.copyOut
  simp [h]
@[simp] theorem memoryForm_descAnswer {s : State} {port ring i : Nat} {q r : Packet} : MemoryForm (s.descAnswer port ring i q r) ↔ MemoryForm s := by
  unfold State.descAnswer
  split <;> simp
@[simp] theorem memoryForm_completeDesc {s : State} {port ring i : Nat} : MemoryForm (s.completeDesc port ring i) ↔ MemoryForm s := by
  unfold State.completeDesc
  dsimp only
  split <;> simp
@[simp] theorem memoryForm_cqHeadTo {s : State} {port ring v : Nat} : MemoryForm (s.cqHeadTo port ring v) ↔ MemoryForm s := Iff.rfl
@[simp] theorem memoryForm_hdmCommit {s : State} {port : Nat} : MemoryForm (s.hdmCommit port) ↔ MemoryForm s := by
  unfold State.hdmCommit
  simp
@[simp] theorem memoryForm_hdmClear {s : State} {port : Nat} : MemoryForm (s.hdmClear port) ↔ MemoryForm s := Iff.rfl
@[simp] theorem memoryForm_agentRetire {s : State} {a : Nat} {o : OutReq} {r : Packet} : MemoryForm (s.agentRetire a o r) ↔ MemoryForm s := by
  unfold State.agentRetire
  dsimp only
  split <;> simp
@[simp] theorem memoryForm_agentLand {s : State} {a : Nat} : MemoryForm (s.agentLand a) ↔ MemoryForm s := by
  unfold State.agentLand
  (repeat' split) <;> simp
@[simp] theorem memoryForm_portLoads {s : State} {port : Nat} : MemoryForm (s.portLoads port) ↔ MemoryForm s := by
  unfold State.portLoads
  simp
@[simp] theorem MemoryForm.resetCxl {s : State} {port : Nat} (h : MemoryForm s) : MemoryForm (s.resetCxl port) := by
  unfold State.resetCxl
  refine memoryForm_portLoads.mpr (MemoryForm.foldl ?_ fun _ _ ht => ht.endRewrite)
  exact ⟨h.cores, h.mem⟩

/-! Machine/Host. -/

@[simp] theorem memoryForm_gotDesc {s : State} {port ring : Nat} {data : Option Bytes} : MemoryForm (s.gotDesc port ring data) ↔ MemoryForm s := by
  unfold State.gotDesc
  simp

/-! Machine/CxlMem. -/

@[simp] theorem memoryForm_eventRecord {s : State} {port : Nat} : MemoryForm (s.eventRecord port) ↔ MemoryForm s := Iff.rfl
@[simp] theorem memoryForm_pumpBack {s : State} : MemoryForm (s.pumpBack) ↔ MemoryForm s := by
  unfold State.pumpBack
  split <;> simp
@[simp] theorem memoryForm_cxlEvent {s : State} {port : Nat} : MemoryForm (s.cxlEvent port) ↔ MemoryForm s := by
  unfold State.cxlEvent
  simp

/-! Machine/Stray. -/

@[simp] theorem MemoryForm.performAccess {s : State} {core : Nat} (h : MemoryForm s) : MemoryForm (s.performAccess core) := by
  unfold State.performAccess
  extract_lets wait s1
  have hs1 : MemoryForm s1 := h.foldl fun _ _ ht => ht.tick
  split
  · split
    · exact hs1.workAccess
    · exact hs1
  · exact hs1
@[simp] theorem MemoryForm.performLoad {s : State} {core : Nat} {l : Nat × Nat × Line} (h : MemoryForm s) : MemoryForm (s.performLoad core l) := by
  have hload (f : Core → Core) (hf : ∀ c, (f c).sram = (c.writeLine l.2.1 l.2.2).sram) : MemoryForm (s.modCore core f) :=
    h.modCore (by rw [hf]; exact Core.wf_writeLine _ _ _ (h.core core))
  unfold State.performLoad
  dsimp only
  split <;> simp [h, hload]

/-! Machine/PowerOps. -/

@[simp] theorem memoryForm_showOk {s : State} : MemoryForm (s.showOk) ↔ MemoryForm s := Iff.rfl
@[simp] theorem MemoryForm.iodDark {s : State} {iod : Nat} (h : MemoryForm s) : MemoryForm (s.iodDark iod) := by
  have hports : MemoryForm ((List.range 16).foldl (fun (s : State) k =>
      if (s.port (16 * iod + k)).st = .off then s
      else ((s.resetPort (16 * iod + k) 3 false true).modPort (16 * iod + k) fun p => { p with func := 0 }).checkLeft (16 * iod + k)) s) :=
    h.foldl fun t k ht => by split <;> simp [ht]
  unfold State.iodDark
  dsimp only
  split
  · exact memoryForm_assertEvent.mpr (memoryForm_modCxl.mpr hports.resetCxl)
  · exact hports
@[simp] theorem MemoryForm.railsDown {s : State} {off : List Nat} (h : MemoryForm s) : MemoryForm (s.railsDown off) := by
  unfold State.railsDown
  simp [h]
@[simp] theorem MemoryForm.enterKeeper {s : State} {code die detail : Nat} (h : MemoryForm s) : MemoryForm (s.enterKeeper code die detail) := by
  unfold State.enterKeeper
  simp [h]
@[simp] theorem MemoryForm.groupsOff {s : State} (h : MemoryForm s) : MemoryForm (s.groupsOff) := ⟨fun _ he => absurd he List.not_mem_nil, rfl⟩
@[simp] theorem MemoryForm.restart {s : State} (h : MemoryForm s) : MemoryForm (s.restart) := h.groupsOff
@[simp] theorem memoryForm_boot {s : State} : MemoryForm (s.boot) ↔ MemoryForm s := Iff.rfl
@[simp] theorem memoryForm_applyPending {s : State} : MemoryForm (s.applyPending) ↔ MemoryForm s := Iff.rfl
@[simp] theorem memoryForm_sayReset {s : State} : MemoryForm (s.sayReset) ↔ MemoryForm s := by
  unfold State.sayReset
  simp
@[simp] theorem MemoryForm.resetModule {s : State} (h : MemoryForm s) : MemoryForm (s.resetModule) := by
  unfold State.resetModule
  simp [h]
@[simp] theorem MemoryForm.turnOff {s : State} (h : MemoryForm s) : MemoryForm (s.turnOff) := by
  unfold State.turnOff
  simp [h]
@[simp] theorem MemoryForm.turnOn {s : State} (h : MemoryForm s) : MemoryForm (s.turnOn) := by
  unfold State.turnOn
  simp [h]
@[simp] theorem MemoryForm.protect {s : State} {cause which : Nat} (h : MemoryForm s) : MemoryForm (s.protect cause which) := by
  unfold State.protect
  simp [h]
@[simp] theorem MemoryForm.zeroize {s : State} (h : MemoryForm s) : MemoryForm (s.zeroize) := by
  unfold State.zeroize
  simp [h]
@[simp] theorem MemoryForm.breachSeen {s : State} (h : MemoryForm s) : MemoryForm (s.breachSeen) := by
  unfold State.breachSeen
  simp [h]
@[simp] theorem MemoryForm.initTier {s : State} (h : MemoryForm s) : MemoryForm (s.initTier) := ⟨h.cores, rfl⟩
@[simp] theorem MemoryForm.computeOn {s : State} (h : MemoryForm s) : MemoryForm (s.computeOn) :=
  memoryForm_iff.mpr ⟨coresForm_map_of h.cores fun _ c _ => Core.wf_tested c, h.mem⟩
@[simp] theorem MemoryForm.computeOff {s : State} (h : MemoryForm s) : MemoryForm (s.computeOff) :=
  memoryForm_iff.mpr ⟨coresForm_map_of h.cores fun _ c _ => Core.wf_tested c, h.mem⟩
@[simp] theorem MemoryForm.initAll {s : State} (h : MemoryForm s) : MemoryForm (s.initAll) := by
  unfold State.initAll
  simp [h]
@[simp] theorem memoryForm_ready {s : State} : MemoryForm (s.ready) ↔ MemoryForm s := by
  unfold State.ready
  simp
@[simp] theorem MemoryForm.startFailed {s : State} {step code detail : Nat} {tier compute : Bool} {off : List Nat} (h : MemoryForm s) :
    MemoryForm (s.startFailed step code detail tier compute off) := by
  unfold State.startFailed
  extract_lets _ _ s1 s2
  have hs1 : MemoryForm s1 := h
  have hs2 : MemoryForm s2 := by
    show MemoryForm (if tier then s1.initTier else s1)
    split
    · exact hs1.initTier
    · exact hs1
  refine memoryForm_ready.mpr ?_
  split
  · exact hs2.computeOn
  · exact hs2
@[simp] theorem MemoryForm.railFailed {s : State} {rail : Nat} (h : MemoryForm s) : MemoryForm (s.railFailed rail) := by
  unfold State.railFailed
  simp [h]
@[simp] theorem MemoryForm.pllFailed {s : State} {die : Nat} (h : MemoryForm s) : MemoryForm (s.pllFailed die) := by
  unfold State.pllFailed
  simp [h]
@[simp] theorem MemoryForm.siteFailed {s : State} {n : Nat} (h : MemoryForm s) : MemoryForm (s.siteFailed n) := by
  unfold State.siteFailed
  simp [h]
@[simp] theorem MemoryForm.toRecovery {s : State} (h : MemoryForm s) : MemoryForm (s.toRecovery) := by
  unfold State.toRecovery
  simp [h]
@[simp] theorem MemoryForm.bootMc {s : State} (h : MemoryForm s) : MemoryForm (s.bootMc) := by
  unfold State.bootMc
  (repeat' split) <;> simp [h]
@[simp] theorem MemoryForm.startStep {s : State} {f : Option StartFailure} (h : MemoryForm s) : MemoryForm (s.startStep f) := by
  unfold State.startStep
  (repeat' split) <;> simp [h]

/-! Machine/Functions. -/

@[simp] theorem memoryForm_modPortNv {s : State} {p : Nat} {f : PortNv → PortNv} : MemoryForm (s.modPortNv p f) ↔ MemoryForm s := Iff.rfl

/-! Machine/Keeper. -/

@[simp] theorem MemoryForm.ownerZeroize {s : State} (h : MemoryForm s) : MemoryForm (s.ownerZeroize) := by
  unfold State.ownerZeroize
  simp [h]
@[simp] theorem memoryForm_startStage {s : State} : MemoryForm (s.startStage) ↔ MemoryForm s := by
  unfold State.startStage
  simp

/-! Machine/DictRead. -/

@[simp] theorem memoryForm_afterRead {s : State} {i sub : Nat} : MemoryForm (s.afterRead i sub) ↔ MemoryForm s := by
  unfold State.afterRead
  simp

/-! Machine/Drove. -/

@[simp] theorem MemoryForm.slotTime {s : State} {out : Nat} (h : MemoryForm s) : MemoryForm (s.slotTime out) := by
  unfold State.slotTime
  simp [h]
@[simp] theorem memoryForm_arrive {s : State} {link : Nat} {i : InSt} {f : DFlit} {crcBad : Bool} :
    MemoryForm (s.arrive link i f crcBad) ↔ MemoryForm s := by
  unfold State.arrive
  simp

/-! Machine/Xancel. -/

@[simp] theorem memoryForm_protocolError {s : State} {port : Nat} : MemoryForm (s.protocolError port) ↔ MemoryForm s := by
  unfold State.protocolError
  simp
@[simp] theorem memoryForm_ackMessage {s : State} {port ackseq : Nat} {retry : Bool} {nakid : Nat} :
    MemoryForm (s.ackMessage port ackseq retry nakid) ↔ MemoryForm s := by
  unfold State.ackMessage
  simp
@[simp] theorem memoryForm_creditMessage {s : State} {port dfree : Nat} {fr : List Nat} :
    MemoryForm (s.creditMessage port dfree fr) ↔ MemoryForm s := by
  unfold State.creditMessage
  simp
@[simp] theorem memoryForm_stepReport {s : State} {port t : Nat} : MemoryForm (s.stepReport port t) ↔ MemoryForm s := by
  unfold State.stepReport
  split <;> simp
@[simp] theorem memoryForm_stepMessage {s : State} {port tally : Nat} : MemoryForm (s.stepMessage port tally) ↔ MemoryForm s := by
  unfold State.stepMessage
  simp
@[simp] theorem memoryForm_takeSwitch {s : State} {port mask cw : Nat} {p : Port} : MemoryForm (s.takeSwitch port mask cw p) ↔ MemoryForm s := by
  unfold State.takeSwitch
  simp
theorem memoryForm_peerStarts {s : State} {port : Nat} {f : State → Port → State} (hf : ∀ p, MemoryForm (f s p) ↔ MemoryForm s) :
    MemoryForm (s.peerStarts port f) ↔ MemoryForm s := by
  unfold State.peerStarts
  split
  · exact hf _
  · exact memoryForm_modPort
@[simp] theorem memoryForm_switchMessage {s : State} {port mask cw : Nat} : MemoryForm (s.switchMessage port mask cw) ↔ MemoryForm s := by
  unfold State.switchMessage
  split
  · exact memoryForm_peerStarts fun p => memoryForm_takeSwitch
  · exact Iff.rfl
@[simp] theorem memoryForm_addMessage {s : State} {port mask : Nat} : MemoryForm (s.addMessage port mask) ↔ MemoryForm s := by
  unfold State.addMessage
  split
  · exact memoryForm_peerStarts fun p => memoryForm_setPort
  · exact Iff.rfl
@[simp] theorem memoryForm_withdrawMessage {s : State} {port : Nat} : MemoryForm (s.withdrawMessage port) ↔ MemoryForm s := by
  unfold State.withdrawMessage
  simp
@[simp] theorem memoryForm_retrainMessage {s : State} {port : Nat} : MemoryForm (s.retrainMessage port) ↔ MemoryForm s := by
  unfold State.retrainMessage
  split
  · exact memoryForm_peerStarts fun p => memoryForm_enterRetrain.trans memoryForm_setPort
  · exact Iff.rfl
@[simp] theorem memoryForm_linkMessage {s : State} {port m : Nat} : MemoryForm (s.linkMessage port m) ↔ MemoryForm s := by
  unfold State.linkMessage
  (repeat' split) <;> simp
@[simp] theorem memoryForm_takeSlice {s : State} {port w : Nat} : MemoryForm (s.takeSlice port w) ↔ MemoryForm s := by
  unfold State.takeSlice
  dsimp only
  (repeat' split) <;> simp
@[simp] theorem memoryForm_framingError {s : State} : MemoryForm (s.framingError) ↔ MemoryForm s := Iff.rfl
@[simp] theorem memoryForm_dropPartial {s : State} {port left : Nat} : MemoryForm (s.dropPartial port left) ↔ MemoryForm s := by
  unfold State.dropPartial
  split <;> simp
@[simp] theorem memoryForm_packetDone {s : State} {port : Nat} : MemoryForm (s.packetDone port) ↔ MemoryForm s := by
  unfold State.packetDone
  split <;> simp
@[simp] theorem memoryForm_strayHead {s : State} {port tag : Nat} {b : Block} : MemoryForm (s.strayHead port tag b) ↔ MemoryForm s := by
  unfold State.strayHead
  simp
@[simp] theorem memoryForm_strayData {s : State} {port tag : Nat} {b : Block} : MemoryForm (s.strayData port tag b) ↔ MemoryForm s := by
  unfold State.strayData
  split <;> simp
@[simp] theorem memoryForm_foreignSequenced {s : State} {port tag : Nat} : MemoryForm (s.foreignSequenced port tag) ↔ MemoryForm s := Iff.rfl
@[simp] theorem memoryForm_badKindFlit {s : State} {port : Nat} : MemoryForm (s.badKindFlit port) ↔ MemoryForm s := by
  unfold State.badKindFlit
  simp
@[simp] theorem memoryForm_acceptFlit {s : State} {port tag : Nat} {b : Block} : MemoryForm (s.acceptFlit port tag b) ↔ MemoryForm s := by
  unfold State.acceptFlit
  simp
@[simp] theorem memoryForm_acceptNext {s : State} {port : Nat} {raw : Bytes} : MemoryForm (s.acceptNext port raw) ↔ MemoryForm s := by
  unfold State.acceptNext
  simp
@[simp] theorem memoryForm_judgeFlit {s : State} {port : Nat} {raw : Bytes} : MemoryForm (s.judgeFlit port raw) ↔ MemoryForm s := by
  unfold State.judgeFlit
  simp

/-! Machine/Seal. -/

@[simp] theorem memoryForm_acceptHello {s : State} {port : Nat} {h : Block} : MemoryForm (s.acceptHello port h) ↔ MemoryForm s := Iff.rfl

/-! Machine/Muster. -/

@[simp] theorem memoryForm_keepRecord {s : State} {port : Nat} {b : Block} : MemoryForm (s.keepRecord port b) ↔ MemoryForm s := Iff.rfl

/-! Machine/DictWrite. -/

@[simp] theorem MemoryForm.getD {o : Option State} {s : State} (h : MemoryForm s) (ho : ∀ t, o = some t → MemoryForm t) : MemoryForm (o.getD s) := by
  cases o with
  | none => exact h
  | some t => exact ho t rfl
theorem MemoryForm.setPortEn {s t : State} {p v : Nat} (h : MemoryForm s) (ht : s.setPortEn p v = some t) : MemoryForm t := by
  unfold State.setPortEn at ht
  split at ht
  · cases ht
  · dsimp only at ht
    split at ht <;> cases ht <;> simp [h]
theorem MemoryForm.setSramScrub {s t : State} {v : Nat} (h : MemoryForm s) (ht : s.setSramScrub v = some t) : MemoryForm t := by
  obtain ⟨x, -, rfl⟩ := Option.map_eq_some_iff.mp ht
  exact h
theorem MemoryForm.setTierScrub {s t : State} {v : Nat} (h : MemoryForm s) (ht : s.setTierScrub v = some t) : MemoryForm t := by
  obtain ⟨x, -, rfl⟩ := Option.map_eq_some_iff.mp ht
  exact h
theorem MemoryForm.setCompute {s t : State} {v : Nat} (h : MemoryForm s) (ht : s.setCompute v = some t) : MemoryForm t := by
  unfold State.setCompute at ht
  split at ht
  · cases ht
  · obtain ⟨x, -, rfl⟩ := Option.map_eq_some_iff.mp ht
    exact h
@[simp] theorem MemoryForm.writePort {s : State} {p o sub v : Nat} (h : MemoryForm s) : MemoryForm (s.writePort p o sub v) := by
  unfold State.writePort
  split
  · exact h.getD fun t ht => h.setPortEn ht
  all_goals
    (repeat' split) <;> simp [h]
@[simp] theorem memoryForm_writeSource {s : State} {die src sub v : Nat} : MemoryForm (s.writeSource die src sub v) ↔ MemoryForm s := by
  unfold State.writeSource
  split <;> simp
@[simp] theorem memoryForm_timeCmd {s : State} {v : Nat} : MemoryForm (s.timeCmd v) ↔ MemoryForm s := by
  unfold State.timeCmd
  split <;> simp
@[simp] theorem MemoryForm.ctxCmd {s : State} {slot v : Nat} (h : MemoryForm s) : MemoryForm (s.ctxCmd slot v) := by
  unfold State.ctxCmd
  split <;> simp [h]
@[simp] theorem MemoryForm.writeCtx {s : State} {i sub : Nat} {data : Bytes} (h : MemoryForm s) : MemoryForm (s.writeCtx i sub data) := by
  unfold State.writeCtx
  split <;> simp [h]
@[simp] theorem MemoryForm.writeSecurity {s : State} {i sub : Nat} {data : Bytes} (h : MemoryForm s) : MemoryForm (s.writeSecurity i sub data) := by
  unfold State.writeSecurity
  split <;> simp [h]
@[simp] theorem MemoryForm.writeRest {s : State} {i sub : Nat} {data : Bytes} (h : MemoryForm s) : MemoryForm (s.writeRest i sub data) := by
  unfold State.writeRest
  dsimp only
  split
  case h_4 => exact h.getD fun t ht => h.setSramScrub ht
  case h_5 => exact h.getD fun t ht => h.setTierScrub ht
  case h_16 => exact h.getD fun t ht => h.setCompute ht
  all_goals
    (repeat' split) <;> simp [h]
@[simp] theorem MemoryForm.dictDo {s : State} {i sub : Nat} {data : Bytes} (h : MemoryForm s) : MemoryForm (s.dictDo i sub data) := by
  unfold State.dictDo
  simp [h]

/-! Machine/Manage. -/

@[simp] theorem memoryForm_countJendy {s : State} {auth : Bool} : MemoryForm (s.countJendy auth) ↔ MemoryForm s := Iff.rfl
@[simp] theorem memoryForm_jendySend {s : State} {pdu : Bytes} {tag : Bool} {status : Nat} {data : Bytes} :
    MemoryForm (s.jendySend pdu tag status data) ↔ MemoryForm s := by
  unfold State.jendySend
  simp
theorem MemoryForm.dictWrite {s : State} {mailbox : Bool} {i sub : Nat} {data : Bytes} {answer : Nat → State → State} (h : MemoryForm s)
    (ha : ∀ n t, MemoryForm t → MemoryForm (answer n t)) : MemoryForm (s.dictWrite mailbox i sub data answer) := by
  unfold State.dictWrite
  dsimp only
  split
  · exact ha _ _ h
  · split
    · exact (ha _ _ h).dictDo
    · exact ha _ _ h.dictDo
@[simp] theorem memoryForm_dictRead {s : State} {i sub : Nat} : MemoryForm (s.dictRead i sub).2.2 ↔ MemoryForm s := by
  unfold State.dictRead
  split <;> simp
@[simp] theorem MemoryForm.jendyPerform {s : State} {pdu : Bytes} {tag : Bool} (h : MemoryForm s) : MemoryForm (s.jendyPerform pdu tag) := by
  unfold State.jendyPerform
  dsimp only
  split
  · simp [h]
  · exact MemoryForm.dictWrite (by simp [h]) fun _ _ ht => memoryForm_jendySend.mpr ht
  · simp [h]
@[simp] theorem memoryForm_jendyAuth {s : State} {pdu : Bytes} : MemoryForm (s.jendyAuth pdu) ↔ MemoryForm s := Iff.rfl
@[simp] theorem MemoryForm.jendyTagged {s : State} {pdu : Bytes} (h : MemoryForm s) : MemoryForm (s.jendyTagged pdu) := by
  unfold State.jendyTagged
  dsimp only
  split <;> simp [h]
@[simp] theorem MemoryForm.manage {s : State} {pdu : Bytes} (h : MemoryForm s) : MemoryForm (s.manage pdu) := by
  unfold State.manage
  (repeat' split) <;> simp [h]
@[simp] theorem memoryForm_mailAnswer {s : State} {port code : Nat} {out : Bytes} : MemoryForm (s.mailAnswer port code out) ↔ MemoryForm s := by
  unfold State.mailAnswer
  simp
@[simp] theorem memoryForm_dictAnswer {s : State} {port status : Nat} {data : Bytes} : MemoryForm (s.dictAnswer port status data) ↔ MemoryForm s := by
  unfold State.dictAnswer
  simp
@[simp] theorem memoryForm_ringCtl {s : State} {port ring v : Nat} : MemoryForm (s.ringCtl port ring v) ↔ MemoryForm s := by
  unfold State.ringCtl
  simp
@[simp] theorem memoryForm_ringReg {s : State} {port ring o size v : Nat} : MemoryForm (s.ringReg port ring o size v) ↔ MemoryForm s := by
  unfold State.ringReg
  simp
@[simp] theorem memoryForm_msixSend {s : State} {port e : Nat} : MemoryForm (s.msixSend port e) ↔ MemoryForm s := by
  unfold State.msixSend
  simp
@[simp] theorem memoryForm_msixWrite {s : State} {port e o size v : Nat} : MemoryForm (s.msixWrite port e o size v) ↔ MemoryForm s := by
  unfold State.msixWrite
  simp
@[simp] theorem memoryForm_evcReg {s : State} {die o size v : Nat} : MemoryForm (s.evcReg die o size v) ↔ MemoryForm s := by
  unfold State.evcReg
  (repeat' split) <;> simp
@[simp] theorem memoryForm_barReg {s : State} {port o size v : Nat} : MemoryForm (s.barReg port o size v) ↔ MemoryForm s := by
  unfold State.barReg
  simp
@[simp] theorem memoryForm_barWrite {s : State} {port o size : Nat} {data : Bytes} : MemoryForm (s.barWrite port o size data) ↔ MemoryForm s := by
  unfold State.barWrite
  simp
@[simp] theorem memoryForm_externalData {s : State} {port size : Nat} : MemoryForm (s.externalData port size) ↔ MemoryForm s := Iff.rfl
@[simp] theorem memoryForm_barRead {s : State} {port o size : Nat} : MemoryForm (s.barRead port o size) ↔ MemoryForm s := by
  unfold State.barRead
  simp
@[simp] theorem memoryForm_funcRead {s : State} {port : Nat} {reg : FuncReg} : MemoryForm (s.funcRead port reg) ↔ MemoryForm s := by
  unfold State.funcRead
  (repeat' split) <;> simp
@[simp] theorem memoryForm_funcWrite {s : State} {port : Nat} {reg : FuncReg} {v : Nat} : MemoryForm (s.funcWrite port reg v) ↔ MemoryForm s := by
  unfold State.funcWrite
  (repeat' split) <;> simp

/-! Machine/Attest. -/

@[simp] theorem memoryForm_spdmError {s : State} {port code : Nat} : MemoryForm (s.spdmError port code) ↔ MemoryForm s := Iff.rfl
@[simp] theorem memoryForm_spdmSay {s : State} {port st : Nat} {request answer : Bytes} :
    MemoryForm (s.spdmSay port st request answer) ↔ MemoryForm s :=
  Iff.rfl

/-! Machine/CoreEvents. -/

@[simp] theorem MemoryForm.happenAll {s : State} {core : Nat} {p : Flight → Bool} (h : MemoryForm s) : MemoryForm (s.happenAll core p) := by
  unfold State.happenAll
  exact MemoryForm.foldl ((memoryForm_setCore (by rfl)).mpr h) fun _ _ ht => ht.happen
@[simp] theorem memoryForm_tierClaim {s : State} {ta : Nat} : MemoryForm (s.tierClaim ta).2 ↔ MemoryForm s := by
  unfold State.tierClaim
  dsimp only
  (repeat' split) <;> simp
@[simp] theorem memoryForm_streamerAsk {s : State} {slot core line toff : Nat} : MemoryForm (s.streamerAsk slot core line toff) ↔ MemoryForm s := by
  unfold State.streamerAsk
  dsimp only
  split <;> simp

/-! Machine/Power. -/

@[simp] theorem MemoryForm.portsDown {s : State} {iod : Nat} (h : MemoryForm s) : MemoryForm (s.portsDown iod) :=
  h.foldl fun t k ht => by split <;> simp [ht]
@[simp] theorem memoryForm_throttleSources {s : State} : MemoryForm (s.throttleSources) ↔ MemoryForm s := by
  unfold State.throttleSources
  simp

end Sys2Proof.Spec
end

section
/-! SUPPORT. What every command keeps of the canonical form of the memories. -/

namespace Sys2Proof.Spec
open Sys2Proof.Machine

/-- The outcome is a state in canonical form. -/
def Keeps (o : Out) : Prop := ∀ t, o = .next t → MemoryForm t

@[simp] theorem keeps_next {s : State} : Keeps (.next s) ↔ MemoryForm s :=
  ⟨fun h => h s rfl, fun h t ht => by cases ht; exact h⟩

/-! The gates of the ports and mailboxes. -/

@[simp] theorem keeps_link {s : State} {port : Nat} {f : State → State} (hf : MemoryForm (f s)) : Keeps (s.link port f) :=
  keeps_next.mpr (MemoryForm.checkLeft hf)
@[simp] theorem MemoryForm.barGate {s : State} {port offset : Nat} {f : State → State} (h : MemoryForm s) (hf : MemoryForm (f s)) :
    MemoryForm (s.barGate port offset f) := by
  unfold State.barGate
  split
  · exact h
  · split
    · exact memoryForm_unsupported.mpr h
    · exact hf
@[simp] theorem MemoryForm.doe {s : State} {port : Nat} {f : State → State} (h : MemoryForm s) (hf : MemoryForm (f s)) : MemoryForm (s.doe port f) := by
  unfold State.doe
  split
  · exact hf
  · exact h
@[simp] theorem MemoryForm.negotiated {s : State} {port : Nat} {f : State → State} (h : MemoryForm s) (hf : MemoryForm (f s)) :
    MemoryForm (s.negotiated port f) := by
  refine h.doe ?_
  split
  · exact hf
  · exact memoryForm_spdmError.mpr h
@[simp] theorem MemoryForm.mail {s : State} {port : Nat} {f : State → State} (h : MemoryForm s) (hf : MemoryForm (f s)) : MemoryForm (s.mail port f) := by
  unfold State.mail
  split
  · exact hf
  · exact h
@[simp] theorem memoryForm_nonce {s : State} : MemoryForm s.nonce.2 ↔ MemoryForm s := Iff.rfl
@[simp] theorem memoryForm_draw {s : State} : MemoryForm s.draw.2 ↔ MemoryForm s := Iff.rfl
@[simp] theorem memoryForm_idSign {s : State} {port : Nat} {m : Bytes} : MemoryForm (s.idSign port m).2 ↔ MemoryForm s := Iff.rfl

/-! Machine/Events. -/

theorem keeps_eventAssert {die source : Nat} {s : State} (h : MemoryForm s) : Keeps (exec (.eventAssert die source) s) :=
  show Keeps (execEventAssert die source s) by simp [execEventAssert, h]
theorem keeps_pendWrite {die bank : Nat} {value : BitVec 64} {s : State} (h : MemoryForm s) : Keeps (exec (.pendWrite die bank value) s) :=
  show Keeps (execPendWrite die bank value s) by simp [execPendWrite, h]
theorem keeps_pendW1cWrite {die bank : Nat} {value : BitVec 64} {s : State} (h : MemoryForm s) : Keeps (exec (.pendW1cWrite die bank value) s) :=
  show Keeps (execPendW1cWrite die bank value s) by simp [execPendW1cWrite, h]
theorem keeps_maskWrite {die bank : Nat} {value : BitVec 64} {s : State} (h : MemoryForm s) : Keeps (exec (.maskWrite die bank value) s) :=
  show Keeps (execMaskWrite die bank value s) by simp [execMaskWrite, h]
theorem keeps_stormClear {die bank : Nat} {value : BitVec 64} {s : State} (h : MemoryForm s) : Keeps (exec (.stormClear die bank value) s) :=
  show Keeps (execStormClear die bank value s) by simp [execStormClear, h]
theorem keeps_stuckClear {die bank : Nat} {value : BitVec 64} {s : State} (h : MemoryForm s) : Keeps (exec (.stuckClear die bank value) s) :=
  show Keeps (execStuckClear die bank value s) by simp [execStuckClear, h]
theorem keeps_srcCfgWrite {die source : Nat} {value : BitVec 64} {s : State} (h : MemoryForm s) : Keeps (exec (.srcCfgWrite die source value) s) :=
  show Keeps (execSrcCfgWrite die source value s) by simp [execSrcCfgWrite, h]
theorem keeps_stuckLimitExpire {die source : Nat} {s : State} (h : MemoryForm s) : Keeps (exec (.stuckLimitExpire die source) s) :=
  show Keeps (execStuckLimitExpire die source s) by simp [execStuckLimitExpire, h]

/-! Machine/Host. -/

theorem keeps_hostWindowWrite {port offset : Nat} {data : Bytes} {s : State} (h : MemoryForm s) :
    Keeps (exec (.hostWindowWrite port offset data) s) :=
  show Keeps (execHostWindowWrite port offset data s) by simp [execHostWindowWrite, h]
theorem keeps_hostWindowRead {port offset length : Nat} {s : State} (h : MemoryForm s) : Keeps (exec (.hostWindowRead port offset length) s) :=
  show Keeps (execHostWindowRead port offset length s) by simp [execHostWindowRead, h]
theorem keeps_ringEnable {port ring : Nat} {s : State} (h : MemoryForm s) : Keeps (exec (.ringEnable port ring) s) :=
  show Keeps (execRingEnable port ring s) by simp [execRingEnable, h]
theorem keeps_ringDisable {port ring : Nat} {s : State} (h : MemoryForm s) : Keeps (exec (.ringDisable port ring) s) :=
  show Keeps (execRingDisable port ring s) by simp [execRingDisable, h]
theorem keeps_sqTail {port ring value : Nat} {s : State} (h : MemoryForm s) : Keeps (exec (.sqTail port ring value) s) :=
  show Keeps (execSqTail port ring value s) by simp [execSqTail, h]
theorem keeps_tailLineSnoop {port ring value : Nat} {s : State} (h : MemoryForm s) : Keeps (exec (.tailLineSnoop port ring value) s) :=
  show Keeps (execTailLineSnoop port ring value s) by simp [execTailLineSnoop, h]
theorem keeps_descriptorStart {port ring : Nat} {s : State} (h : MemoryForm s) : Keeps (exec (.descriptorStart port ring) s) :=
  show Keeps (execDescriptorStart port ring s) by simp [execDescriptorStart, h]
theorem keeps_h2d {port ring index : Nat} {data : Option Bytes} {s : State} (h : MemoryForm s) : Keeps (exec (.h2d port ring index data) s) := by
  show Keeps (execH2d port ring index data s)
  unfold execH2d
  (repeat' split) <;> simp [h]
theorem keeps_d2h {port ring index : Nat} {s : State} (h : MemoryForm s) : Keeps (exec (.d2h port ring index) s) := by
  show Keeps (execD2h port ring index s)
  unfold execD2h
  split <;> simp [h]
theorem keeps_zero {port ring index : Nat} {s : State} (h : MemoryForm s) : Keeps (exec (.zero port ring index) s) := by
  show Keeps (execZero port ring index s)
  unfold execZero
  split <;> simp [h]
theorem keeps_tierRelease {port ring index : Nat} {s : State} (h : MemoryForm s) : Keeps (exec (.tierRelease port ring index) s) := by
  show Keeps (execTierRelease port ring index s)
  unfold execTierRelease
  split <;> simp [h]
theorem keeps_descNop {port ring index : Nat} {s : State} (h : MemoryForm s) : Keeps (exec (.descNop port ring index) s) := by
  show Keeps (execDescNop port ring index s)
  unfold execDescNop
  split <;> simp [h]
theorem keeps_descriptorComplete {port ring index : Nat} {s : State} (h : MemoryForm s) : Keeps (exec (.descriptorComplete port ring index) s) :=
  show Keeps (execDescriptorComplete port ring index s) by simp [execDescriptorComplete, h]
theorem keeps_hostReadCompletion {what : HostRd} {data : Option Bytes} {s : State} (h : MemoryForm s) :
    Keeps (exec (.hostReadCompletion what data) s) := by
  show Keeps (execHostReadCompletion what data s)
  unfold execHostReadCompletion
  split <;> simp [h]
theorem keeps_uioRequestReceive {port : Nat} {s : State} (h : MemoryForm s) : Keeps (exec (.uioRequestReceive port) s) :=
  show Keeps (execUioRequestReceive port s) by simp [execUioRequestReceive, h]

/-! Machine/CxlMem. -/

theorem keeps_cxlMemRead {port ta : Nat} {keep : Bool} {s : State} (h : MemoryForm s) : Keeps (exec (.cxlMemRead port ta keep) s) :=
  show Keeps (execCxlMemRead port ta keep s) by simp [execCxlMemRead, h]
theorem keeps_cxlMemWrite {port ta : Nat} {data : Line} {poison : Bool} {s : State} (h : MemoryForm s) :
    Keeps (exec (.cxlMemWrite port ta data poison) s) :=
  show Keeps (execCxlMemWrite port ta data poison s) by simp [execCxlMemWrite, h]
theorem keeps_bisnpinvResponse {port line : Nat} {writeback : Option Line} {s : State} (h : MemoryForm s) :
    Keeps (exec (.bisnpinvResponse port line writeback) s) := by
  show Keeps (execBisnpinvResponse port line writeback s)
  unfold execBisnpinvResponse
  (repeat' split) <;> simp [h]
theorem keeps_hdmCommit {port : Nat} {s : State} (h : MemoryForm s) : Keeps (exec (.hdmCommit port) s) :=
  show Keeps (execHdmCommit port s) by simp [execHdmCommit, h]
theorem keeps_cxlLinkDown {port : Nat} {s : State} (h : MemoryForm s) : Keeps (exec (.cxlLinkDown port) s) :=
  show Keeps (execCxlLinkDown port s) by simp [execCxlLinkDown, h]
theorem keeps_functionLevelReset {port : Nat} {s : State} (h : MemoryForm s) : Keeps (exec (.functionLevelReset port) s) :=
  show Keeps (execFunctionLevelReset port s) by simp [execFunctionLevelReset, h]
theorem keeps_perstAssert {port : Nat} {s : State} (h : MemoryForm s) : Keeps (exec (.perstAssert port) s) :=
  show Keeps (execPerstAssert port s) by simp [execPerstAssert, h]
theorem keeps_perstDeassert {port : Nat} {s : State} (h : MemoryForm s) : Keeps (exec (.perstDeassert port) s) :=
  show Keeps (execPerstDeassert port s) by simp [execPerstDeassert, h]
theorem keeps_cxlLinkUp {port width rate : Nat} {flit256 : Bool} {s : State} (h : MemoryForm s) :
    Keeps (exec (.cxlLinkUp port width rate flit256) s) :=
  show Keeps (execCxlLinkUp port width rate flit256 s) by simp [execCxlLinkUp, h]
theorem keeps_ideStreamInsecure {port stream : Nat} {s : State} (h : MemoryForm s) : Keeps (exec (.ideStreamInsecure port stream) s) :=
  show Keeps (execIdeStreamInsecure port stream s) by simp [execIdeStreamInsecure, h]
theorem keeps_ideKmRequest {port stream : Nat} {s : State} (h : MemoryForm s) : Keeps (exec (.ideKmRequest port stream) s) :=
  show Keeps (execIdeKmRequest port stream s) by simp [execIdeKmRequest, h]

/-! Machine/Stray. -/

theorem keeps_strayRoute {x : StraySlot} {s : State} (h : MemoryForm s) : Keeps (exec (.strayRoute x) s) :=
  show Keeps (execStrayRoute x s) by simp [execStrayRoute, h]
theorem keeps_strayAgeTick {packet : Nat} {s : State} (h : MemoryForm s) : Keeps (exec (.strayAgeTick packet) s) :=
  show Keeps (execStrayAgeTick packet s) by simp [execStrayAgeTick, h]
theorem keeps_strayEject {core : Nat} {s : State} (h : MemoryForm s) : Keeps (exec (.strayEject core) s) := by
  show Keeps (execStrayEject core s)
  unfold execStrayEject
  dsimp only
  (repeat' split) <;> simp [h]
theorem keeps_strayRequestPerform {core : Nat} {s : State} (h : MemoryForm s) : Keeps (exec (.strayRequestPerform core) s) := by
  show Keeps (execStrayRequestPerform core s)
  unfold execStrayRequestPerform
  dsimp only
  (repeat' split) <;> simp [h]
theorem keeps_strayResponseLand {dest : Nat} {s : State} (h : MemoryForm s) : Keeps (exec (.strayResponseLand dest) s) := by
  show Keeps (execStrayResponseLand dest s)
  unfold execStrayResponseLand
  (repeat' split) <;> simp [h]
theorem keeps_strayResponseTimeout {source rtag : Nat} {s : State} (h : MemoryForm s) : Keeps (exec (.strayResponseTimeout source rtag) s) := by
  show Keeps (execStrayResponseTimeout source rtag s)
  unfold execStrayResponseTimeout
  dsimp only
  split <;> simp [h]

/-! Machine/Functions. -/

theorem keeps_portEn {port : Nat} {value : Byte} {s : State} (h : MemoryForm s) : Keeps (exec (.portEn port value) s) := by
  show Keeps (execPortEn port value s)
  refine keeps_next.mpr ?_
  split
  · exact h.getD fun _ ht => h.setPortEn ht
  · exact h
theorem keeps_sramScrubEn {value : Byte} {s : State} (h : MemoryForm s) : Keeps (exec (.sramScrubEn value) s) := by
  show Keeps (execSramScrubEn value s)
  refine keeps_next.mpr ?_
  split
  · exact h.getD fun _ ht => h.setSramScrub ht
  · exact h
theorem keeps_tierScrubEn {value : Byte} {s : State} (h : MemoryForm s) : Keeps (exec (.tierScrubEn value) s) := by
  show Keeps (execTierScrubEn value s)
  refine keeps_next.mpr ?_
  split
  · exact h.getD fun _ ht => h.setTierScrub ht
  · exact h
theorem keeps_computeEn {value : Byte} {s : State} (h : MemoryForm s) : Keeps (exec (.computeEn value) s) := by
  show Keeps (execComputeEn value s)
  refine keeps_next.mpr ?_
  split
  · exact h.getD fun _ ht => h.setCompute ht
  · exact h
theorem keeps_functionStartComplete {f : Func} {s : State} (h : MemoryForm s) : Keeps (exec (.functionStartComplete f) s) := by
  show Keeps (execFunctionStartComplete f s)
  unfold execFunctionStartComplete
  split <;> simp [h]
theorem keeps_functionShutdownComplete {f : Func} {s : State} (h : MemoryForm s) : Keeps (exec (.functionShutdownComplete f) s) := by
  show Keeps (execFunctionShutdownComplete f s)
  unfold execFunctionShutdownComplete
  split <;> simp [h]

/-! Machine/Keeper. -/

theorem keeps_moduleReset {value : Byte} {s : State} (h : MemoryForm s) : Keeps (exec (.moduleReset value) s) :=
  show Keeps (execModuleReset value s) by simp [execModuleReset, h]
theorem keeps_keeperEnter {value : Byte} {s : State} (h : MemoryForm s) : Keeps (exec (.keeperEnter value) s) :=
  show Keeps (execKeeperEnter value s) by simp [execKeeperEnter, h]
theorem keeps_zeroize {value : Byte} {s : State} (h : MemoryForm s) : Keeps (exec (.zeroize value) s) :=
  show Keeps (execZeroize value s) by simp [execZeroize, h]
theorem keeps_stage {s : State} (h : MemoryForm s) : Keeps (exec .stage s) :=
  show Keeps (execStage s) by simp [execStage, h]
theorem keeps_select {s : State} (h : MemoryForm s) : Keeps (exec .select s) :=
  show Keeps (execSelect s) by simp [execSelect, h]
theorem keeps_fwStageComplete {image : Option Bytes} {s : State} (h : MemoryForm s) : Keeps (exec (.fwStageComplete image) s) := by
  show Keeps (execFwStageComplete image s)
  unfold execFwStageComplete
  (repeat' split) <;> simp [h]
theorem keeps_mcWatchdogExpire {s : State} (h : MemoryForm s) : Keeps (exec .mcWatchdogExpire s) :=
  show Keeps (execMcWatchdogExpire s) by simp [execMcWatchdogExpire, h]
theorem keeps_entropyHealthFail {iod : Nat} {s : State} (h : MemoryForm s) : Keeps (exec (.entropyHealthFail iod) s) :=
  show Keeps (execEntropyHealthFail iod s) by simp [execEntropyHealthFail, h]
theorem keeps_tamperBreach {s : State} (h : MemoryForm s) : Keeps (exec .tamperBreach s) :=
  show Keeps (execTamperBreach s) by simp [execTamperBreach, h]

/-! Machine/Drove. -/

theorem keeps_droveFlitDepart {out : Nat} {s : State} (h : MemoryForm s) : Keeps (exec (.droveFlitDepart out) s) :=
  show Keeps (execDroveFlitDepart out s) by simp [execDroveFlitDepart, h]
theorem keeps_droveFlitArrive {x : LinkFlit} {s : State} (h : MemoryForm s) : Keeps (exec (.droveFlitArrive x) s) := by
  show Keeps (execDroveFlitArrive x s)
  unfold execDroveFlitArrive
  dsimp only
  (repeat' split) <;> simp [h]
theorem keeps_positionDue {out : Nat} {s : State} (h : MemoryForm s) : Keeps (exec (.positionDue out) s) := by
  show Keeps (execPositionDue out s)
  unfold execPositionDue
  dsimp only
  (repeat' split) <;> simp [h]
theorem keeps_holdFlitArrive {x : LinkHold} {cause step pos omod osite : Nat} {s : State} (h : MemoryForm s) :
    Keeps (exec (.holdFlitArrive x cause step pos omod osite) s) := by
  show Keeps (execHoldFlitArrive x cause step pos omod osite s)
  obtain ⟨find, hfind⟩ : ∃ find, find = s.descAt := ⟨_, rfl⟩
  unfold execHoldFlitArrive
  rw [← hfind]
  dsimp only
  (repeat' split) <;> simp [h]
theorem keeps_holdFlitDepart {out : Nat} {s : State} (h : MemoryForm s) : Keeps (exec (.holdFlitDepart out) s) := by
  show Keeps (execHoldFlitDepart out s)
  unfold execHoldFlitDepart
  dsimp only
  split <;> simp [h]
theorem keeps_portHoldGenerate {port : Nat} {s : State} (h : MemoryForm s) : Keeps (exec (.portHoldGenerate port) s) := by
  show Keeps (execPortHoldGenerate port s)
  unfold execPortHoldGenerate
  split <;> simp [h]
theorem keeps_droveStall {core flow : Nat} {s : State} (h : MemoryForm s) : Keeps (exec (.droveStall core flow) s) :=
  show Keeps (execDroveStall core flow s) by simp [execDroveStall, h]
theorem keeps_resetDrainNullSupply {port : Nat} {s : State} (h : MemoryForm s) : Keeps (exec (.resetDrainNullSupply port) s) := by
  show Keeps (execResetDrainNullSupply port s)
  unfold execResetDrainNullSupply
  split <;> simp [h]
theorem keeps_foldArrivalSend {core : Nat} {s : State} (h : MemoryForm s) : Keeps (exec (.foldArrivalSend core) s) :=
  show Keeps (execFoldArrivalSend core s) by simp [execFoldArrivalSend, h]
theorem keeps_foldArrivalComplete {s : State} (h : MemoryForm s) : Keeps (exec .foldArrivalComplete s) := by
  show Keeps (execFoldArrivalComplete s)
  unfold execFoldArrivalComplete
  split <;> simp [h]
theorem keeps_foldUpReceive {port : Nat} {m : FoldMsg} {s : State} (h : MemoryForm s) : Keeps (exec (.foldUpReceive port m) s) :=
  show Keeps (execFoldUpReceive port m s) by simp [execFoldUpReceive, h]
theorem keeps_foldDownReceive {port : Nat} {m : FoldMsg} {s : State} (h : MemoryForm s) : Keeps (exec (.foldDownReceive port m) s) :=
  show Keeps (execFoldDownReceive port m s) by simp [execFoldDownReceive, h]
theorem keeps_foldOutcomeReachCore {core : Nat} {s : State} (h : MemoryForm s) : Keeps (exec (.foldOutcomeReachCore core) s) :=
  show Keeps (execFoldOutcomeReachCore core s) by simp [execFoldOutcomeReachCore, h]
theorem keeps_foldTimeout {s : State} (h : MemoryForm s) : Keeps (exec .foldTimeout s) :=
  show Keeps (execFoldTimeout s) by simp [execFoldTimeout, h]

/-! Machine/Xancel. -/

theorem keeps_codewordReceive {port : Nat} {errorLanes : List Nat} {s : State} (h : MemoryForm s) :
    Keeps (exec (.codewordReceive port errorLanes) s) :=
  show Keeps (execCodewordReceive port errorLanes s) by simp [execCodewordReceive, h]
theorem keeps_codewordLockLoss {port : Nat} {s : State} (h : MemoryForm s) : Keeps (exec (.codewordLockLoss port) s) :=
  show Keeps (execCodewordLockLoss port s) by simp [execCodewordLockLoss, h]
theorem keeps_flitTimeTransmit {port : Nat} {s : State} (h : MemoryForm s) : Keeps (exec (.flitTimeTransmit port) s) := by
  show Keeps (execFlitTimeTransmit port s)
  refine keeps_link ?_
  (repeat' split) <;> simp [h]
theorem keeps_sequencedFlitReceive {port : Nat} {raw : Bytes} {s : State} (h : MemoryForm s) : Keeps (exec (.sequencedFlitReceive port raw) s) :=
  show Keeps (execSequencedFlitReceive port raw s) by simp [execSequencedFlitReceive, h]
theorem keeps_ackReceive {port : Nat} {ackseq : BitVec 16} {retry : Bool} {nakid : BitVec 3} {s : State} (h : MemoryForm s) :
    Keeps (exec (.ackReceive port ackseq retry nakid) s) :=
  show Keeps (execAckReceive port ackseq retry nakid s) by simp [execAckReceive, h]
theorem keeps_creditReceive {port : Nat} {dfree : BitVec 10} {req rsp ereq ersp : BitVec 2} {s : State} (h : MemoryForm s) :
    Keeps (exec (.creditReceive port dfree req rsp ereq ersp) s) :=
  show Keeps (execCreditReceive port dfree req rsp ereq ersp s) by simp [execCreditReceive, h]
theorem keeps_stepMessageReceive {port : Nat} {tally : BitVec 16} {s : State} (h : MemoryForm s) : Keeps (exec (.stepMessageReceive port tally) s) :=
  show Keeps (execStepMessageReceive port tally s) by simp [execStepMessageReceive, h]
theorem keeps_ackTimeout {port : Nat} {s : State} (h : MemoryForm s) : Keeps (exec (.ackTimeout port) s) :=
  show Keeps (execAckTimeout port s) by simp [execAckTimeout, h]
theorem keeps_replayRetryLimit {port : Nat} {s : State} (h : MemoryForm s) : Keeps (exec (.replayRetryLimit port) s) :=
  show Keeps (execReplayRetryLimit port s) by simp [execReplayRetryLimit, h]
theorem keeps_switchReceive {port : Nat} {mask : BitVec 4} {cw : BitVec 16} {s : State} (h : MemoryForm s) :
    Keeps (exec (.switchReceive port mask cw) s) :=
  show Keeps (execSwitchReceive port mask cw s) by simp [execSwitchReceive, h]
theorem keeps_laneSwitchEffect {port : Nat} {s : State} (h : MemoryForm s) : Keeps (exec (.laneSwitchEffect port) s) :=
  show Keeps (execLaneSwitchEffect port s) by simp [execLaneSwitchEffect, h]
theorem keeps_addReqReceive {port : Nat} {mask : BitVec 4} {s : State} (h : MemoryForm s) : Keeps (exec (.addReqReceive port mask) s) :=
  show Keeps (execAddReqReceive port mask s) by simp [execAddReqReceive, h]
theorem keeps_withdrawReceive {port : Nat} {s : State} (h : MemoryForm s) : Keeps (exec (.withdrawReceive port) s) :=
  show Keeps (execWithdrawReceive port s) by simp [execWithdrawReceive, h]
theorem keeps_retrainReqReceive {port : Nat} {s : State} (h : MemoryForm s) : Keeps (exec (.retrainReqReceive port) s) :=
  show Keeps (execRetrainReqReceive port s) by simp [execRetrainReqReceive, h]
theorem keeps_laneDropThreshold {port lane : Nat} {s : State} (h : MemoryForm s) : Keeps (exec (.laneDropThreshold port lane) s) :=
  show Keeps (execLaneDropThreshold port lane s) by simp [execLaneDropThreshold, h]
theorem keeps_laneAddLocked {port : Nat} {s : State} (h : MemoryForm s) : Keeps (exec (.laneAddLocked port) s) := by
  show Keeps (execLaneAddLocked port s)
  unfold execLaneAddLocked
  split <;> simp [h]
theorem keeps_laneAddTimeout {port : Nat} {s : State} (h : MemoryForm s) : Keeps (exec (.laneAddTimeout port) s) := by
  show Keeps (execLaneAddTimeout port s)
  unfold execLaneAddTimeout
  split <;> simp [h]
theorem keeps_laneAddRetry {port lane : Nat} {s : State} (h : MemoryForm s) : Keeps (exec (.laneAddRetry port lane) s) :=
  show Keeps (execLaneAddRetry port lane s) by simp [execLaneAddRetry, h]
theorem keeps_portSignalDetect {port : Nat} {s : State} (h : MemoryForm s) : Keeps (exec (.portSignalDetect port) s) :=
  show Keeps (execPortSignalDetect port s) by simp [execPortSignalDetect, h]
theorem keeps_equalizeEnd {port : Nat} {rxSet : LaneFrames} {peerSet : BitVec 4} {s : State} (h : MemoryForm s) :
    Keeps (exec (.equalizeEnd port rxSet peerSet) s) :=
  show Keeps (execEqualizeEnd port rxSet peerSet s) by simp [execEqualizeEnd, h]
theorem keeps_trainFlitReceive {port : Nat} {payload : Block} {s : State} (h : MemoryForm s) : Keeps (exec (.trainFlitReceive port payload) s) :=
  show Keeps (execTrainFlitReceive port payload s) by simp [execTrainFlitReceive, h]
theorem keeps_lockTimeout {port : Nat} {s : State} (h : MemoryForm s) : Keeps (exec (.lockTimeout port) s) :=
  show Keeps (execLockTimeout port s) by simp [execLockTimeout, h]
theorem keeps_retrainRelock {port : Nat} {rxSet peerSet : BitVec 4} {s : State} (h : MemoryForm s) :
    Keeps (exec (.retrainRelock port rxSet peerSet) s) :=
  show Keeps (execRetrainRelock port rxSet peerSet s) by simp [execRetrainRelock, h]
theorem keeps_retrainTimeout {port : Nat} {s : State} (h : MemoryForm s) : Keeps (exec (.retrainTimeout port) s) :=
  show Keeps (execRetrainTimeout port s) by simp [execRetrainTimeout, h]
theorem keeps_linkResetReceive {port reason : Nat} {s : State} (h : MemoryForm s) : Keeps (exec (.linkResetReceive port reason) s) := by
  show Keeps (execLinkResetReceive port reason s)
  refine keeps_link ?_
  (repeat' split) <;> simp [h]
theorem keeps_portCmdRetrain {port : Nat} {s : State} (h : MemoryForm s) : Keeps (exec (.portCmdRetrain port) s) :=
  show Keeps (execPortCmdRetrain port s) by simp [execPortCmdRetrain, h]
theorem keeps_portCmdReset {port : Nat} {s : State} (h : MemoryForm s) : Keeps (exec (.portCmdReset port) s) :=
  show Keeps (execPortCmdReset port s) by simp [execPortCmdReset, h]

/-! Machine/Seal. -/

theorem keeps_sealHelloSend {port : Nat} {s : State} (h : MemoryForm s) : Keeps (exec (.sealHelloSend port) s) :=
  show Keeps (execSealHelloSend port s) by simp [execSealHelloSend, h]
theorem keeps_sealHelloReceive {port : Nat} {payload : Block} {s : State} (h : MemoryForm s) : Keeps (exec (.sealHelloReceive port payload) s) := by
  show Keeps (execSealHelloReceive port payload s)
  unfold execSealHelloReceive
  split <;> simp [h]
theorem keeps_sealProofReceive {port : Nat} {payload : Block} {s : State} (h : MemoryForm s) : Keeps (exec (.sealProofReceive port payload) s) := by
  show Keeps (execSealProofReceive port payload s)
  unfold execSealProofReceive
  dsimp only
  split <;> simp [h]
theorem keeps_sealProofRepeat {port : Nat} {s : State} (h : MemoryForm s) : Keeps (exec (.sealProofRepeat port) s) :=
  show Keeps (execSealProofRepeat port s) by simp [execSealProofRepeat, h]
theorem keeps_sealTimeout {port : Nat} {s : State} (h : MemoryForm s) : Keeps (exec (.sealTimeout port) s) :=
  show Keeps (execSealTimeout port s) by simp [execSealTimeout, h]

/-! Machine/Muster. -/

theorem keeps_discoveryProbeSend {port : Nat} {s : State} (h : MemoryForm s) : Keeps (exec (.discoveryProbeSend port) s) :=
  show Keeps (execDiscoveryProbeSend port s) by simp [execDiscoveryProbeSend, h]
theorem keeps_discoveryProbeReceive {port : Nat} {payload : Block} {stamp : BitVec 64} {s : State} (h : MemoryForm s) :
    Keeps (exec (.discoveryProbeReceive port payload stamp) s) :=
  show Keeps (execDiscoveryProbeReceive port payload stamp s) by simp [execDiscoveryProbeReceive, h]
theorem keeps_discoveryReplyReceive {port : Nat} {payload : Block} {stamp : BitVec 64} {s : State} (h : MemoryForm s) :
    Keeps (exec (.discoveryReplyReceive port payload stamp) s) :=
  show Keeps (execDiscoveryReplyReceive port payload stamp s) by simp [execDiscoveryReplyReceive, h]
theorem keeps_portClassify {port : Nat} {s : State} (h : MemoryForm s) : Keeps (exec (.portClassify port) s) :=
  show Keeps (execPortClassify port s) by simp [execPortClassify, h]
theorem keeps_musterRecordReceive {port : Nat} {payload : Block} {s : State} (h : MemoryForm s) :
    Keeps (exec (.musterRecordReceive port payload) s) :=
  show Keeps (execMusterRecordReceive port payload s) by simp [execMusterRecordReceive, h]
theorem keeps_musterReadyReceive {port : Nat} {payload : Block} {s : State} (h : MemoryForm s) : Keeps (exec (.musterReadyReceive port payload) s) :=
  show Keeps (execMusterReadyReceive port payload s) by simp [execMusterReadyReceive, h]
theorem keeps_musterFailReceive {port : Nat} {payload : Block} {s : State} (h : MemoryForm s) : Keeps (exec (.musterFailReceive port payload) s) := by
  show Keeps (execMusterFailReceive port payload s)
  unfold execMusterFailReceive
  split <;> simp [h]
theorem keeps_musterRepeat {s : State} (h : MemoryForm s) : Keeps (exec .musterRepeat s) := by
  show Keeps (execMusterRepeat s)
  unfold execMusterRepeat
  split <;> simp [h]
theorem keeps_musterTimeout {s : State} (h : MemoryForm s) : Keeps (exec .musterTimeout s) := by
  show Keeps (execMusterTimeout s)
  unfold execMusterTimeout
  dsimp only
  split <;> simp [h]

/-! Machine/Time. -/

theorem keeps_syncEdge {count : Nat} {stamp : BitVec 64} {s : State} (h : MemoryForm s) : Keeps (exec (.syncEdge count stamp) s) := by
  show Keeps (execSyncEdge count stamp s)
  unfold execSyncEdge
  split <;> simp [h]
theorem keeps_rackrefLoss {s : State} (h : MemoryForm s) : Keeps (exec .rackrefLoss s) :=
  show Keeps (execRackrefLoss s) by simp [execRackrefLoss, h]
theorem keeps_syncArm {ts : BitVec 64} {s : State} (h : MemoryForm s) : Keeps (exec (.syncArm ts) s) :=
  show Keeps (execSyncArm ts s) by simp [execSyncArm, h]
theorem keeps_netAtEdge {s : State} (h : MemoryForm s) : Keeps (exec .netAtEdge s) :=
  show Keeps (execNetAtEdge s) by simp [execNetAtEdge, h]
theorem keeps_netNow {s : State} (h : MemoryForm s) : Keeps (exec .netNow s) :=
  show Keeps (execNetNow s) by simp [execNetNow, h]
theorem keeps_rejoin {s : State} (h : MemoryForm s) : Keeps (exec .rejoin s) :=
  show Keeps (execRejoin s) by simp [execRejoin, h]
theorem keeps_coast {s : State} (h : MemoryForm s) : Keeps (exec .coast s) :=
  show Keeps (execCoast s) by simp [execCoast, h]
theorem keeps_refAtEdge {s : State} (h : MemoryForm s) : Keeps (exec .refAtEdge s) :=
  show Keeps (execRefAtEdge s) by simp [execRefAtEdge, h]
theorem keeps_timeRequestSend {s : State} (h : MemoryForm s) : Keeps (exec .timeRequestSend s) := by
  show Keeps (execTimeRequestSend s)
  unfold execTimeRequestSend
  dsimp only
  (repeat' split) <;> simp [h]
theorem keeps_timeRequestReceive {port : Nat} {payload : Block} {stamp : BitVec 64} {s : State} (h : MemoryForm s) :
    Keeps (exec (.timeRequestReceive port payload stamp) s) :=
  show Keeps (execTimeRequestReceive port payload stamp s) by simp [execTimeRequestReceive, h]
theorem keeps_timeReplyReceive {port : Nat} {payload : Block} {stamp : BitVec 64} {s : State} (h : MemoryForm s) :
    Keeps (exec (.timeReplyReceive port payload stamp) s) :=
  show Keeps (execTimeReplyReceive port payload stamp s) by simp [execTimeReplyReceive, h]
theorem keeps_slewEnd {s : State} (h : MemoryForm s) : Keeps (exec .slewEnd s) :=
  show Keeps (execSlewEnd s) by simp [execSlewEnd, h]
theorem keeps_timeParentLost {s : State} (h : MemoryForm s) : Keeps (exec .timeParentLost s) := by
  show Keeps (execTimeParentLost s)
  unfold execTimeParentLost
  dsimp only
  (repeat' split) <;> simp [h]

/-! Machine/Manage. -/

theorem keeps_jendyRead {pdu : Bytes} {s : State} (h : MemoryForm s) : Keeps (exec (.jendyRead pdu) s) :=
  show Keeps (execJendyRead pdu s) by simp [execJendyRead, h]
theorem keeps_jendyWrite {pdu : Bytes} {s : State} (h : MemoryForm s) : Keeps (exec (.jendyWrite pdu) s) :=
  show Keeps (execJendyWrite pdu s) by simp [execJendyWrite, h]
theorem keeps_identify {pdu : Bytes} {s : State} (h : MemoryForm s) : Keeps (exec (.identify pdu) s) :=
  show Keeps (execIdentify pdu s) by simp [execIdentify, h]
theorem keeps_dictRead {port : Nat} {payload : Bytes} {s : State} (h : MemoryForm s) : Keeps (exec (.dictRead port payload) s) :=
  show Keeps (execDictRead port payload s) by simp [execDictRead, h]
theorem keeps_dictWrite {port : Nat} {payload : Bytes} {s : State} (h : MemoryForm s) : Keeps (exec (.dictWrite port payload) s) := by
  show Keeps (execDictWrite port payload s)
  refine keeps_next.mpr ?_
  split
  · exact h
  · split
    · exact memoryForm_mailAnswer.mpr h
    · exact h.dictWrite fun _ _ ht => memoryForm_dictAnswer.mpr ht
theorem keeps_registerWrite {target : RegTgt} {data : Bytes} {s : State} (h : MemoryForm s) : Keeps (exec (.registerWrite target data) s) := by
  show Keeps (execRegisterWrite target data s)
  unfold execRegisterWrite
  refine keeps_next.mpr ?_
  split
  · split
    · exact h.dictWrite fun _ _ ht => ht
    · exact h
  all_goals simp [h]

/-! Machine/Attest. -/

theorem keeps_doeDiscovery {port index : Nat} {s : State} (h : MemoryForm s) : Keeps (exec (.doeDiscovery port index) s) :=
  show Keeps (execDoeDiscovery port index s) by simp [execDoeDiscovery, h]
theorem keeps_cdatRead {port entry : Nat} {s : State} (h : MemoryForm s) : Keeps (exec (.cdatRead port entry) s) :=
  show Keeps (execCdatRead port entry s) by simp [execCdatRead, h]
theorem keeps_getVersion {port : Nat} {s : State} (h : MemoryForm s) : Keeps (exec (.getVersion port) s) :=
  show Keeps (execGetVersion port s) by simp [execGetVersion, h]
theorem keeps_getCapabilities {port : Nat} {request : Bytes} {s : State} (h : MemoryForm s) : Keeps (exec (.getCapabilities port request) s) :=
  show Keeps (execGetCapabilities port request s) by simp [execGetCapabilities, h]
theorem keeps_negotiateAlgorithms {port : Nat} {request : Bytes} {s : State} (h : MemoryForm s) :
    Keeps (exec (.negotiateAlgorithms port request) s) :=
  show Keeps (execNegotiateAlgorithms port request s) by simp [execNegotiateAlgorithms, h]
theorem keeps_getDigests {port : Nat} {request : Bytes} {s : State} (h : MemoryForm s) : Keeps (exec (.getDigests port request) s) :=
  show Keeps (execGetDigests port request s) by simp [execGetDigests, h]
theorem keeps_getCertificate {port certSlot offset length : Nat} {request : Bytes} {s : State} (h : MemoryForm s) :
    Keeps (exec (.getCertificate port certSlot offset length request) s) :=
  show Keeps (execGetCertificate port certSlot offset length request s) by simp [execGetCertificate, h]
theorem keeps_challenge {port certSlot : Nat} {request : Bytes} {s : State} (h : MemoryForm s) : Keeps (exec (.challenge port certSlot request) s) :=
  show Keeps (execChallenge port certSlot request s) by simp [execChallenge, h]
theorem keeps_getMeasurements {port index : Nat} {sign : Bool} {request : Bytes} {s : State} (h : MemoryForm s) :
    Keeps (exec (.getMeasurements port index sign request) s) :=
  show Keeps (execGetMeasurements port index sign request s) by simp [execGetMeasurements, h]
theorem keeps_keyExchange {port : Nat} {request : Bytes} {s : State} (h : MemoryForm s) : Keeps (exec (.keyExchange port request) s) :=
  show Keeps (execKeyExchange port request s) by simp [execKeyExchange, h]
theorem keeps_finish {port session : Nat} {verified : Bool} {s : State} (h : MemoryForm s) : Keeps (exec (.finish port session verified) s) :=
  show Keeps (execFinish port session verified s) by simp [execFinish, h]
theorem keeps_endSession {port session : Nat} {s : State} (h : MemoryForm s) : Keeps (exec (.endSession port session) s) :=
  show Keeps (execEndSession port session s) by simp [execEndSession, h]

/-! Machine/Context. -/

theorem keeps_load {slot : Nat} {s : State} (h : MemoryForm s) : Keeps (exec (.load slot) s) :=
  show Keeps (execLoad slot s) by simp [execLoad, h]
theorem keeps_unload {slot : Nat} {s : State} (h : MemoryForm s) : Keeps (exec (.unload slot) s) :=
  show Keeps (execUnload slot s) by simp [execUnload, h]
theorem keeps_muster {slot : Nat} {s : State} (h : MemoryForm s) : Keeps (exec (.muster slot) s) :=
  show Keeps (execMuster slot s) by simp [execMuster, h]
theorem keeps_abort {slot : Nat} {s : State} (h : MemoryForm s) : Keeps (exec (.abort slot) s) :=
  show Keeps (execAbort slot s) by simp [execAbort, h]
theorem keeps_kill {slot : Nat} {s : State} (h : MemoryForm s) : Keeps (exec (.kill slot) s) :=
  show Keeps (execKill slot s) by simp [execKill, h]
theorem keeps_shardAttemptEnd {slot shard : Nat} {fetched : Option Bytes} {s : State} (h : MemoryForm s) :
    Keeps (exec (.shardAttemptEnd slot shard fetched) s) := by
  show Keeps (execShardAttemptEnd slot shard fetched s)
  unfold execShardAttemptEnd
  dsimp only
  (repeat' split) <;> simp [h]
theorem keeps_shardFetchTimeout {slot shard : Nat} {s : State} (h : MemoryForm s) : Keeps (exec (.shardFetchTimeout slot shard) s) :=
  show Keeps (execShardFetchTimeout slot shard s) by simp [execShardFetchTimeout, h]
theorem keeps_unloadComplete {slot : Nat} {s : State} (h : MemoryForm s) : Keeps (exec (.unloadComplete slot) s) :=
  show Keeps (execUnloadComplete slot s) by simp [execUnloadComplete, h]
theorem keeps_kvReset {slot kvs core reserved toff : Nat} {s : State} (h : MemoryForm s) : Keeps (exec (.kvReset slot kvs core reserved toff) s) :=
  show Keeps (execKvReset slot kvs core reserved toff s) by simp [execKvReset, h]
theorem keeps_kvSpill {slot kvs core reserved toff : Nat} {s : State} (h : MemoryForm s) : Keeps (exec (.kvSpill slot kvs core reserved toff) s) :=
  show Keeps (execKvSpill slot kvs core reserved toff s) by simp [execKvSpill, h]

/-! Machine/CoreEvents. -/

theorem keeps_resultLands {core : Nat} {s : State} (h : MemoryForm s) : Keeps (exec (.resultLands core) s) :=
  show Keeps (execResultLands core s) by simp [execResultLands, h]
theorem keeps_tileReady {core : Nat} {buf : BitVec 1} {s : State} (h : MemoryForm s) : Keeps (exec (.tileReady core buf) s) :=
  show Keeps (execTileReady core buf s) by simp [execTileReady, h]
theorem keeps_holdRequest {core cause : Nat} {s : State} (h : MemoryForm s) : Keeps (exec (.holdRequest core cause) s) :=
  show Keeps (execHoldRequest core cause s) by simp [execHoldRequest, h]
theorem keeps_holdEnd {core cause : Nat} {s : State} (h : MemoryForm s) : Keeps (exec (.holdEnd core cause) s) :=
  show Keeps (execHoldEnd core cause s) by simp [execHoldEnd, h]
theorem keeps_stepBegin {core : Nat} {s : State} (h : MemoryForm s) : Keeps (exec (.stepBegin core) s) :=
  show Keeps (execStepBegin core s) by simp [execStepBegin, h]
theorem keeps_stepReportReceive {core flow receiver tally : Nat} {s : State} (h : MemoryForm s) :
    Keeps (exec (.stepReportReceive core flow receiver tally) s) :=
  show Keeps (execStepReportReceive core flow receiver tally s) by simp [execStepReportReceive, h]
theorem keeps_fetchRead {core : Nat} {s : State} (h : MemoryForm s) : Keeps (exec (.fetchRead core) s) :=
  show Keeps (execFetchRead core s) by simp [execFetchRead, h]
theorem keeps_runaheadRead {core line : Nat} {s : State} (h : MemoryForm s) : Keeps (exec (.runaheadRead core line) s) :=
  show Keeps (execRunaheadRead core line s) by simp [execRunaheadRead, h]
theorem keeps_streamerRequest {slot entry k : Nat} {s : State} (h : MemoryForm s) : Keeps (exec (.streamerRequest slot entry k) s) := by
  show Keeps (execStreamerRequest slot entry k s)
  unfold execStreamerRequest
  split <;> simp [h]
theorem keeps_streamerLanding {slot core line epoch : Nat} {s : State} (h : MemoryForm s) :
    Keeps (exec (.streamerLanding slot core line epoch) s) := by
  show Keeps (execStreamerLanding slot core line epoch s)
  unfold execStreamerLanding
  split <;> simp [h]
theorem keeps_inboundLineWrite {core bank : Nat} {s : State} (h : MemoryForm s) : Keeps (exec (.inboundLineWrite core bank) s) := by
  show Keeps (execInboundLineWrite core bank s)
  unfold execInboundLineWrite
  dsimp only
  (repeat' split) <;> simp [h]
theorem keeps_eccWriteback {core : Nat} {s : State} (h : MemoryForm s) : Keeps (exec (.eccWriteback core) s) := by
  show Keeps (execEccWriteback core s)
  unfold execEccWriteback
  refine keeps_next.mpr ?_
  dsimp only
  split
  · exact h
  · exact h.setCore (by simp [h])
theorem keeps_sramPatrolScrub {core : Nat} {s : State} (h : MemoryForm s) : Keeps (exec (.sramPatrolScrub core) s) := by
  show Keeps (execSramPatrolScrub core s)
  unfold execSramPatrolScrub
  dsimp only
  (repeat' split) <;> simp [h]
theorem keeps_hostAccessWaitHold {core : Nat} {s : State} (h : MemoryForm s) : Keeps (exec (.hostAccessWaitHold core) s) := by
  show Keeps (execHostAccessWaitHold core s)
  unfold execHostAccessWaitHold
  dsimp only
  split <;> simp [h]
theorem keeps_bankConflictOverrun {core : Nat} {s : State} (h : MemoryForm s) : Keeps (exec (.bankConflictOverrun core) s) :=
  show Keeps (execBankConflictOverrun core s) by simp [execBankConflictOverrun, h]
theorem keeps_tierRefresh {channel rank bank : Nat} {s : State} (h : MemoryForm s) : Keeps (exec (.tierRefresh channel rank bank) s) :=
  show Keeps (execTierRefresh channel rank bank s) by simp [execTierRefresh, h]
theorem keeps_tierEccBlockEvict {channel : Nat} {s : State} (h : MemoryForm s) : Keeps (exec (.tierEccBlockEvict channel) s) :=
  show Keeps (execTierEccBlockEvict channel s) by simp [execTierEccBlockEvict, h]
theorem keeps_tierPatrolScrub {s : State} (h : MemoryForm s) : Keeps (exec .tierPatrolScrub s) :=
  show Keeps (execTierPatrolScrub s) by simp [execTierPatrolScrub, h]

/-! Machine/Mailbox. -/

theorem keeps_getEventRecords {port log : Nat} {s : State} (h : MemoryForm s) : Keeps (exec (.getEventRecords port log) s) :=
  show Keeps (execGetEventRecords port log s) by simp [execGetEventRecords, h]
theorem keeps_clearEventRecords {port log : Nat} {all : Bool} {handles : List Nat} {s : State} (h : MemoryForm s) :
    Keeps (exec (.clearEventRecords port log all handles) s) :=
  show Keeps (execClearEventRecords port log all handles s) by simp [execClearEventRecords, h]
theorem keeps_getEventInterruptPolicy {port : Nat} {s : State} (h : MemoryForm s) : Keeps (exec (.getEventInterruptPolicy port) s) :=
  show Keeps (execGetEventInterruptPolicy port s) by simp [execGetEventInterruptPolicy, h]
theorem keeps_setEventInterruptPolicy {port : Nat} {policy : Bytes} {s : State} (h : MemoryForm s) :
    Keeps (exec (.setEventInterruptPolicy port policy) s) :=
  show Keeps (execSetEventInterruptPolicy port policy s) by simp [execSetEventInterruptPolicy, h]
theorem keeps_getSupportedLogs {port : Nat} {s : State} (h : MemoryForm s) : Keeps (exec (.getSupportedLogs port) s) :=
  show Keeps (execGetSupportedLogs port s) by simp [execGetSupportedLogs, h]
theorem keeps_getLog {port offset length : Nat} {s : State} (h : MemoryForm s) : Keeps (exec (.getLog port offset length) s) :=
  show Keeps (execGetLog port offset length s) by simp [execGetLog, h]
theorem keeps_identifyMemoryDevice {port : Nat} {s : State} (h : MemoryForm s) : Keeps (exec (.identifyMemoryDevice port) s) :=
  show Keeps (execIdentifyMemoryDevice port s) by simp [execIdentifyMemoryDevice, h]
theorem keeps_getTimestamp {port : Nat} {s : State} (h : MemoryForm s) : Keeps (exec (.getTimestamp port) s) :=
  show Keeps (execGetTimestamp port s) by simp [execGetTimestamp, h]
theorem keeps_setTimestamp {port : Nat} {value : BitVec 64} {s : State} (h : MemoryForm s) : Keeps (exec (.setTimestamp port value) s) :=
  show Keeps (execSetTimestamp port value s) by simp [execSetTimestamp, h]

/-! Machine/Power. -/

theorem keeps_powerOn {s : State} (h : MemoryForm s) : Keeps (exec .powerOn s) :=
  show Keeps (execPowerOn s) by simp [execPowerOn, h]
theorem keeps_startupStepComplete {failure : Option StartFailure} {s : State} (h : MemoryForm s) : Keeps (exec (.startupStepComplete failure) s) :=
  show Keeps (execStartupStepComplete failure s) by simp [execStartupStepComplete, h]
theorem keeps_vinOutOfRange {s : State} (h : MemoryForm s) : Keeps (exec .vinOutOfRange s) :=
  show Keeps (execVinOutOfRange s) by simp [execVinOutOfRange, h]
theorem keeps_vinReturnToRange {s : State} (h : MemoryForm s) : Keeps (exec .vinReturnToRange s) :=
  show Keeps (execVinReturnToRange s) by simp [execVinReturnToRange, h]
theorem keeps_vinRangeTimeout {volts : Nat} {s : State} (h : MemoryForm s) : Keeps (exec (.vinRangeTimeout volts) s) :=
  show Keeps (execVinRangeTimeout volts s) by simp [execVinRangeTimeout, h]
theorem keeps_powerFail {s : State} (h : MemoryForm s) : Keeps (exec .powerFail s) :=
  show Keeps (execPowerFail s) by simp [execPowerFail, h]
theorem keeps_powerFailRecovery {s : State} (h : MemoryForm s) : Keeps (exec .powerFailRecovery s) :=
  show Keeps (execPowerFailRecovery s) by simp [execPowerFailRecovery, h]
theorem keeps_vinBelow36 {s : State} (h : MemoryForm s) : Keeps (exec .vinBelow36 s) :=
  show Keeps (execVinBelow36 s) by simp [execVinBelow36, h]
theorem keeps_inputDisconnect {s : State} (h : MemoryForm s) : Keeps (exec .inputDisconnect s) :=
  show Keeps (execInputDisconnect s) by simp [execInputDisconnect, h]
theorem keeps_inputReconnect {s : State} (h : MemoryForm s) : Keeps (exec .inputReconnect s) :=
  show Keeps (execInputReconnect s) by simp [execInputReconnect, h]
theorem keeps_railOutOfRegulation {rail : Nat} {s : State} (h : MemoryForm s) : Keeps (exec (.railOutOfRegulation rail) s) :=
  show Keeps (execRailOutOfRegulation rail s) by simp [execRailOutOfRegulation, h]
theorem keeps_pllLossOfLock {pll : Pll} {s : State} (h : MemoryForm s) : Keeps (exec (.pllLossOfLock pll) s) := by
  show Keeps (execPllLossOfLock pll s)
  unfold execPllLossOfLock
  (repeat' split) <;> simp [h]
theorem keeps_mrstAssert {s : State} (h : MemoryForm s) : Keeps (exec .mrstAssert s) :=
  show Keeps (execMrstAssert s) by simp [execMrstAssert, h]
theorem keeps_mrstDeassert {s : State} (h : MemoryForm s) : Keeps (exec .mrstDeassert s) :=
  show Keeps (execMrstDeassert s) by simp [execMrstDeassert, h]
theorem keeps_powerThrottleEval {watts : Nat} {s : State} (h : MemoryForm s) : Keeps (exec (.powerThrottleEval watts) s) :=
  show Keeps (execPowerThrottleEval watts s) by simp [execPowerThrottleEval, h]
theorem keeps_powerFastCheck {watts : Nat} {s : State} (h : MemoryForm s) : Keeps (exec (.powerFastCheck watts) s) :=
  show Keeps (execPowerFastCheck watts s) by simp [execPowerFastCheck, h]
theorem keeps_thermalThrottleEval {dieTemps packageTemps : List Int} {s : State} (h : MemoryForm s) :
    Keeps (exec (.thermalThrottleEval dieTemps packageTemps) s) :=
  show Keeps (execThermalThrottleEval dieTemps packageTemps s) by simp [execThermalThrottleEval, h]
theorem keeps_throttleFrameStart {die : Nat} {s : State} (h : MemoryForm s) : Keeps (exec (.throttleFrameStart die) s) :=
  show Keeps (execThrottleFrameStart die s) by simp [execThrottleFrameStart, h]
theorem keeps_shutdownTempReached {isPackage : Bool} {index celsius : Nat} {s : State} (h : MemoryForm s) :
    Keeps (exec (.shutdownTempReached isPackage index celsius) s) :=
  show Keeps (execShutdownTempReached isPackage index celsius s) by simp [execShutdownTempReached, h]

end Sys2Proof.Spec
end

section
/-! SUPPORT. Every step keeps the canonical form of the memories. -/

namespace Sys2Proof.Spec
open Sys2Proof.Machine

/-- Every command but the operations of the cores. -/
theorem keeps_exec {s : State} (h : MemoryForm s) {i : Instr} (hslot : slotOf i = none) : Keeps (exec i s) := by
  cases i
  case eventAssert => exact keeps_eventAssert h
  case pendWrite => exact keeps_pendWrite h
  case pendW1cWrite => exact keeps_pendW1cWrite h
  case maskWrite => exact keeps_maskWrite h
  case stormClear => exact keeps_stormClear h
  case stuckClear => exact keeps_stuckClear h
  case srcCfgWrite => exact keeps_srcCfgWrite h
  case stuckLimitExpire => exact keeps_stuckLimitExpire h
  case hostWindowWrite => exact keeps_hostWindowWrite h
  case hostWindowRead => exact keeps_hostWindowRead h
  case ringEnable => exact keeps_ringEnable h
  case ringDisable => exact keeps_ringDisable h
  case sqTail => exact keeps_sqTail h
  case tailLineSnoop => exact keeps_tailLineSnoop h
  case descriptorStart => exact keeps_descriptorStart h
  case h2d => exact keeps_h2d h
  case d2h => exact keeps_d2h h
  case zero => exact keeps_zero h
  case tierRelease => exact keeps_tierRelease h
  case descNop => exact keeps_descNop h
  case descriptorComplete => exact keeps_descriptorComplete h
  case hostReadCompletion => exact keeps_hostReadCompletion h
  case uioRequestReceive => exact keeps_uioRequestReceive h
  case cxlMemRead => exact keeps_cxlMemRead h
  case cxlMemWrite => exact keeps_cxlMemWrite h
  case bisnpinvResponse => exact keeps_bisnpinvResponse h
  case hdmCommit => exact keeps_hdmCommit h
  case cxlLinkDown => exact keeps_cxlLinkDown h
  case functionLevelReset => exact keeps_functionLevelReset h
  case perstAssert => exact keeps_perstAssert h
  case perstDeassert => exact keeps_perstDeassert h
  case cxlLinkUp => exact keeps_cxlLinkUp h
  case ideStreamInsecure => exact keeps_ideStreamInsecure h
  case ideKmRequest => exact keeps_ideKmRequest h
  case strayRoute => exact keeps_strayRoute h
  case strayAgeTick => exact keeps_strayAgeTick h
  case strayEject => exact keeps_strayEject h
  case strayRequestPerform => exact keeps_strayRequestPerform h
  case strayResponseLand => exact keeps_strayResponseLand h
  case strayResponseTimeout => exact keeps_strayResponseTimeout h
  case portEn => exact keeps_portEn h
  case sramScrubEn => exact keeps_sramScrubEn h
  case tierScrubEn => exact keeps_tierScrubEn h
  case computeEn => exact keeps_computeEn h
  case functionStartComplete => exact keeps_functionStartComplete h
  case functionShutdownComplete => exact keeps_functionShutdownComplete h
  case moduleReset => exact keeps_moduleReset h
  case keeperEnter => exact keeps_keeperEnter h
  case zeroize => exact keeps_zeroize h
  case stage => exact keeps_stage h
  case select => exact keeps_select h
  case fwStageComplete => exact keeps_fwStageComplete h
  case mcWatchdogExpire => exact keeps_mcWatchdogExpire h
  case entropyHealthFail => exact keeps_entropyHealthFail h
  case tamperBreach => exact keeps_tamperBreach h
  case droveFlitDepart => exact keeps_droveFlitDepart h
  case droveFlitArrive => exact keeps_droveFlitArrive h
  case positionDue => exact keeps_positionDue h
  case holdFlitArrive => exact keeps_holdFlitArrive h
  case holdFlitDepart => exact keeps_holdFlitDepart h
  case portHoldGenerate => exact keeps_portHoldGenerate h
  case droveStall => exact keeps_droveStall h
  case resetDrainNullSupply => exact keeps_resetDrainNullSupply h
  case foldArrivalSend => exact keeps_foldArrivalSend h
  case foldArrivalComplete => exact keeps_foldArrivalComplete h
  case foldUpReceive => exact keeps_foldUpReceive h
  case foldDownReceive => exact keeps_foldDownReceive h
  case foldOutcomeReachCore => exact keeps_foldOutcomeReachCore h
  case foldTimeout => exact keeps_foldTimeout h
  case codewordReceive => exact keeps_codewordReceive h
  case codewordLockLoss => exact keeps_codewordLockLoss h
  case flitTimeTransmit => exact keeps_flitTimeTransmit h
  case sequencedFlitReceive => exact keeps_sequencedFlitReceive h
  case ackReceive => exact keeps_ackReceive h
  case creditReceive => exact keeps_creditReceive h
  case stepMessageReceive => exact keeps_stepMessageReceive h
  case ackTimeout => exact keeps_ackTimeout h
  case replayRetryLimit => exact keeps_replayRetryLimit h
  case switchReceive => exact keeps_switchReceive h
  case laneSwitchEffect => exact keeps_laneSwitchEffect h
  case addReqReceive => exact keeps_addReqReceive h
  case withdrawReceive => exact keeps_withdrawReceive h
  case retrainReqReceive => exact keeps_retrainReqReceive h
  case laneDropThreshold => exact keeps_laneDropThreshold h
  case laneAddLocked => exact keeps_laneAddLocked h
  case laneAddTimeout => exact keeps_laneAddTimeout h
  case laneAddRetry => exact keeps_laneAddRetry h
  case portSignalDetect => exact keeps_portSignalDetect h
  case equalizeEnd => exact keeps_equalizeEnd h
  case trainFlitReceive => exact keeps_trainFlitReceive h
  case lockTimeout => exact keeps_lockTimeout h
  case retrainRelock => exact keeps_retrainRelock h
  case retrainTimeout => exact keeps_retrainTimeout h
  case linkResetReceive => exact keeps_linkResetReceive h
  case portCmdRetrain => exact keeps_portCmdRetrain h
  case portCmdReset => exact keeps_portCmdReset h
  case sealHelloSend => exact keeps_sealHelloSend h
  case sealHelloReceive => exact keeps_sealHelloReceive h
  case sealProofReceive => exact keeps_sealProofReceive h
  case sealProofRepeat => exact keeps_sealProofRepeat h
  case sealTimeout => exact keeps_sealTimeout h
  case discoveryProbeSend => exact keeps_discoveryProbeSend h
  case discoveryProbeReceive => exact keeps_discoveryProbeReceive h
  case discoveryReplyReceive => exact keeps_discoveryReplyReceive h
  case portClassify => exact keeps_portClassify h
  case musterRecordReceive => exact keeps_musterRecordReceive h
  case musterReadyReceive => exact keeps_musterReadyReceive h
  case musterFailReceive => exact keeps_musterFailReceive h
  case musterRepeat => exact keeps_musterRepeat h
  case musterTimeout => exact keeps_musterTimeout h
  case syncEdge => exact keeps_syncEdge h
  case rackrefLoss => exact keeps_rackrefLoss h
  case syncArm => exact keeps_syncArm h
  case netAtEdge => exact keeps_netAtEdge h
  case netNow => exact keeps_netNow h
  case rejoin => exact keeps_rejoin h
  case coast => exact keeps_coast h
  case refAtEdge => exact keeps_refAtEdge h
  case timeRequestSend => exact keeps_timeRequestSend h
  case timeRequestReceive => exact keeps_timeRequestReceive h
  case timeReplyReceive => exact keeps_timeReplyReceive h
  case slewEnd => exact keeps_slewEnd h
  case timeParentLost => exact keeps_timeParentLost h
  case jendyRead => exact keeps_jendyRead h
  case jendyWrite => exact keeps_jendyWrite h
  case identify => exact keeps_identify h
  case dictRead => exact keeps_dictRead h
  case dictWrite => exact keeps_dictWrite h
  case registerWrite => exact keeps_registerWrite h
  case doeDiscovery => exact keeps_doeDiscovery h
  case cdatRead => exact keeps_cdatRead h
  case getVersion => exact keeps_getVersion h
  case getCapabilities => exact keeps_getCapabilities h
  case negotiateAlgorithms => exact keeps_negotiateAlgorithms h
  case getDigests => exact keeps_getDigests h
  case getCertificate => exact keeps_getCertificate h
  case challenge => exact keeps_challenge h
  case getMeasurements => exact keeps_getMeasurements h
  case keyExchange => exact keeps_keyExchange h
  case finish => exact keeps_finish h
  case endSession => exact keeps_endSession h
  case load => exact keeps_load h
  case unload => exact keeps_unload h
  case muster => exact keeps_muster h
  case abort => exact keeps_abort h
  case kill => exact keeps_kill h
  case shardAttemptEnd => exact keeps_shardAttemptEnd h
  case shardFetchTimeout => exact keeps_shardFetchTimeout h
  case unloadComplete => exact keeps_unloadComplete h
  case kvReset => exact keeps_kvReset h
  case kvSpill => exact keeps_kvSpill h
  case resultLands => exact keeps_resultLands h
  case tileReady => exact keeps_tileReady h
  case holdRequest => exact keeps_holdRequest h
  case holdEnd => exact keeps_holdEnd h
  case stepBegin => exact keeps_stepBegin h
  case stepReportReceive => exact keeps_stepReportReceive h
  case fetchRead => exact keeps_fetchRead h
  case runaheadRead => exact keeps_runaheadRead h
  case streamerRequest => exact keeps_streamerRequest h
  case streamerLanding => exact keeps_streamerLanding h
  case inboundLineWrite => exact keeps_inboundLineWrite h
  case eccWriteback => exact keeps_eccWriteback h
  case sramPatrolScrub => exact keeps_sramPatrolScrub h
  case hostAccessWaitHold => exact keeps_hostAccessWaitHold h
  case bankConflictOverrun => exact keeps_bankConflictOverrun h
  case tierRefresh => exact keeps_tierRefresh h
  case tierEccBlockEvict => exact keeps_tierEccBlockEvict h
  case tierPatrolScrub => exact keeps_tierPatrolScrub h
  case getEventRecords => exact keeps_getEventRecords h
  case clearEventRecords => exact keeps_clearEventRecords h
  case getEventInterruptPolicy => exact keeps_getEventInterruptPolicy h
  case setEventInterruptPolicy => exact keeps_setEventInterruptPolicy h
  case getSupportedLogs => exact keeps_getSupportedLogs h
  case getLog => exact keeps_getLog h
  case identifyMemoryDevice => exact keeps_identifyMemoryDevice h
  case getTimestamp => exact keeps_getTimestamp h
  case setTimestamp => exact keeps_setTimestamp h
  case powerOn => exact keeps_powerOn h
  case startupStepComplete => exact keeps_startupStepComplete h
  case vinOutOfRange => exact keeps_vinOutOfRange h
  case vinReturnToRange => exact keeps_vinReturnToRange h
  case vinRangeTimeout => exact keeps_vinRangeTimeout h
  case powerFail => exact keeps_powerFail h
  case powerFailRecovery => exact keeps_powerFailRecovery h
  case vinBelow36 => exact keeps_vinBelow36 h
  case inputDisconnect => exact keeps_inputDisconnect h
  case inputReconnect => exact keeps_inputReconnect h
  case railOutOfRegulation => exact keeps_railOutOfRegulation h
  case pllLossOfLock => exact keeps_pllLossOfLock h
  case mrstAssert => exact keeps_mrstAssert h
  case mrstDeassert => exact keeps_mrstDeassert h
  case powerThrottleEval => exact keeps_powerThrottleEval h
  case powerFastCheck => exact keeps_powerFastCheck h
  case thermalThrottleEval => exact keeps_thermalThrottleEval h
  case throttleFrameStart => exact keeps_throttleFrameStart h
  case shutdownTempReached => exact keeps_shutdownTempReached h
  all_goals nomatch hslot

/-- A change that stays in one core. -/
theorem MemoryForm.own {n : Nat} {s t : State} (h : MemoryForm s) (k : State.Own n s t) : MemoryForm t := by
  obtain ⟨-, htier, -, -, -, hcores⟩ := k
  exact memoryForm_iff.mpr ⟨hcores h.cores, by rw [htier]; exact h.mem⟩

/-- The core waits, lands its results and checks its bundle before an operation issues (R41, R55). -/
theorem MemoryForm.atIssue {s : State} {n : Nat} {i : Instr} (h : MemoryForm s) : MemoryForm (s.atIssue n i) := by
  unfold State.atIssue
  extract_lets s1 s2
  have hland : MemoryForm s2 := by
    refine MemoryForm.land ?_
    show MemoryForm (if s.mustWait n i then s.tick else s)
    split
    · exact h.tick
    · exact h
  split
  · exact memoryForm_clear.mpr hland
  · exact hland

theorem MemoryForm.issueOp {s : State} {n : Nat} {i : Instr} {eff : State → State} (h : MemoryForm s)
    (heff : ∀ t, MemoryForm t → MemoryForm (eff t)) : MemoryForm (s.issueOp n i eff) := by
  unfold State.issueOp
  dsimp only
  split
  · exact heff _ ((memoryForm_modCore (by rfl)).mpr h.atIssue)
  · split
    · exact h.atIssue
    · exact h

theorem keeps_of_issuesIn {s : State} {n : Nat} {i : Instr} (h : MemoryForm s) (hi : IssuesIn n i) : Keeps (exec i s) := by
  obtain ⟨eff, heff, hexec⟩ := hi
  rw [hexec]
  exact keeps_next.mpr (h.issueOp fun t ht => ht.own (heff t t (State.Own.refl n t)))

theorem memoryForm_hurdleAt {s : State} {n classes : Nat} {fold : Bool} : MemoryForm (s.hurdleAt n classes fold) ↔ MemoryForm s := by
  unfold State.hurdleAt
  dsimp only
  (repeat' split) <;> simp

theorem keeps_hurdle {s : State} {n : Nat} {classes : BitVec 5} (h : MemoryForm s) : Keeps (exec (.hurdle n classes) s) :=
  show Keeps (execHurdle n classes s) from keeps_next.mpr (h.issueOp fun _ ht => memoryForm_hurdleAt.mpr ht)

theorem coreOf_of_slotOf {i : Instr} (hslot : (slotOf i).isSome = true) : ∃ n, i.coreOf = some n := by
  cases i
  case nop | add | sub | and | or | xor | shl | shr | sar | cmpeq | cmplt | cmpltu | mul | addi | subi | andi | ori | xori | shli | shri | sari |
    cmpeqi | cmplti | cmpltui | muli | mov | li | lih | br | beqz | bnez | bltz | bgez | bdec | hurdle | fold | rdtally | flgrd | flgclr | lds |
    ldv | stv | mxload | kvapp | kvcommit | kvdrop | mxstream | accout | accclr | vfma | vadd | vsub | vmul | vmax | vmin | vcmp | vsel | vand |
    vor | vxor | viadd | visub | vimul | vshl | vshr | vsar | vcvt | vred | vtr | gemv | lswadd | rngfill | vbcast | send | recv | lswsend |
    strayw | straya =>
    exact ⟨_, rfl⟩
  all_goals nomatch hslot

/-- Settles O53: a step is one core cycle or one command, an operation of a core or another. -/
theorem memoryFormKept : Obligations.MemoryFormKept := by
  intro s t h ht
  unfold step at ht
  split at ht
  · cases ht
    exact h.tick
  next c rest _ =>
    have hrest : MemoryForm { s with pending := rest } := h
    cases hslot : slotOf c with
    | none => exact keeps_exec hrest hslot t ht
    | some k =>
      have hsome : (slotOf c).isSome = true := by rw [hslot]; rfl
      obtain ⟨n, hcore⟩ := coreOf_of_slotOf hsome
      by_cases hh : ∃ cl, c = .hurdle n cl
      · obtain ⟨cl, rfl⟩ := hh
        exact keeps_hurdle hrest t ht
      · exact keeps_of_issuesIn hrest (issuesIn_of_slotOf hsome hcore fun cl heq => hh ⟨cl, heq⟩) t ht

end Sys2Proof.Spec
end

section
/-! SUPPORT. The reset of a Xancel port (R344 to R347). -/

namespace Sys2Proof.Machine
open Sys2Proof.Spec

/-- What a map of a table leaves of every entry, it leaves of the entry read. -/
theorem Tab.get_map_of {α β : Type} {d : α} {f : Nat → α → α} {π : α → β} (hf : ∀ k v, π (f k v) = π v) (t : List (Nat × α)) (k : Nat) :
    π (Tab.get d (Tab.map f t) k) = π (Tab.get d t k) := by
  induction t with
  | nil => rfl
  | cons e t ih =>
    obtain ⟨j, v⟩ := e
    show π (if k < j then d else if k = j then f j v else Tab.get d (Tab.map f t) k)
      = π (if k < j then d else if k = j then v else Tab.get d t k)
    split
    · rfl
    · split
      · exact hf j v
      · exact ih

/-- What an outcome of the fold unit leaves of a port: all but what it counts in an interval, and its draining. -/
def Port.queues (p : Port) :=
  (p.st, p.keys, p.replay, p.droveQ, p.strayQ, p.holdQ, p.ctlQ, p.resetReason, p.resetTally)

/-- The two states have the same queues of the ports, and a muster in progress in the same slot. -/
def State.SameQueues (s t : State) : Prop := (∀ n, (t.port n).queues = (s.port n).queues) ∧ t.must.slot = s.must.slot

theorem State.SameQueues.refl (s : State) : s.SameQueues s := ⟨fun _ => rfl, rfl⟩
theorem State.SameQueues.trans {s t u : State} (h : s.SameQueues t) (k : t.SameQueues u) : s.SameQueues u :=
  ⟨fun n => (k.1 n).trans (h.1 n), k.2.trans h.2⟩
theorem State.SameQueues.of_eq {s t : State} (hp : t.ports = s.ports) (hm : t.must = s.must) : s.SameQueues t :=
  ⟨fun n => by rw [State.port, hp]; rfl, by rw [hm]⟩
theorem State.SameQueues.event {s t : State} (h : State.EventFrame s t) : s.SameQueues t := .of_eq h.ports h.must

theorem State.sameQueues_latchSwitch (s : State) (m : FoldMsg) : s.SameQueues (s.latchSwitch m) := by
  unfold State.latchSwitch
  split
  · exact .refl s
  · dsimp only
    (repeat' split) <;> exact .of_eq rfl rfl

theorem State.queues_of_map {s t : State} {f : Nat → Port → Port} (ht : t.ports = Tab.map f s.ports) (hf : ∀ k p, (f k p).queues = p.queues)
    (n : Nat) : (t.port n).queues = (s.port n).queues := by
  rw [State.port, ht]
  exact Tab.get_map_of hf s.ports n
theorem State.sameQueues_freshModule (s : State) : s.SameQueues s.freshModule :=
  ⟨State.queues_of_map (f := fun _ p => { p with foreignFirst := 0, badKind := 0 }) rfl fun _ _ => rfl, rfl⟩

/-- An outcome that the fold unit takes. -/
theorem State.sameQueues_holdOutcome (s : State) (m : FoldMsg) : s.SameQueues (s.holdOutcome m) := by
  unfold State.holdOutcome
  extract_lets own kids slot s1 _ _ s2 s3
  have h2 : s.SameQueues s2 := by
    refine ⟨State.queues_of_map (f := fun _ p => { p with drain := false }) rfl fun _ _ => rfl, ?_⟩
    show (if s1.must.completed then _ else _ : Muster).slot = _
    split <;> rfl
  have h3 : s.SameQueues s3 := h2.trans ((State.SameQueues.of_eq rfl rfl).trans (State.sameQueues_freshModule _))
  split
  · exact .refl s
  · split
    · exact h3.trans ((State.SameQueues.of_eq rfl rfl).trans (State.sameQueues_latchSwitch _ m))
    · exact h3.trans (.trans (t := s3.modDiag _) (.of_eq rfl rfl) (.event (State.eventFrame_assertEvent _ _ _)))

theorem State.sameQueues_parentFailed (s : State) (fold tally reason parent : Nat) : s.SameQueues (s.parentFailed fold tally reason parent) := by
  unfold State.parentFailed
  split
  · exact .refl s
  · exact State.sameQueues_holdOutcome s _

theorem State.sameQueues_injectAt (s : State) (node : Nat) (p : Packet) : s.SameQueues (s.injectAt node p) := by
  unfold State.injectAt
  split <;> exact .of_eq rfl rfl
theorem State.sameQueues_answerDropped (s : State) (port : Nat) (p : Packet) : s.SameQueues (s.answerDropped port p) := by
  unfold State.answerDropped
  dsimp only
  split
  · exact State.sameQueues_injectAt _ _ _
  · split
    · exact (State.sameQueues_injectAt _ _ _).trans (State.sameQueues_injectAt _ _ _)
    · exact State.sameQueues_injectAt _ _ _

theorem State.SameQueues.foldl {α : Type} {f : State → α → State} (hf : ∀ t x, State.SameQueues t (f t x)) (l : List α) (s : State) :
    s.SameQueues (l.foldl f s) := by
  induction l generalizing s with
  | nil => exact .refl s
  | cons x l ih => exact (hf s x).trans (ih (f s x))

theorem State.sameQueues_noteReset (s : State) (port : Nat) : s.SameQueues (s.noteReset port) := by
  unfold State.noteReset
  split
  · exact ⟨fun _ => rfl, rfl⟩
  · exact .refl s

theorem State.sendCodeword_must (s : State) (port : Nat) : (s.sendCodeword port).must = s.must := by
  unfold State.sendCodeword
  dsimp only
  split <;> rfl
theorem State.enterRetrain_must (s : State) (port : Nat) : (s.enterRetrain port).must = s.must := State.assertEvent_must _ _ _
theorem State.putFlit_must (s : State) (port seq ft : Nat) (body : Bytes) : (s.putFlit port seq ft body).must = s.must := by
  unfold State.putFlit
  dsimp only
  split
  · exact (State.enterRetrain_must _ _).trans (State.sendCodeword_must _ _)
  · exact State.sendCodeword_must _ _
theorem State.foldl_must {α : Type} {f : State → α → State} (hf : ∀ t x, (f t x).must = t.must) (l : List α) (s : State) :
    (l.foldl f s).must = s.must := by
  induction l generalizing s with
  | nil => rfl
  | cons x l ih => exact (ih (f s x)).trans (hf s x)
theorem State.sendReset_must (s : State) (port reason : Nat) : (s.sendReset port reason).must = s.must :=
  State.foldl_must (fun _ _ => State.putFlit_must _ _ _ _ _) _ _

/-- A port after its reset: nothing queued, no keys, the reason and the tally kept; a muster in progress stays (R345). -/
theorem State.resetPort_queues (s : State) (port r : Nat) (own off : Bool) :
    ((s.resetPort port r own off).port port).queues = (if off then .off else .detect, none, [], [], [], [], [], r, s.moduleTally)
      ∧ (s.resetPort port r own off).must.slot = s.must.slot := by
  unfold State.resetPort
  extract_lets p heads s1 _ p1 s2 i null s3 _ s4 s5 s6
  have h1 : s1.must = s.must := by
    show (if own then s.sendReset port r else s).must = _
    split
    · exact State.sendReset_must _ _ _
    · rfl
  have h2 : (s1.setPort port p1).SameQueues s2 := (State.SameQueues.event (State.eventFrame_assertEvent _ _ _)).trans (State.sameQueues_noteReset _ _)
  have h5 : (s1.setPort port p1).SameQueues s5 :=
    (h2.trans (.of_eq rfl rfl)).trans (State.SameQueues.foldl (fun _ _ => State.sameQueues_answerDropped _ _ _) heads s4)
  have h6 : (s1.setPort port p1).SameQueues s6 := h5.trans (.of_eq rfl rfl)
  have hend {t : State} (h : (s1.setPort port p1).SameQueues t) :
      (t.port port).queues = (if off then .off else .detect, none, [], [], [], [], [], r, s.moduleTally) ∧ t.must.slot = s.must.slot := by
    obtain ⟨hq, hm⟩ := h
    refine ⟨(hq port).trans ?_, hm.trans (congrArg Muster.slot h1)⟩
    rw [State.port_setPort_self]
    rfl
  split
  · split
    · split
      · exact hend (h6.trans (State.sameQueues_parentFailed _ _ _ _ _))
      · exact hend h6
    · exact hend h6
  · exact hend h5

/-- With no muster in progress a port that leaves ACTIVE fails none (R361). -/
theorem State.checkLeft_of_no_muster {s : State} (h : s.must.slot = none) (port : Nat) : s.checkLeft port = s :=
  if_neg (by simp [h])
theorem State.link_of_no_muster {s : State} {port : Nat} {f : State → State} (h : (f s).must.slot = none) : s.link port f = .next (f s) :=
  congrArg Host.Outcome.next (State.checkLeft_of_no_muster h port)
theorem State.link_reset {s : State} {port r : Nat} {own off : Bool} {f : State → State} (h : s.must.slot = none)
    (hf : f s = s.resetPort port r own off) : s.link port f = .next (s.resetPort port r own off) := by
  have hslot : (f s).must.slot = none := by rw [hf, (s.resetPort_queues port r own off).2, h]
  rw [State.link_of_no_muster hslot, hf]

/-- Settles O33: the port is cleared before its failures and answers are passed on, and these leave its queues. -/
theorem portResets : Obligations.PortResets := by
  refine ⟨fun s port hm => ⟨fun hst => State.link_reset hm (if_pos hst), fun hst => State.link_reset hm (if_pos hst), fun r hst => ?_⟩,
    fun s port r own off => ?_⟩
  · show execLinkResetReceive port r s = _
    refine State.link_reset hm ?_
    split
    · rfl
    · rfl
    · rfl
    · rfl
    · simp_all
  · have h := (s.resetPort_queues port r own off).1
    simp only [Port.queues, Prod.mk.injEq] at h
    exact h

end Sys2Proof.Machine
end

section
/-! SUPPORT. The receive side of a Xancel port. -/

namespace Sys2Proof.Machine
open Sys2Proof.Spec

theorem State.switchRx_of_no_switch {s : State} {port : Nat} (h : ∀ m cw, (s.port port).laneOp ≠ .switchOut m cw) : s.switchRx port = s := by
  unfold State.switchRx
  dsimp only
  split
  next m cw heq => exact absurd heq (h m cw)
  · rfl

/-- A codeword reaches a port that has no SWITCH of its own out (R339). -/
theorem exec_codewordReceive {s : State} {port : Nat} {lanes : List Nat} {q : Port} (hoff : (s.port port).st ≠ .off)
    (hdet : (s.port port).st ≠ .detect)
    (hq : (if lanes.length ≤ 16 then (s.port port).decoded s.now lanes else (s.port port).undecoded) = q)
    (hop : ∀ m cw, q.laneOp ≠ .switchOut m cw) : exec (.codewordReceive port lanes) s = .next (s.setPort port q) := by
  refine congrArg Host.Outcome.next ((if_neg (by simp [hoff, hdet])).trans ?_)
  rw [State.modPort_eq, hq]
  exact State.switchRx_of_no_switch (by rw [State.port_setPort_self]; exact hop)

theorem State.link_to {s t : State} {port : Nat} {f : State → State} (ht : t.must.slot = none) (hf : f s = t) : s.link port f = .next t := by
  rw [State.link_of_no_muster (by rw [hf]; exact ht), hf]

/-- A flit reaches a port that is trained (R314). -/
theorem exec_sequencedFlitReceive {s t : State} {port : Nat} {raw : Bytes} (hm : t.must.slot = none) (hst : (s.port port).st = .active)
    (ht : (if goodFlit raw then (s.judgeFlit port raw).takeSlice port (field raw 0 4) else s.modPort port Port.lostFlit) = t) :
    exec (.sequencedFlitReceive port raw) s = .next t := by
  have hgo : (fun s : State => if (s.port port).st ∈ [PortSt.lock, .seal, .active, .retrain] then
      (if goodFlit raw then (if (s.port port).st = .active then s.judgeFlit port raw else s).takeSlice port (field raw 0 4)
       else s.modPort port Port.lostFlit) else s) s = t := by
    dsimp only
    rw [if_pos (by rw [hst]; decide), if_pos hst, ht]
  exact State.link_to hm hgo

theorem goodFlit_of {raw : Bytes} (hl : raw.length = 272) (hc : crc32 (raw.take 268) = field raw 268 4) : goodFlit raw = true := by
  simp [goodFlit, hl, hc]

theorem Port.talks_of {p : Port} (h : p.st = .active ∨ p.st = .retrain) : p.talks = true := by
  rcases h with h | h <;> simp [Port.talks, h]

/-- The SEQ is the low half of the number that is expected. -/
theorem wrapDiff_expected {a e : Nat} (h : a = e % 65536) : wrapDiff 16 a (e % 65536) = 0 := by
  rw [h, wrapDiff_self]

/-- A position's flit of the running pen takes its buffer (R254, R336). -/
theorem State.acceptFlit_drove {s : State} {port tag : Nat} (b : Block) (hpen : s.pen = some (bits tag 63 48)) (hstray : bit tag 47 = false)
    (hkind : bits tag 46 44 = 0) (hheld : (s.port port).dHeld < 160) (hdrain : (s.port port).drain = false) :
    s.acceptFlit port tag b = (s.setIn (rxLink port) { s.rawIn (rxLink port) with wire := (s.rawIn (rxLink port)).wire
        ++ [{ pen := bits tag 63 48, kind := 0, step := bits tag 39 32, pos := bits tag 31 16, payload := b }] }).setPort port
      { s.port port with dHeld := (s.port port).dHeld + 1 } := by
  have hfull : ¬160 ≤ (s.port port).dHeld := by omega
  unfold State.acceptFlit
  dsimp only
  rw [if_neg (not_not_intro hpen), hstray, if_neg Bool.false_ne_true, hkind, if_neg (by decide), if_neg hfull, if_neg (by simp [hdrain]),
    State.modPort_eq, State.setIn_port]

/-- The next sequenced flit is opened with its number (R329, R331). -/
theorem State.acceptNext_keys {s : State} {port : Nat} {raw : Bytes} {keys : Bytes × Bytes} (hk : (s.port port).keys = some keys) :
    s.acceptNext port raw = (s.setPort port { s.port port with expect := (s.port port).expect + 1, retry := false, retries := 0 }).acceptFlit port
      (field raw 4 8) (sealPayload keys.2 (s.port port).expect (bytesBv 2048 (slice raw 12 256))) := by
  unfold State.acceptNext
  dsimp only
  split
  next k heq =>
    obtain rfl : k = keys := Option.some.inj (heq.symm.trans hk)
    rfl
  next heq => exact absurd (heq.symm.trans hk) (by simp)

/-- A flit that is not sequenced, or not of its time, changes no field when its number is the next (R316, R331). -/
theorem State.judgeFlit_idle {s : State} {port : Nat} {raw : Bytes} (hft : bits (field raw 0 4) 15 14 = 0)
    (hseq : bits (field raw 0 4) 31 16 = (s.port port).expect % 65536) : s.judgeFlit port raw = s.setPort port (s.port port) := by
  have hd := wrapDiff_expected hseq
  have hmis : misfit raw = false := by simp [misfit, hft]
  unfold State.judgeFlit
  dsimp only
  rw [if_neg (by omega), hd, hmis, if_neg (Int.lt_irrefl 0), if_neg Bool.false_ne_true]

/-- A second slice without a first is discarded (R319). -/
theorem State.takeSlice_of_nothing {s : State} {port w : Nat} (hsom : bit w 13 = false) (h : (s.port port).rxSlice = none) :
    s.takeSlice port w = s := by
  unfold State.takeSlice
  dsimp only
  rw [hsom, if_neg Bool.false_ne_true]
  split
  · rfl
  · split
    next heq => exact absurd (heq.symm.trans h) (by simp)
    · rfl

/-- A first slice waits, one without its second is given up for it (R319, log 42). -/
theorem State.takeSlice_first {s : State} {port w : Nat} (htalk : (s.port port).talks = true) (hsom : bit w 13 = true) :
    s.takeSlice port w = s.setPort port { s.port port with rxSlice := some (bits w 12 0) } := by
  unfold State.takeSlice
  dsimp only
  rw [htalk, hsom]
  rfl
theorem State.takeSlice_second {s : State} {port w a : Nat} (htalk : (s.port port).talks = true) (hsom : bit w 13 = false)
    (h : (s.port port).rxSlice = some a) :
    s.takeSlice port w = (s.setPort port { s.port port with rxSlice := none }).linkMessage port (8192 * a + bits w 12 0) := by
  unfold State.takeSlice
  dsimp only
  rw [htalk, hsom]
  split
  · contradiction
  · split
    · contradiction
    · split
      next b heq => rw [Option.some.inj (heq.symm.trans h)]
      next heq => exact absurd (heq.symm.trans h) (by simp)

/-! No link message ends a muster. -/

theorem State.resetPort_slot (s : State) (port r : Nat) (own off : Bool) : (s.resetPort port r own off).must.slot = s.must.slot :=
  (s.resetPort_queues port r own off).2
theorem State.ackMessage_slot (s : State) (port a : Nat) (retry : Bool) (nakid : Nat) :
    (s.ackMessage port a retry nakid).must.slot = s.must.slot := by
  unfold State.ackMessage
  dsimp only
  (repeat' split)
  · rfl
  · rfl
  · exact State.resetPort_slot _ _ _ _ _
theorem State.creditMessage_slot (s : State) (port d : Nat) (fr : List Nat) : (s.creditMessage port d fr).must.slot = s.must.slot := by
  unfold State.creditMessage
  dsimp only
  (repeat' split)
  · rfl
  · exact State.resetPort_slot _ _ _ _ _
  · rfl
theorem State.stepMessage_must (s : State) (port t : Nat) : (s.stepMessage port t).must = s.must := by
  unfold State.stepMessage State.stepReport
  dsimp only
  (repeat' split)
  · rfl
  · exact State.foldl_must (by intros; rfl) _ _
  · rfl
theorem State.takeSwitch_slot (s : State) (port mask cw : Nat) (p : Port) : (s.takeSwitch port mask cw p).must.slot = s.must.slot := by
  unfold State.takeSwitch
  extract_lets may
  split
  · exact State.resetPort_slot _ _ _ _ _
  · split <;> rfl
theorem State.peerStarts_slot {s : State} {port : Nat} {f : State → Port → State} (hf : ∀ p, (f s p).must.slot = s.must.slot) :
    (s.peerStarts port f).must.slot = s.must.slot := by
  unfold State.peerStarts
  split
  · exact hf _
  · rfl
theorem State.linkMessage_slot (s : State) (port m : Nat) : (s.linkMessage port m).must.slot = s.must.slot := by
  unfold State.linkMessage
  split
  · exact State.ackMessage_slot _ _ _ _ _
  · exact State.creditMessage_slot _ _ _ _
  · rw [State.stepMessage_must]
  · split
    · unfold State.switchMessage
      split
      · exact State.peerStarts_slot fun _ => State.takeSwitch_slot _ _ _ _ _
      · rfl
    · unfold State.addMessage
      split
      · exact State.peerStarts_slot fun _ => rfl
      · rfl
    · unfold State.retrainMessage
      split
      · exact State.peerStarts_slot fun _ => congrArg Muster.slot (State.enterRetrain_must _ _)
      · rfl
    · unfold State.withdrawMessage
      split <;> rfl
    · rfl
  · rfl

/-- Settles O29: each flit and message meets the branch of its type. -/
theorem linkReceives : Obligations.LinkReceives := by
  refine ⟨fun s port lanes hoff hdet => ⟨fun hle hop => ?_, fun hgt hst hretry hop => ?_⟩, fun s port raw hm hst hretry hcrc => ?_,
    fun s port raw keys hm hst hk hl hcrc hft hseq hsom hslice hpen hstray hkind hheld hdrain => ?_,
    fun s port raw hm hst hl hcrc hft hseq => ?_, fun s port a retry nakid hm hst h0 hle => ?_,
    fun p d nakid retry => ?_, fun s port df q r eq er hm hst hd hpools => ?_, fun s port df q r eq er hm hst hover => ?_, fun s port t hst => ?_⟩
  · exact exec_codewordReceive hoff hdet (if_pos hle) hop
  · refine exec_codewordReceive hoff hdet ((if_neg (by omega)).trans ?_) hop
    simp [Port.undecoded, Port.enterRetry, Port.count, hst, hretry]
  · have hbad : ¬goodFlit raw = true := by simp [goodFlit, hcrc]
    refine exec_sequencedFlitReceive (by exact hm) hst ((if_neg hbad).trans ?_)
    rw [State.modPort_eq]
    simp [Port.lostFlit, Port.enterRetry, Port.count, hst, hretry]
  · have hjudge : s.judgeFlit port raw = s.acceptNext port raw := if_pos ⟨hft, wrapDiff_expected hseq⟩
    rw [State.acceptNext_keys hk, State.acceptFlit_drove _ (by exact hpen) hstray hkind (by rw [State.port_setPort_self]; exact hheld)
      (by rw [State.port_setPort_self]; exact hdrain), State.port_setPort_self] at hjudge
    refine exec_sequencedFlitReceive (by exact hm) hst ((if_pos (goodFlit_of hl hcrc)).trans ?_)
    rw [hjudge]
    exact State.takeSlice_of_nothing hsom (by rw [State.port_setPort_self]; exact hslice)
  · have hgo {t : State} (ht : t.must.slot = none) (h : (s.setPort port (s.port port)).takeSlice port (field raw 0 4) = t) :
        exec (.sequencedFlitReceive port raw) s = .next t :=
      exec_sequencedFlitReceive ht hst ((if_pos (goodFlit_of hl hcrc)).trans (by rw [State.judgeFlit_idle hft hseq]; exact h))
    have htalk : (s.port port).talks = true := Port.talks_of (.inl hst)
    refine ⟨fun hsom => hgo (by exact hm) ?_, fun a hsom hslice => hgo ?_ ?_⟩
    · rw [State.takeSlice_first (by rw [State.port_setPort_self]; exact htalk) hsom, State.port_setPort_self, State.setPort_setPort]
    · exact (State.linkMessage_slot _ _ _).trans hm
    · rw [State.takeSlice_second (by rw [State.port_setPort_self]; exact htalk) hsom (by rw [State.port_setPort_self]; exact hslice),
        State.port_setPort_self, State.setPort_setPort]
  · refine State.link_to (by exact hm) ?_
    exact (if_neg (by simp [Port.talks_of hst])).trans (if_pos ⟨h0, hle⟩)
  · unfold Port.acked
    dsimp only
    split
    next h => exact ⟨rfl, rfl, fun _ _ => ⟨rfl, rfl⟩, fun hr => absurd (hr.symm.trans h.1) (by decide)⟩
    next h => exact ⟨rfl, rfl, fun hr hn => absurd ⟨hr, hn⟩ h, fun _ => rfl⟩
  · refine State.link_to (by exact hm) ?_
    have hfits : ¬(160 < ((s.port port).dSent + 1024 - df.toNat) % 1024 ∨ ((List.range 4).any fun k => decide
        (2 < (Tab.get 0 (s.port port).sSent k + 4 - [q.toNat, r.toNat, eq.toNat, er.toNat].getD k 0) % 4)) = true) := by
      simp only [not_or, List.any_eq_true, decide_eq_true_eq, not_exists, not_and, List.mem_range]
      exact ⟨by omega, fun k hk => Nat.not_lt.mpr (hpools k hk)⟩
    exact (if_neg (by simp [Port.talks_of hst])).trans (if_neg hfits)
  · exact State.link_reset (f := fun t => t.creditMessage port df.toNat [q.toNat, r.toNat, eq.toNat, er.toNat]) hm
      ((if_neg (by simp [Port.talks_of (.inl hst)])).trans (if_pos (.inl hover)))
  · exact congrArg Host.Outcome.next (if_pos (Port.talks_of hst))

end Sys2Proof.Machine
end

section
/-! SUPPORT. The transmit side of a Xancel port, and its way into and out of RETRAIN. -/

namespace Sys2Proof.Machine
open Sys2Proof.Spec

theorem Port.startRetrain_of_not_commanded {p : Port} (h : p.retrainCmd = false) : p.startRetrain = p := if_neg (by simp [h])
theorem State.switchTx_of_no_switch {s : State} {port : Nat} (h : ∀ m cw, (s.port port).laneOp ≠ .switchIn m cw) : s.switchTx port = s := by
  unfold State.switchTx
  dsimp only
  split
  next m cw heq => exact absurd heq (h m cw)
  · rfl
theorem State.addedFrames_of_no_op {s : State} {port : Nat} (h : (s.port port).laneOp = .none) : s.addedFrames port = s := by
  have hnone : (s.port port).addedLanes = 0 := by rw [Port.addedLanes, h]
  have hlist : laneList 0 = [] := by decide
  rw [State.addedFrames, hnone, hlist]
  rfl

/-- Without a lane operation an ACTIVE transmitter only fills its flit time (R318). -/
theorem State.activeFlit_of_no_op {s : State} {port : Nat} (hop : (s.port port).laneOp = .none) (hcmd : (s.port port).retrainCmd = false) :
    s.activeFlit port = (s.setPort port (s.port port)).fillFlit port := by
  have hp : ((s.setPort port (s.port port)).port port).laneOp = .none := by rw [State.port_setPort_self]; exact hop
  rw [State.activeFlit, State.modPort_eq, Port.startRetrain_of_not_commanded hcmd, State.switchTx_of_no_switch (by simp [hop]),
    State.addedFrames_of_no_op hp]

/-- A drove flit goes before a stray and control flits when nothing is held, in replay or due for deskew (R318, R333). -/
theorem State.fillFlit_drove {s : State} {port : Nat} {f : DFlit} {rest : List DFlit} (hdeskew : (s.port port).deskew = 0)
    (hhold : (s.port port).holdQ = []) (hreplay : (s.port port).replayAt = none) (hroom : (s.port port).replay.length < 8212)
    (hq : (s.port port).droveQ = f :: rest) :
    s.fillFlit port = (s.setPort port { s.port port with droveQ := rest, dSent := ((s.port port).dSent + 1) % 1024 }).sendSequenced port
      (droveTag f) f.payload := by
  unfold State.fillFlit
  dsimp only
  rw [if_neg (by omega)]
  split
  next h _ heq => exact absurd (heq.symm.trans hhold) (by simp)
  split
  next e heq => exact absurd (heq.symm.trans hreplay) (by simp)
  rw [if_neg (by omega)]
  split
  next g r heq =>
    obtain ⟨rfl, rfl⟩ := List.cons.inj (heq.symm.trans hq)
    rfl
  next heq => exact absurd (heq.symm.trans hq) (by simp)

theorem exec_flitTimeTransmit_active {s t : State} {port : Nat} (hst : (s.port port).st = .active) (ht : t.must.slot = none)
    (hf : s.activeFlit port = t) : exec (.flitTimeTransmit port) s = .next t := by
  show execFlitTimeTransmit port s = _
  refine State.link_to ht ?_
  split
  · exact hf
  all_goals next heq => exact absurd (heq.symm.trans hst) (by simp)

theorem exec_flitTimeTransmit_lock {s t : State} {port : Nat} (hst : (s.port port).st = .lock) (ht : t.must.slot = none)
    (hf : s.sendTrain port = t) : exec (.flitTimeTransmit port) s = .next t := by
  show execFlitTimeTransmit port s = _
  refine State.link_to ht ?_
  split
  case h_3 => exact hf
  all_goals next heq => exact absurd (heq.symm.trans hst) (by simp)

theorem exec_flitTimeTransmit_detect {s t : State} {port : Nat} (hst : (s.port port).st = .detect) (ht : t.must.slot = none)
    (hf : s.sendFrames port = t) : exec (.flitTimeTransmit port) s = .next t := by
  show execFlitTimeTransmit port s = _
  refine State.link_to ht ?_
  split
  case h_5 => exact hf
  all_goals next heq => exact absurd (heq.symm.trans hst) (by simp)

theorem State.enterRetrain_eq (s : State) (port : Nat) :
    s.enterRetrain port = (s.setPort port (Spec.retraining (s.port port))).assertEvent (port / 16) (80 + port % 16) := rfl

/-- A port of which no muster depends enters RETRAIN (R335, R343, R361). -/
theorem State.link_enterRetrain {s : State} {port : Nat} {f : State → State} (hm : s.must.slot = none) (hf : f s = s.enterRetrain port) :
    s.link port f = .next ((s.setPort port (Spec.retraining (s.port port))).assertEvent (port / 16) (80 + port % 16)) :=
  State.link_to (by rw [← State.enterRetrain_eq, State.enterRetrain_must]; exact hm) hf

/-- A port without a lane operation of its own has none to withdraw (R342). -/
theorem State.yieldLane_of_no_op {s : State} {port : Nat} (h : (s.port port).laneOp = .none) : s.yieldLane port = some (s.port port) := by
  simp [State.yieldLane, Port.ownOp, Port.dropOwn, h]
theorem State.peerStarts_of_no_op {s : State} {port : Nat} (h : (s.port port).laneOp = .none) (f : State → Port → State) :
    s.peerStarts port f = f s (s.port port) := by
  rw [State.peerStarts, State.yieldLane_of_no_op h]
theorem State.setPort_enterRetrain (s : State) (port : Nat) : (s.setPort port (s.port port)).enterRetrain port = s.enterRetrain port := by
  rw [State.enterRetrain_eq, State.port_setPort_self, State.setPort_setPort, State.enterRetrain_eq]

/-- Settles O30: what a flit time carries is what its port's queues and state name first. -/
theorem linkTransmitsAndRetrains : Obligations.LinkTransmitsAndRetrains := by
  refine ⟨fun s port f rest hm hst hop hcmd hdeskew hhold hreplay hroom hq => ?_, fun s port hm => ⟨fun hst => ?_, fun hst => ?_⟩,
    fun s port hm hst => ⟨fun hbad => State.link_enterRetrain hm (if_pos ⟨hst, hbad⟩), fun hheld => State.link_enterRetrain hm (if_pos ⟨hst, hheld⟩),
      fun hretry => State.link_enterRetrain hm (if_pos ⟨hst, hretry⟩), fun hop => State.link_enterRetrain hm ((if_pos hst).trans ?_)⟩,
    fun s port rx peer hst hre hl hpl hrx hpeer => ?_, fun s port hst => ⟨fun hop => ?_, fun hop => ?_⟩⟩
  · refine exec_flitTimeTransmit_active hst (by rw [State.putFlit_must]; exact hm) ?_
    rw [State.activeFlit_of_no_op hop hcmd]
    have hfill := State.fillFlit_drove (s := s.setPort port (s.port port)) (port := port) (f := f) (rest := rest)
    rw [State.port_setPort_self, State.setPort_setPort] at hfill
    rw [hfill hdeskew hhold hreplay hroom hq]
    unfold State.sendSequenced
    dsimp only
    rw [State.port_setPort_self, State.setPort_setPort] <;> rfl
  · exact exec_flitTimeTransmit_lock hst (by rw [State.sendTrain, State.putFlit_must]; exact hm) rfl
  · exact exec_flitTimeTransmit_detect hst (by exact hm) rfl
  · rw [State.peerStarts_of_no_op hop, State.setPort_enterRetrain]
  · exact congrArg Host.Outcome.next (congrArg (s.setPort port) (if_pos ⟨hst, hre, hl, hpl, hrx, hpeer⟩))
  · refine congrArg Host.Outcome.next (congrArg (s.setPort port) ((if_pos hst).trans ?_))
    rw [Port.startRetrain, if_pos (by simp [hop])]
    simp [Port.lane, laneBody]
  · exact congrArg Host.Outcome.next (congrArg (s.setPort port) ((if_pos hst).trans (if_neg (by simp [hop]))))

end Sys2Proof.Machine
end

section
/-! SUPPORT. The lane operations of a Xancel port. -/

namespace Sys2Proof.Machine
open Sys2Proof.Spec

theorem State.assertEvent_port (s : State) (d x n : Nat) : (s.assertEvent d x).port n = s.port n := by
  rw [State.port, State.port, State.assertEvent_ports]

theorem State.switchRx_takes {s : State} {port m cw : Nat} (hst : (s.port port).st = .active) (hop : (s.port port).laneOp = .switchOut m cw)
    (hcw : atOrAfter 16 (s.port port).cwRecv (cw + 2) = true) :
    s.switchRx port = (s.setPort port { (s.port port).countLanes (s.port port).rxLanes (BitVec.ofNat 4 m) with
      rxLanes := BitVec.ofNat 4 m, laneOp := .none }).assertEvent (port / 16) (80 + port % 16) := by
  unfold State.switchRx
  dsimp only
  split
  next m' cw' heq =>
    obtain ⟨rfl, rfl⟩ := LaneOp.switchOut.inj (heq.symm.trans hop)
    exact if_pos (by simp [hst, hcw])
  next hne => exact absurd hop (hne m cw)

theorem State.switchTx_takes {s : State} {port m cw : Nat} (hst : (s.port port).st = .active) (hop : (s.port port).laneOp = .switchIn m cw)
    (hdeskew : (s.port port).deskew = 0) (hcws : (s.port port).cwFlits = []) (hcw : atOrAfter 16 (s.port port).cwSent cw = true) :
    s.switchTx port = (s.setPort port { (s.port port).countLanes (s.port port).txLanes (BitVec.ofNat 4 m) with
      txLanes := BitVec.ofNat 4 m, deskew := 2 }).assertEvent (port / 16) (80 + port % 16) := by
  unfold State.switchTx
  dsimp only
  split
  next m' cw' heq =>
    obtain ⟨rfl, rfl⟩ := LaneOp.switchIn.inj (heq.symm.trans hop)
    exact if_pos (by simp [hst, hdeskew, hcws, hcw])
  next hne => exact absurd hop (hne m cw)

theorem Port.lane_withdraw (p : Port) : p.lane 3 0 0 = { p with laneMsgs := p.laneMsgs ++ [3 * 2 ^ 20] } := by simp [Port.lane, laneBody]

/-- A SWITCH to lanes of the set is taken for its codeword, or withdrawn after it (R339). -/
theorem State.takeSwitch_of_subset {s : State} {port mask cw : Nat} (hop : (s.port port).laneOp = .none) (h0 : mask ≠ 0)
    (hsub : mask &&& (s.port port).txLanes.toNat = mask) :
    s.takeSwitch port mask cw (s.port port) =
      if isAfter 16 cw (s.port port).cwSent then s.setPort port { s.port port with laneOp := .switchIn mask cw }
      else s.setPort port { s.port port with laneOp := .none, laneMsgs := (s.port port).laneMsgs ++ [3 * 2 ^ 20] } := by
  unfold State.takeSwitch
  extract_lets may
  have hmay : may = (s.port port).txLanes.toNat := by
    unfold may
    rw [hop]
  rw [if_neg (by simp [hmay, h0, hsub]), Port.lane_withdraw]

theorem exec_switchReceive {s t : State} {port : Nat} {mask : BitVec 4} {cw : BitVec 16} (hst : (s.port port).st = .active)
    (hop : (s.port port).laneOp = .none) (ht : t.must.slot = none) (h : s.takeSwitch port mask.toNat cw.toNat (s.port port) = t) :
    exec (.switchReceive port mask cw) s = .next t := by
  show execSwitchReceive port mask cw s = _
  refine State.link_to ht ?_
  rw [State.switchMessage, if_pos hst, State.peerStarts_of_no_op hop, h]

/-- A lane of an ACTIVE port's inbound set with too many wrong symbols in the window of R340. -/
theorem exec_laneDropThreshold {s : State} {port lane : Nat} (hst : (s.port port).st = .active) (hlane : (s.port port).rxLanes.getLsbD lane = true)
    (hover : (Tab.get ({} : PortNv) s.nv.ports port).drop
      < ((s.port port).laneErrs.filter fun e => e.2 == lane && decide (s.now < e.1 + errWindow)).length) :
    exec (.laneDropThreshold port lane) s = s.link port fun _ =>
      if laneCount (s.port port).rxLanes = 1 then s.enterRetrain port
      else if (s.port port).laneOp == .none then
        s.setPort port ({ s.port port with laneSent := false }.sendSwitch ((s.port port).rxLanes.toNat - 2 ^ lane))
      else s := by
  show execLaneDropThreshold port lane s = _
  unfold execLaneDropThreshold State.link
  dsimp only
  rw [if_pos (by rw [hst, hlane, decide_eq_true hover]; rfl)]

/-- Settles O31: every lane operation starts from a port without one, or ends its own. -/
theorem laneOperations : Obligations.LaneOperations := by
  refine ⟨fun s port mask cw hm hst hop h0 hsub => ?_, fun s port m cw hst => ⟨fun hop hdeskew hcws hcw => ?_, fun hop hcw => ?_⟩,
    fun s port mask hst hop => ?_, fun s port hst hign hdeskew => ?_, fun s port lane hm hst hlane hover => ?_,
    fun s port lane mask hop => ⟨?_, ?_⟩, fun s port lane hst hlt hlane hop hauto => ?_⟩
  · have htake := State.takeSwitch_of_subset (cw := cw.toNat) hop h0 hsub
    exact ⟨fun hcw => exec_switchReceive hst hop (by exact hm) (htake.trans (if_pos hcw)),
      fun hcw => exec_switchReceive hst hop (by exact hm) (htake.trans (if_neg (by simp [hcw])))⟩
  · refine congrArg Host.Outcome.next ((congrArg (State.switchRx · port) (State.switchTx_takes hst hop hdeskew hcws hcw)).trans ?_)
    exact State.switchRx_of_no_switch (by simp [State.assertEvent_port, Port.countLanes, Port.count, hop])
  · refine congrArg Host.Outcome.next ((congrArg (State.switchRx · port) ?_).trans (State.switchRx_takes hst hop hcw))
    exact State.switchTx_of_no_switch (by simp [hop])
  · refine congrArg Host.Outcome.next ((if_pos hst).trans ?_)
    rw [State.peerStarts_of_no_op hop]
  · refine congrArg Host.Outcome.next ((if_pos (Port.talks_of (.inl hst))).trans (congrArg (s.setPort port) ?_))
    exact (if_neg (by simp [hign])).trans (if_pos hdeskew)
  · have herr : errWindow = 3600000 := by simp only [errWindow, cyclesPerUs, Nat.reduceMul]
    rw [← herr] at hover
    refine ⟨fun hlast hop => ?_, fun hlast => ?_⟩
    · rw [exec_laneDropThreshold hst hlane hover, if_neg hlast, if_pos (by simp [hop])]
      exact State.link_to (by exact hm) rfl
    · rw [exec_laneDropThreshold hst hlane hover, if_pos hlast]
      exact State.link_enterRetrain hm rfl
  · refine congrArg Host.Outcome.next ?_
    split
    next m heq =>
      obtain ⟨-, rfl⟩ := LaneOp.addOut.inj (heq.symm.trans hop)
      rfl
    next hne => exact absurd hop (hne lane mask)
  · refine congrArg Host.Outcome.next ?_
    split
    · rw [State.modPort_eq, Port.lane_withdraw]
    next hne => exact absurd hop (hne lane mask)
  · exact congrArg Host.Outcome.next (if_pos (by rw [hst, decide_eq_true hlt, hlane, hop, hauto]; rfl))

end Sys2Proof.Machine
end

section
/-! SUPPORT. The training of a Xancel port and its sealing. -/

namespace Sys2Proof.Machine
open Sys2Proof.Spec

/-- The set of the numbers below four that meet a test. -/
theorem getLsbD_sum_of_filter (p : Nat → Bool) {i : Nat} (hi : i < 4) :
    (BitVec.ofNat 4 (((List.range 4).filter p).foldl (fun a i => a + 2 ^ i) 0)).getLsbD i = p i := by
  have hrange : List.range 4 = [0, 1, 2, 3] := rfl
  obtain rfl | rfl | rfl | rfl : i = 0 ∨ i = 1 ∨ i = 2 ∨ i = 3 := by omega
  all_goals cases h0 : p 0 <;> cases h1 : p 1 <;> cases h2 : p 2 <;> cases h3 : p 3 <;> simp [hrange, List.filter, h0, h1, h2, h3]

theorem exec_trainFlitReceive {s : State} {port : Nat} {b : Block} (hst : (s.port port).st = .lock) :
    exec (.trainFlitReceive port b) s = .next (if ((s.port port).train b).locked && ((s.port port).train b).peerLocked then
      (s.setPort port ((s.port port).train b)).enterSeal port else s.setPort port ((s.port port).train b)) :=
  congrArg Host.Outcome.next ((if_pos (.inl hst)).trans (ite_congr (by simp [hst]) (fun _ => rfl) fun _ => rfl))

theorem Port.train_of_format {p : Port} {b : Block} (h : Block.field b 0 1 = 1) : p.train b = { p with
    trainRun := p.trainRun + 1, locked := p.locked || decide (16 ≤ p.trainRun + 1), peerLocked := bit (Block.field b 3 1) 0 } :=
  if_neg (not_not_intro h)

theorem exec_sealHelloReceive_refused {s : State} {port r : Nat} {h : Block} (hst : (s.port port).st = .seal)
    (hpeer : (s.port port).peerHello = none) (hr : s.helloRefusal h = some r) :
    exec (.sealHelloReceive port h) s = .next (s.setPort port ((s.port port).refused r (Block.field h 0 8))) := by
  refine congrArg Host.Outcome.next ((if_pos ⟨hst, hpeer⟩).trans ?_)
  split
  next r' heq => rw [Option.some.inj (heq.symm.trans hr)]
  next heq => exact absurd (heq.symm.trans hr) (by simp)

theorem exec_sealHelloReceive_accepted {s : State} {port : Nat} {h : Block} (hst : (s.port port).st = .seal)
    (hpeer : (s.port port).peerHello = none) (hr : s.helloRefusal h = none) :
    exec (.sealHelloReceive port h) s = .next (s.acceptHello port h) := by
  refine congrArg Host.Outcome.next ((if_pos ⟨hst, hpeer⟩).trans ?_)
  split
  next r heq => exact absurd (heq.symm.trans hr) (by simp)
  · rfl

theorem exec_sealProofReceive {s t : State} {port : Nat} {b h : Block} (hst : (s.port port).st = .seal) (hpeer : (s.port port).peerHello = some h)
    (ht : (if ecdsaVerify (pointOf (helloBytes h 44 64)) (proofText (s.port port).hello h) (helloBytes b 0 64) then s.setPort port (s.port port).toActive
      else s.setPort port ((s.port port).refused 3 (Block.field h 0 8))) = t) : exec (.sealProofReceive port b) s = .next t := by
  refine congrArg Host.Outcome.next ?_
  split
  next k _ heq =>
    obtain rfl : k = h := Option.some.inj (heq.symm.trans hpeer)
    exact ht
  next hne => exact absurd hpeer (hne h hst)

/-- Settles O32: each command of training meets the branch of its state. -/
theorem portTraining : Obligations.PortTraining := by
  refine ⟨fun s port hst => congrArg Host.Outcome.next (congrArg (s.setPort port) (if_pos hst)), fun x i hi => getLsbD_sum_of_filter _ hi,
    fun s port x peer => ⟨fun hst hx hpeer => ?_, fun hst hnone => ?_, fun hst hre hx hpeer => ?_⟩, fun s port b hst hformat => ?_,
    fun s port => ⟨fun hst => ?_, fun hst => ?_, fun hst hpeer => ?_, fun hrep hst => ?_⟩, fun s port h hst hpeer => ?_,
    fun s port b h hst hpeer => ?_⟩
  · exact congrArg Host.Outcome.next (congrArg (s.setPort port) ((if_pos hst).trans (if_neg (not_or.mpr ⟨hx, hpeer⟩))))
  · exact congrArg Host.Outcome.next (congrArg (s.setPort port) ((if_pos hst).trans (if_pos hnone)))
  · exact congrArg Host.Outcome.next (congrArg (s.setPort port) ((if_neg (by simp [hst])).trans (if_pos ⟨hst, hre, hx, hpeer⟩)))
  · have h := exec_trainFlitReceive (b := b) hst
    rw [Port.train_of_format hformat] at h
    exact h
  · exact congrArg Host.Outcome.next (congrArg (s.setPort port) (if_pos hst))
  · exact congrArg Host.Outcome.next (congrArg (s.setPort port) (if_pos hst))
  · exact congrArg Host.Outcome.next (congrArg (s.setPort port) (if_pos ⟨hst, hpeer⟩))
  · exact congrArg Host.Outcome.next (congrArg (s.setPort port) (if_pos ⟨hrep, hst⟩))
  · split
    next r hr => exact exec_sealHelloReceive_refused hst hpeer hr
    next hr =>
      refine ⟨s.acceptHello port h, exec_sealHelloReceive_accepted hst hpeer hr, ?_⟩
      rw [State.acceptHello, State.port_setPort_self]
      exact ⟨rfl, rfl, rfl, rfl, hst⟩
  · refine exec_sealProofReceive hst hpeer ?_
    split <;> rfl

end Sys2Proof.Machine
end

section
/-! SUPPORT. Writes of the tier, queued KV requests, and the course and end of a muster. -/

namespace Sys2Proof.Machine
open Sys2Proof.Spec

/-- `t` differs from `s` at most in the tier and in messages sent. -/
def State.TierFrame (s t : State) : Prop := { s with sent := t.sent, tier := t.tier } = t

theorem State.TierFrame.refl (s : State) : State.TierFrame s s := rfl
theorem State.TierFrame.trans {s t u : State} (h : State.TierFrame s t) (k : State.TierFrame t u) : State.TierFrame s u := by
  unfold State.TierFrame at *; rw [← k, ← h]
theorem State.TierFrame.foldl {α : Type} {f : State → α → State} (hf : ∀ t x, State.TierFrame t (f t x)) (l : List α) (s : State) :
    State.TierFrame s (l.foldl f s) := by
  induction l generalizing s with
  | nil => exact .refl s
  | cons x l ih => exact (hf s x).trans (ih _)
theorem State.TierFrame.must {s t : State} (h : State.TierFrame s t) : t.must = s.must := by rw [← h]
theorem State.TierFrame.ctxs {s t : State} (h : State.TierFrame s t) : t.ctxs = s.ctxs := by rw [← h]
theorem State.TierFrame.ctx {s t : State} (h : State.TierFrame s t) (k : Nat) : t.ctx k = s.ctx k := by rw [State.ctx, h.ctxs, State.ctx]
theorem State.tierFrame_setTier (s : State) (x : Tier) : State.TierFrame s { s with tier := x } := rfl

theorem State.tierFrame_tierWrite (s : State) (ta : Nat) (d : Line) (poison : Bool) : State.TierFrame s (s.tierWrite ta d poison) := rfl
theorem State.tierFrame_backInvalidate (s : State) (b : Nat) : State.TierFrame s (s.backInvalidate b) := by
  unfold State.backInvalidate
  split
  · rfl
  · split
    · rfl
    · split <;> rfl
theorem State.tierFrame_tierStore (s : State) (ta : Nat) (d : Line) : State.TierFrame s (s.tierStore ta d) := by
  unfold State.tierStore
  dsimp only
  split
  · exact ((State.tierFrame_setTier _ _).trans (State.tierFrame_backInvalidate _ _)).trans (State.tierFrame_tierWrite _ _ _ _)
  · exact State.tierFrame_tierWrite _ _ _ _
theorem State.tierFrame_spill (s : State) (slot core kvs toff : Nat) : State.TierFrame s (s.spill slot core kvs toff) := by
  unfold State.spill
  dsimp only
  split
  · rfl
  · exact .foldl (fun _ _ => State.tierFrame_tierStore _ _ _) _ _

/-- `t` is `s` with other stream pointers in a slot: the muster and the rest of the slot stay. -/
def State.OnlyKv (slot : Nat) (s t : State) : Prop := t.must = s.must ∧ ∃ kv, t.ctx slot = { s.ctx slot with kv := kv }

theorem State.OnlyKv.refl (slot : Nat) (s : State) : State.OnlyKv slot s s := ⟨rfl, _, rfl⟩
theorem State.OnlyKv.trans {slot : Nat} {s t u : State} (h : State.OnlyKv slot s t) (k : State.OnlyKv slot t u) : State.OnlyKv slot s u := by
  obtain ⟨hm, kv, hc⟩ := h
  obtain ⟨km, kv', kc⟩ := k
  exact ⟨km.trans hm, kv', by rw [kc, hc]⟩
theorem State.OnlyKv.of_tierFrame {slot : Nat} {s t : State} (h : State.TierFrame s t) : State.OnlyKv slot s t :=
  ⟨h.must, (s.ctx slot).kv, h.ctx slot⟩
theorem State.OnlyKv.foldl {α : Type} {slot : Nat} {f : State → α → State} (hf : ∀ t x, State.OnlyKv slot t (f t x)) (l : List α) (s : State) :
    State.OnlyKv slot s (l.foldl f s) := by
  induction l generalizing s with
  | nil => exact .refl slot s
  | cons x l ih => exact (hf s x).trans (ih _)
theorem State.onlyKv_kvZero (s : State) (slot core kvs : Nat) : State.OnlyKv slot s (s.modCtx slot fun x => x.kvZero core kvs) :=
  ⟨rfl, ((s.ctx slot).kvZero core kvs).kv, State.ctx_setCtx_self _ _ _⟩
theorem State.onlyKv_applyKv (s : State) (slot : Nat) (q : KvReq) : State.OnlyKv slot s (s.applyKv slot q) := by
  unfold State.applyKv
  refine .foldl (fun t c => ?_) _ _
  split
  · exact (State.OnlyKv.of_tierFrame (State.tierFrame_spill _ _ _ _ _)).trans (State.onlyKv_kvZero _ _ _ _)
  · exact State.onlyKv_kvZero _ _ _ _

/-- Queued KV requests change the slot's stream pointers and empty its queue (R432, R433). -/
theorem State.applyKvQueue_ctx (s : State) (slot : Nat) : (s.applyKvQueue slot).must = s.must
    ∧ ∃ kv, (s.applyKvQueue slot).ctx slot = { s.ctx slot with kv := kv, kvQueue := [] } := by
  obtain ⟨hm, kv, hc⟩ := State.OnlyKv.foldl (fun t q => State.onlyKv_applyKv t slot q) (s.ctx slot).kvQueue s
  refine ⟨hm, kv, ?_⟩
  rw [State.applyKvQueue, State.modCtx_eq, State.ctx_setCtx_self, hc]

theorem State.sendMuster_must (s : State) (ports : List Nat) (b : Block) (fresh : Bool) : (s.sendMuster ports b fresh).must = s.must :=
  State.foldl_must (by intro t p; split <;> rfl) _ _
theorem State.sendMuster_ctxs (s : State) (ports : List Nat) (b : Block) (fresh : Bool) : (s.sendMuster ports b fresh).ctxs = s.ctxs := by
  unfold State.sendMuster
  induction ports generalizing s with
  | nil => rfl
  | cons p ports ih =>
    rw [List.foldl_cons, ih]
    split <;> rfl

theorem State.assertEvent_ctx (s : State) (d x k : Nat) : (s.assertEvent d x).ctx k = s.ctx k :=
  congrArg (Tab.get ({} : Ctx) · k) (s.assertEvent_ctxs d x)

/-- A muster ends without a start: what its slot and the muster keep of it (R361). -/
theorem State.musterEnds_keeps {s : State} {slot : Nat} (h : s.must.slot = some slot) (reason fmodid rx : Nat) (b : Block) :
    (s.musterEnds reason fmodid rx b).must.slot = none ∧ (s.musterEnds reason fmodid rx b).must.failed = true
      ∧ (s.musterEnds reason fmodid rx b).must.latest = some b ∧ ((s.musterEnds reason fmodid rx b).ctx slot).st = (s.ctx slot).origin
      ∧ ((s.musterEnds reason fmodid rx b).ctx slot).musterReason = reason ∧ ((s.musterEnds reason fmodid rx b).ctx slot).musterFmodid = fmodid
      ∧ ((s.musterEnds reason fmodid rx b).ctx slot).musterRx = rx := by
  have hends : ∃ v : State, v.must.slot = none ∧ v.must.failed = true ∧ v.must.latest = some b
      ∧ v.ctx slot = { s.ctx slot with musterReason := reason, musterFmodid := fmodid, musterRx := rx }
      ∧ s.musterEnds reason fmodid rx b = ((v.ctxState slot (s.ctx slot).origin).assertEvent 0 4).applyKvQueue slot := by
    unfold State.musterEnds State.newMuster
    split
    next heq => exact absurd (heq.symm.trans h) (by simp)
    next slot' heq =>
      obtain rfl : slot' = slot := Option.some.inj (heq.symm.trans h)
      refine ⟨_, ?_, ?_, ?_, ?_, rfl⟩
      · rw [State.sendMuster_must]
      · rw [State.sendMuster_must]
      · rw [State.sendMuster_must]
      · rw [State.ctx, State.sendMuster_ctxs]
        exact State.ctx_setCtx_self _ _ _
  obtain ⟨v, hslot, hfailed, hlatest, hctx, heq⟩ := hends
  obtain ⟨hc, hm, -⟩ := v.ctxState_frame slot (s.ctx slot).origin
  obtain ⟨km, kv, kc⟩ := ((v.ctxState slot (s.ctx slot).origin).assertEvent 0 4).applyKvQueue_ctx slot
  rw [heq, km, kc, State.assertEvent_ctx, hc, hctx, State.assertEvent_must, hm]
  exact ⟨hslot, hfailed, hlatest, rfl, rfl, rfl, rfl⟩

theorem State.musterFail_eq {s : State} {slot : Nat} (h : s.must.slot = some slot) (reason : Nat) : s.musterFail reason =
    s.musterEnds reason s.fuse.modid 0 (s.musterFlit slot 2 0 s.must.attempt (Img.pen (s.ctx slot).image) reason s.fuse.modid) := by
  unfold State.musterFail
  split
  next heq => exact absurd (heq.symm.trans h) (by simp)
  next slot' heq =>
    obtain rfl : slot' = slot := Option.some.inj (heq.symm.trans h)
    rfl

theorem mem_of_minNat? {l : List Nat} {t : Nat} (h : minNat? l = some t) : t ∈ l := by
  induction l generalizing t with
  | nil => exact absurd h (by simp [minNat?])
  | cons x l ih =>
    simp only [minNat?] at h
    split at h
    · simp [Option.some.inj h]
    next y hy =>
      obtain hmin | hmin : min x y = x ∨ min x y = y := by omega
      · simp [← Option.some.inj h, hmin]
      · simp [← Option.some.inj h, hmin, ih hy]

theorem State.ofAttempt_of {s : State} {slot : Nat} {b : Block} (h : s.must.slot = some slot) (hb : Block.field b 12 4 = s.must.attempt) :
    s.ofAttempt b = true := by simp [State.ofAttempt, h, hb]

/-- A port with USE = 1 of the muster in progress is classed once (R358, R360). -/
theorem State.classify_eq {s : State} {port slot m : Nat} (hslot : s.must.slot = some slot)
    (hfind : Img.find (s.ctx slot).image s.fuse.modid = some m) (huse : Img.use (s.ctx slot).image m port = 1) (hnew : port ∉ s.must.classed) :
    s.classify port =
      let ls := if 8 ≤ (s.port port).lats.length then (s.port port).lats else (s.port port).latsAll
      let u := s.setPort port { s.port port with latency := ls.foldl max 0 % 2 ^ 32 }
      let v := u.setClass (s.ctx slot).image m port (u.classOne (s.ctx slot).image m port) (s.port port).classedBy
      ({ v with must := { v.must with classed := port :: v.must.classed } } : State).musterGo := by
  have hls : (if (s.port port).enoughReplies then (s.port port).lats else (s.port port).latsAll)
      = if 8 ≤ (s.port port).lats.length then (s.port port).lats else (s.port port).latsAll :=
    ite_congr (by simp [Port.enoughReplies]) (fun _ => rfl) fun _ => rfl
  unfold State.classify
  split
  next heq => exact absurd (heq.symm.trans hslot) (by simp)
  next slot' heq =>
    obtain rfl : slot' = slot := Option.some.inj (heq.symm.trans hslot)
    dsimp only
    split
    next heq' => exact absurd (heq'.symm.trans hfind) (by simp)
    next m' heq' =>
      obtain rfl : m' = m := Option.some.inj (heq'.symm.trans hfind)
      rw [if_neg (by simp [huse, hnew]), hls, State.modPort_eq]

/-- Settles O34: the flits of discovery and muster as they arrive, are sent again and time out. -/
theorem discoveryAndMuster : Obligations.DiscoveryAndMuster := by
  refine ⟨fun s port hst => congrArg Host.Outcome.next (if_pos hst), fun s port b st hst hb => congrArg Host.Outcome.next (if_pos ⟨hst, hb⟩),
    fun s port b st hst hb hm => ?_, fun s port slot m hslot hfind huse hnew => congrArg Host.Outcome.next (State.classify_eq hslot hfind huse hnew),
    fun s port slot b hst hslot hatt => ⟨fun hb hk => ?_, fun hb => ?_, fun hb hpen => ?_⟩, fun s b p hlatest hports hfails hst => ?_,
    fun s slot hslot hready hlate => ?_, fun s f hslot hfailed hfails => ?_⟩
  · exact congrArg Host.Outcome.next ((if_pos ⟨hst, hb⟩).trans (congrArg (s.setPort port) (if_pos (by simp [hm]))))
  · refine congrArg Host.Outcome.next ((if_neg (by simp [hst, hb])).trans ((if_neg (by simp [hk])).trans ?_))
    exact if_pos (State.ofAttempt_of hslot hatt)
  · exact congrArg Host.Outcome.next (if_pos ⟨hst, hb, State.ofAttempt_of hslot hatt⟩)
  · refine ⟨s.musterEnds 14 (Block.field b 138 8) (Block.field b 136 1) b, congrArg Host.Outcome.next ?_, State.musterEnds_keeps hslot _ _ _ _⟩
    split
    next slot' heq =>
      obtain rfl : slot' = slot := Option.some.inj (heq.symm.trans hslot)
      exact if_pos ⟨hst, hb, State.ofAttempt_of hslot hatt, .inr hpen⟩
    next heq => exact absurd (heq.symm.trans hslot) (by simp)
  · refine congrArg Host.Outcome.next ?_
    rw [hfails, List.foldl_nil]
    split
    next b' heq =>
      obtain rfl : b' = b := Option.some.inj (heq.symm.trans hlatest)
      rw [hports]
      exact if_pos hst
    next heq => exact absurd (heq.symm.trans hlatest) (by simp)
  · obtain ⟨hs, -, -, hst, hr, hf, -⟩ := State.musterEnds_keeps hslot 13 s.fuse.modid 0
      (s.musterFlit slot 2 0 s.must.attempt (Img.pen (s.ctx slot).image) 13 s.fuse.modid)
    refine ⟨s.musterFail 13, congrArg Host.Outcome.next ((if_pos ?_).trans (if_pos (by simp [hslot]))), ?_⟩
    · have htimed : s.must.timed = true := by simp [Muster.timed, hslot, hready]
      rw [htimed, Bool.true_and]
      split
      next t heq =>
        obtain ⟨f, hf, rfl⟩ := List.mem_map.mp (mem_of_minNat? heq)
        exact decide_eq_true (hlate f hf)
      · rfl
    · rw [State.musterFail_eq hslot]
      exact ⟨hs, hst, hr, hf⟩
  · have htimed : s.must.timed = false := by simp [Muster.timed, hslot, hfailed]
    refine congrArg Host.Outcome.next ((if_neg (by simp [htimed])).trans ?_)
    rw [hfails]
    simp [minNat?]

end Sys2Proof.Machine
end

section
/-! SUPPORT. The time unit: its state, SYNC edges and the exchange with the parent. -/

namespace Sys2Proof.Machine
open Sys2Proof.Spec

theorem State.timeState_eventFrame (s : State) (st : TimeSt) :
    State.EventFrame { s with time := { s.time with st := st } } (s.timeState st) := by
  unfold State.timeState
  dsimp only
  split
  · rfl
  · exact State.eventFrame_assertEvent _ _ _
theorem State.timeState_time (s : State) (st : TimeSt) : (s.timeState st).time = { s.time with st := st } := (s.timeState_eventFrame st).time
theorem State.timeState_isBell (s : State) (st : TimeSt) : (s.timeState st).isBell = s.isBell := by
  rw [State.isBell, (s.timeState_eventFrame st).fuse, (s.timeState_eventFrame st).nv, State.isBell]

theorem State.enterNet_time (s : State) (step : Bool) : (s.enterNet step).time = { ({ s.time with st := .net } : TimeUnit).leaveNet with
    freq := s.time.rate, stepNext := step && !s.isBell, atEdge := none } := by
  unfold State.enterNet
  dsimp only
  rw [State.timeState_time, State.timeState_isBell]
theorem State.not_isBell_eq (s : State) : (!s.isBell) = decide (s.fuse.modid ≠ s.nv.bell) := by
  by_cases h : s.fuse.modid = s.nv.bell <;> simp [State.isBell, h]
theorem State.coast_time (s : State) : s.coast.time = ({ s.time with st := .coast } : TimeUnit).leaveNet := by
  rw [State.coast]
  dsimp only
  rw [State.timeState_time]

/-- Edge 0 of an arm outside COAST sets the anchor (R371, R374). -/
theorem State.firstEdge_ref {s : State} (h : s.time.st ≠ .coast) (ts stamp : Nat) :
    (s.firstEdge ts stamp).time.st = .ref ∧ (s.firstEdge ts stamp).time.sa = stamp ∧ (s.firstEdge ts stamp).time.off = ts * 2 ^ 32
      ∧ (s.firstEdge ts stamp).time.arm = some (ts, 0) ∧ (s.firstEdge ts stamp).time.armed = none
      ∧ (s.firstEdge ts stamp).time.rate = s.time.rate ∧ (s.firstEdge ts stamp).time.lastCount = some 0 := by
  unfold State.firstEdge State.edgeRecords
  dsimp only
  rw [if_neg h, State.timeState_time]
  exact ⟨rfl, rfl, rfl, rfl, rfl, rfl, rfl⟩

/-- A module in COAST counts from the new arm and keeps its time (R374, R380). -/
theorem State.firstEdge_coast {s : State} (h : s.time.st = .coast) (ts stamp : Nat) :
    (s.firstEdge ts stamp).time.st = .coast ∧ (s.firstEdge ts stamp).time.sa = s.time.sa ∧ (s.firstEdge ts stamp).time.off = s.time.off
      ∧ (s.firstEdge ts stamp).time.arm = some (ts, 0) ∧ (s.firstEdge ts stamp).time.armed = none := by
  unfold State.firstEdge State.edgeRecords
  dsimp only
  rw [if_pos h]
  exact ⟨h, rfl, rfl, rfl, rfl⟩

theorem exec_syncEdge_armed {s : State} {ts count : Nat} {st : BitVec 64} (h : s.time.armed = some ts) : exec (.syncEdge count st) s =
    .next (({ s with time := { s.time with present := 1 } } : State).firstEdge ts st.toNat) := by
  refine congrArg Host.Outcome.next ?_
  split
  next ts' heq => rw [Option.some.inj (heq.symm.trans h)]
  next heq => exact absurd (heq.symm.trans h) (by simp)
theorem exec_syncEdge_later {s : State} {count : Nat} {st : BitVec 64} (h : s.time.armed = none) : exec (.syncEdge count st) s =
    .next (({ s with time := { s.time with present := 1 } } : State).laterEdge count st.toNat) := by
  refine congrArg Host.Outcome.next ?_
  split
  next ts' heq => exact absurd (heq.symm.trans h) (by simp)
  · rfl

theorem TimeUnit.refEdge_keeps (t : TimeUnit) (ts k stamp : Nat) : ∃ rate, t.refEdge ts k stamp =
    { t with sa := stamp, off := edgeTime ts k % 2 ^ 96, rate := rate } := by
  unfold TimeUnit.refEdge
  dsimp only
  split <;> exact ⟨_, rfl⟩

theorem State.edgeCommand_of_none {s : State} (h : s.time.atEdge = none) : s.edgeCommand = s := by
  unfold State.edgeCommand
  split
  next heq => exact absurd (heq.symm.trans h) (by simp)
  · rfl

/-- A SYNC edge under an arm whose count runs (R371, R374). -/
theorem State.laterEdge_eq {s : State} {ts k0 last : Nat} (harm : s.time.arm = some (ts, k0)) (hlast : s.time.lastCount = some last)
    (count stamp : Nat) : s.laterEdge count stamp =
      if count % 65536 ≠ 0 then { s with time := { s.time with rejected := satAdd 64 s.time.rejected 1 } }
      else (({ s with time := { if s.time.st = .ref then s.time.refEdge ts (count / 65536) stamp else s.time.monEdge ts (count / 65536) stamp with
        arm := some (ts, count / 65536), lastCount := some count } } : State).edgeRecords (count / 65536) stamp).edgeCommand := by
  unfold State.laterEdge
  split
  next ts' _ _ heq _ =>
    obtain ⟨rfl, -⟩ := Prod.mk.inj (Option.some.inj (heq.symm.trans harm))
    rfl
  next hne => exact absurd hlast (hne ts k0 last harm)

/-- Settles O35: what the edges of an arm and the commands of time leave in the time unit. -/
theorem timeEdgesAndStates : Obligations.TimeEdgesAndStates := by
  refine ⟨fun s ts count st harmed hst => ?_, fun s ts count st harmed hst => ?_, fun s ts k last count st harmed harm hlast =>
    ⟨fun hcount => ?_, fun hcount hst hat => ?_⟩, fun s => rfl, fun s ts => rfl, fun s hst => congrArg Host.Outcome.next (if_pos hst),
    fun s hst => ?_, fun s hst => ?_, fun s => ⟨s.cmdCoast, rfl, ?_⟩, fun s hmay => congrArg Host.Outcome.next (if_pos hmay)⟩
  · exact ⟨_, exec_syncEdge_armed harmed, State.firstEdge_ref (by exact hst) ts st.toNat⟩
  · exact ⟨_, exec_syncEdge_armed harmed, State.firstEdge_coast (by exact hst) ts st.toNat⟩
  · rw [exec_syncEdge_later harmed, State.laterEdge_eq (by exact harm) (by exact hlast), if_pos hcount]
  · obtain ⟨rate, hedge⟩ := TimeUnit.refEdge_keeps { s.time with present := 1 } ts (count / 65536) st.toNat
    refine ⟨_, exec_syncEdge_later harmed, ?_⟩
    rw [State.laterEdge_eq (by exact harm) (by exact hlast), if_neg (not_not_intro hcount), if_pos hst, hedge,
      State.edgeCommand_of_none (by exact hat)]
    exact ⟨rfl, rfl, rfl, rfl⟩
  · refine ⟨s.enterNet (s.time.st != .ref), congrArg Host.Outcome.next (if_neg hst), ?_⟩
    rw [State.enterNet_time, State.not_isBell_eq]
    refine ⟨rfl, rfl, rfl, ?_⟩
    cases s.time.st <;> rfl
  · refine ⟨s.enterNet true, congrArg Host.Outcome.next (if_pos hst), ?_⟩
    rw [State.enterNet_time, State.not_isBell_eq]
    exact ⟨rfl, rfl⟩
  · rw [State.cmdCoast]
    dsimp only
    rw [State.coast_time]
    exact ⟨rfl, rfl, rfl, rfl, rfl⟩

theorem State.hopsNow_eq (s : State) :
    s.hopsNow = if s.time.st = .net then (if s.fuse.modid = s.nv.bell then 0 else s.time.hops) else 0xFF := by
  unfold State.hopsNow
  by_cases h : s.time.st = .net <;> simp [h, State.isBell]

theorem exec_timeRequestSend {s : State} {p : Nat} (hst : s.time.st = .net) (hbell : s.fuse.modid ≠ s.nv.bell) (htry : s.time.trying = [])
    (hask : s.time.asked = none) (hp : s.parentNow = some p) (hact : (s.port p).st = .active) : exec .timeRequestSend s = .next (s.askTime p) := by
  refine congrArg Host.Outcome.next ((if_pos ⟨hst, by simp [State.isBell, hbell], htry⟩).trans ?_)
  rw [if_neg (by simp [hask])]
  dsimp only
  split
  next q heq =>
    obtain rfl : q = p := Option.some.inj (heq.symm.trans hp)
    exact if_pos hact
  next heq => exact absurd (heq.symm.trans hp) (by simp)

/-- The reply of the request in hand (R377, R378, R380). -/
theorem exec_timeReplyReceive {s : State} {port : Nat} {b : Block} {st : BitVec 64} (hb : Block.field b 9 1 = 1) (hu : s.usable port b = true) :
    exec (.timeReplyReceive port b st) s = .next ((s.setPort port { s.port port with hops := Block.field b 10 1 }).useReply port
      (Block.field b 24 8) (Block.field b 32 8) (Block.field b 40 8) st.toNat (Block.field b 48 12)) :=
  congrArg Host.Outcome.next (if_pos ⟨hb, hu⟩)

/-- With no port left to try the module coasts (R380). -/
theorem exec_timeParentLost_none {s : State} (hst : s.time.st = .net) (hbell : s.fuse.modid ≠ s.nv.bell) (hlost : s.parentLost = true)
    (hlen : s.time.trying.length ≤ 1)
    (hleft : s.time.trying = [] → ((s.timePorts.filter fun p => p != s.time.parent).filter fun p => (s.port p).st == .active) = []) :
    exec .timeParentLost s = .next s.coast := by
  refine congrArg Host.Outcome.next ((if_pos ⟨hst, by simp [State.isBell, hbell], hlost⟩).trans ?_)
  split
  next q rest htry =>
    obtain rfl : rest = [] := List.eq_nil_of_length_eq_zero (by simpa [htry] using hlen)
    rfl
  next htry =>
    dsimp only
    rw [hleft htry]

/-- Settles O36: a reply is stepped, slewed or refused by its size. -/
theorem timeExchange : Obligations.TimeExchange := by
  refine ⟨fun s p hst hbell htry hask hp hact => exec_timeRequestSend hst hbell htry hask hp hact, fun s p => ⟨rfl, rfl, ?_⟩,
    fun s port b st hst hb => ?_, fun s port b st hb hu => ?_, fun s hslew => congrArg Host.Outcome.next (if_pos hslew),
    fun s hst hbell hlost hlen hleft => ?_⟩
  · rw [State.askTime, State.modPort_eq, State.port_setPort_self]
    rfl
  · rw [← State.hopsNow_eq]
    exact congrArg Host.Outcome.next (if_pos ⟨hst, hb⟩)
  · have hnet : s.time.st = .net := by
      simp only [State.usable, Bool.and_eq_true, beq_iff_eq] at hu
      exact hu.1.1.1.1.1
    refine ⟨fun hstep => ⟨_, exec_timeReplyReceive hb hu, ?_⟩, fun hstep hle => ⟨_, exec_timeReplyReceive hb hu, ?_⟩,
      fun hstep hgt htry => ⟨_, exec_timeReplyReceive hb hu, ?_⟩, fun hstep hgt htry => ⟨_, exec_timeReplyReceive hb hu, ?_⟩⟩
    · rw [State.useReply, if_pos (by exact hstep)]
      exact ⟨rfl, rfl, rfl, rfl, rfl⟩
    · rw [State.useReply, if_neg (by exact ne_true_of_eq_false hstep), if_pos (by exact hle)]
      exact ⟨rfl, rfl, rfl, rfl, congrArg (fun q : Port => min 0xFF (q.hops + 1)) (State.port_setPort_self _ _ _)⟩
    · rw [State.useReply, if_neg (by exact ne_true_of_eq_false hstep), if_neg (by exact Nat.not_le.mpr hgt), if_neg (by exact not_not_intro htry),
        State.refuseTheta]
      dsimp only
      rw [State.coast_time]
      exact ⟨rfl, rfl, rfl⟩
    · rw [State.useReply, if_neg (by exact ne_true_of_eq_false hstep), if_neg (by exact Nat.not_le.mpr hgt), if_pos (by exact htry),
        State.assertEvent_time]
      exact ⟨hnet, rfl, rfl, rfl⟩
  · refine ⟨s.coast, exec_timeParentLost_none hst hbell hlost hlen hleft, ?_⟩
    rw [State.coast_time]
    exact ⟨rfl, rfl, rfl⟩

end Sys2Proof.Machine
end

section
/-! SUPPORT. The commands of the context slots. -/

namespace Sys2Proof.Machine
open Sys2Proof.Spec

theorem State.ctxState_ctx_of_ne {s : State} {j k : Nat} (h : k ≠ j) (st : CtxSt) : (s.ctxState j st).ctx k = s.ctx k := by
  unfold State.ctxState
  dsimp only
  rw [State.assertEvent_ctx]
  split
  · rw [State.modCtx_eq, State.ctx_setCtx, if_neg h]
    rfl
  · rw [State.modCtx_eq, State.ctx_setCtx, if_neg h]
theorem State.startLoad_ctx_of_ne {s : State} {j k : Nat} (h : k ≠ j) : (s.startLoad j).ctx k = s.ctx k := by
  unfold State.startLoad
  refine (State.ctxState_ctx_of_ne (s := s.modCtx j Ctx.anew) h .loading).trans ?_
  rw [State.modCtx_eq, State.ctx_setCtx, if_neg h]

/-- A load that waits begins in its own slot alone (R422). -/
theorem State.startPending_ctx {s : State} {k : Nat} (h : (s.ctx k).st ≠ .pending) : s.startPending.ctx k = s.ctx k := by
  unfold State.startPending
  split
  · rfl
  · split
    next j heq =>
      refine State.startLoad_ctx_of_ne fun hkj => ?_
      have hpending := List.find?_some heq
      simp only [Bool.and_eq_true, beq_iff_eq] at hpending
      exact h (by rw [hkj]; exact hpending.1)
    · rfl

theorem State.bareFail_ctx (s : State) (slot attempt pen : Nat) (ports : List Nat) (k : Nat) :
    (s.bareFail slot attempt pen ports).ctx k = s.ctx k :=
  congrArg (Tab.get ({} : Ctx) · k) (State.sendMuster_ctxs _ _ _ _)

/-- An attempt that failed to fetch is made again while attempts are left (R418, R419). -/
theorem State.endAttempt_again {s : State} {slot i status : Nat} (h2 : 2 ≤ status) (h4 : status ≤ 4)
    (hleft : (Tab.get {} (s.ctx slot).shards i).attempts < 4) (cs : Nat × Nat × Nat) : s.endAttempt slot i status cs = s.fetchShard slot i :=
  if_pos ⟨h2, h4, hleft⟩

theorem exec_shardAttemptEnd {s : State} {k i : Nat} {d out : Bytes} {cs : Nat × Nat × Nat} (hin : s.inIntake k i = true)
    (hres : shardResult (shardEnt (s.ctx k).manifest i) (s.ctx k).seeds d = (1, cs, some out)) :
    exec (.shardAttemptEnd k i (some d)) s = .next ((s.deliverShard k (shardEnt (s.ctx k).manifest i) out).endAttempt k i 1 cs) := by
  refine congrArg Host.Outcome.next ((if_pos hin).trans ?_)
  dsimp only
  rw [hres]

/-- A slot whose unload is complete holds nothing of its context (R427). -/
theorem State.clearCtx_ctx (s : State) (slot : Nat) : ((s.clearCtx slot).ctx slot).image = [] ∧ ((s.clearCtx slot).ctx slot).kv = []
    ∧ ((s.clearCtx slot).ctx slot).tierRegion = none ∧ ((s.clearCtx slot).ctx slot).pen = none := by
  unfold State.clearCtx
  extract_lets x s1 s2 s3 s4
  rw [State.ctx_setCtx_self]
  exact ⟨rfl, rfl, rfl, rfl⟩

/-- A KV request that a running context accepts waits for its end (R432, R433). -/
theorem State.kvReq_queued {s : State} {k op kvs core toff : Nat} (hst : (s.ctx k).st = .running) (h : s.kvStatusOf k op kvs core 0 toff = 0) :
    s.kvReq k op kvs core 0 toff =
      s.setCtx k { s.ctx k with kvStatus := 0, kvQueue := (s.ctx k).kvQueue ++ [(op, kvs, core, toff)] } := by
  unfold State.kvReq
  dsimp only
  rw [h, if_neg (by simp [hst]), State.modCtx_eq, if_pos rfl]

theorem State.kvReq_refused {s : State} {k op kvs core reserved toff : Nat} (h : s.kvStatusOf k op kvs core reserved toff ≠ 0) :
    s.kvReq k op kvs core reserved toff = s.setCtx k { s.ctx k with kvStatus := s.kvStatusOf k op kvs core reserved toff } := by
  unfold State.kvReq
  dsimp only
  rw [if_neg (by simp [h]), State.modCtx_eq, if_neg h]

/-- Settles O37: each command meets its branch in the state that takes it. -/
theorem contextCommands : Obligations.ContextCommands := by
  refine ⟨fun s k htake => ⟨fun hst => ?_, fun hst => ?_⟩, fun s k htake hp hl => ?_, fun s k htake => ⟨fun hst => ?_, fun hst => ?_⟩,
    fun s k htake hst => ?_, fun s k htake hst => ?_, fun s k htake hslot => ?_, fun s k htake hst => ?_,
    fun s k i hin hleft => ⟨?_, ?_⟩, fun s k i d out cs hin hres => exec_shardAttemptEnd hin hres, fun s k hk hst hleft => ?_,
    fun s k kvs core toff op hk hst hok => ⟨fun hop => ?_, fun hop => ?_⟩, fun s k kvs core reserved toff st hk h0 hst => ?_⟩
  · exact congrArg Host.Outcome.next ((if_pos htake).trans (if_neg (by simp [hst])))
  · exact congrArg Host.Outcome.next ((if_pos htake).trans (if_pos hst))
  · exact congrArg Host.Outcome.next ((if_pos htake).trans ((if_neg hp).trans (if_neg hl)))
  · exact congrArg Host.Outcome.next ((if_pos htake).trans (if_pos hst))
  · refine ⟨_, congrArg Host.Outcome.next ((if_pos htake).trans ((if_neg (by simp [hst])).trans (if_pos hst))), ?_⟩
    have hctx := (State.ctxState_frame ((s.flushLoads k).modCtx k fun x => { x with
      phase := .none, status := 14, detail := 0
      shards := Tab.map (fun _ g => if g.status = 0 then { g with status := 8, active := false } else g) x.shards }) k .unloading).1
    rw [State.startPending_ctx (by rw [hctx]; exact CtxSt.noConfusion), hctx, State.modCtx_eq, State.ctx_setCtx_self]
    exact ⟨rfl, rfl⟩
  · exact congrArg Host.Outcome.next ((if_pos htake).trans (if_neg hst))
  · refine ⟨_, congrArg Host.Outcome.next ((if_pos htake).trans (if_pos hst)), ?_⟩
    rw [State.bareFail_ctx, State.modCtx_eq, State.ctx_setCtx_self]
    exact ⟨rfl, rfl⟩
  · obtain ⟨hs, -, -, hst, hr, -⟩ := State.musterEnds_keeps hslot 15 s.fuse.modid 0
      (s.musterFlit k 2 0 s.must.attempt (Img.pen (s.ctx k).image) 15 s.fuse.modid)
    refine ⟨s.musterFail 15, congrArg Host.Outcome.next (if_pos htake), ?_⟩
    rw [State.musterFail_eq hslot]
    exact ⟨hs, hst, hr⟩
  · exact congrArg Host.Outcome.next ((if_pos htake).trans (if_neg (by simp [hst])))
  · exact congrArg Host.Outcome.next ((if_pos hin).trans (State.endAttempt_again (by decide) (by decide) hleft _))
  · exact congrArg Host.Outcome.next ((if_pos hin).trans (State.endAttempt_again (by decide) (by decide) hleft _))
  · refine ⟨_, congrArg Host.Outcome.next ((if_neg (by simp [hleft]; omega)).trans (if_pos hst)), ?_⟩
    obtain ⟨himg, hkv, ht, hpen⟩ := s.clearCtx_ctx k
    rw [((s.clearCtx k).ctxState_frame k .empty).1]
    exact ⟨rfl, himg, hkv, ht, hpen⟩
  · subst hop
    exact congrArg Host.Outcome.next ((if_pos hk).trans (State.kvReq_queued hst hok))
  · subst hop
    exact congrArg Host.Outcome.next ((if_pos hk).trans (State.kvReq_queued hst hok))
  · subst hst
    exact congrArg Host.Outcome.next ((if_pos hk).trans (State.kvReq_refused h0))

end Sys2Proof.Machine
end

section
/-! SUPPORT. The core window and the command rings of a CXL port. -/

namespace Sys2Proof.Machine
open Sys2Proof.Spec

theorem State.hostOpen_iff {s : State} {port : Nat} : s.hostOpen port = true ↔ port < 2 ∧ (s.cxl port).up = true ∧ s.hostBlocked port = false := by
  simp [State.hostOpen, and_assoc]
/-- A port that is open serves the requests to its BARs (R438, R440). -/
theorem State.barGate_open {s : State} {port : Nat} (h : s.hostOpen port = true) (offset : Nat) (f : State → State) :
    s.barGate port offset f = f s := by
  obtain ⟨hport, hup, hblocked⟩ := State.hostOpen_iff.mp h
  unfold State.barGate
  rw [if_neg (by simp [hup]; omega), if_neg (by simp [hblocked])]

/-- A read that alone waits goes out once no write is outstanding (R444). -/
theorem State.startReads_one {s : State} {port : Nat} {r : Nat × Nat} (hbusy : s.windowBusy port = false) (h : (s.cxl port).readsWaiting = [r]) :
    s.startReads port = (s.modCxl port fun c => { c with readsWaiting := [] }).issueRead port r.1 r.2 := by
  rw [State.startReads, if_neg (by simp [hbusy, h]), h]
  rfl

/-! One ring of a port. -/

@[simp] theorem State.modRing_ring (s : State) (port ring : Nat) (f : Ring → Ring) : (s.modRing port ring f).ring port ring = f (s.ring port ring) := by
  unfold State.modRing State.ring
  rw [State.cxl_modCxl_self]
  exact Tab.get_put_self _ _ _ _
theorem State.modCxl_ring {s : State} {port : Nat} {f : Cxl → Cxl} (h : (f (s.cxl port)).rings = (s.cxl port).rings) (ring : Nat) :
    (s.modCxl port f).ring port ring = s.ring port ring := by
  unfold State.ring
  rw [State.cxl_modCxl_self, h]
@[simp] theorem State.cacheRead_ring (s : State) (port a ring : Nat) : (s.cacheRead port a).ring port ring = s.ring port ring :=
  State.modCxl_ring (s := s) (f := (·.hold a)) rfl ring
@[simp] theorem State.modRing_cache (s : State) (port ring : Nat) (f : Ring → Ring) :
    ((s.modRing port ring f).cxl port).cache = (s.cxl port).cache := by
  rw [State.modRing, State.cxl_modCxl_self]
theorem State.cacheRead_cache {s : State} {port : Nat} (h : (s.cxl port).cache.length < 1024) (a : Nat) :
    ((s.cacheRead port a).cxl port).cache = (s.cxl port).cache.filter (· != a) ++ [a] := by
  have hlen : ((s.cxl port).cache.filter (· != a) ++ [a]).length ≤ 1024 := by
    have := List.length_filter_le (· != a) (s.cxl port).cache
    simp only [List.length_append, List.length_singleton]
    omega
  refine (congrArg Cxl.cache (State.cxl_modCxl_self s port (·.hold a))).trans ?_
  exact if_pos hlen

/-- A ring whose settings hold (R447). -/
def State.soundRing (s : State) (port ring : Nat) : Prop :=
  (s.ring port ring).sqsz ≤ 12 ∧ (s.ring port ring).cqsz ≤ 12 ∧ (s.ring port ring).sqsz ≤ (s.ring port ring).cqsz
    ∧ (s.ring port ring).sqBase % 4096 = 0 ∧ (s.ring port ring).cqBase % 4096 = 0 ∧ s.hostBlocked port = false

theorem State.enableRing_sound {s : State} {port ring : Nat} (h : s.soundRing port ring) :
    (s.enableRing port ring).ring port ring = { s.ring port ring with
      st := 1, sqHead := 0, sqTail := 0, cqTail := 0, phase := true, cqUsed := 0, cfgErr := false, fetched := [], descs := []
      reading := false, waitLeft := false }
    ∧ ((s.ring port ring).snoop = false → ((s.enableRing port ring).cxl port).cache = (s.cxl port).cache)
    ∧ ((s.ring port ring).snoop = true → (s.cxl port).cache.length < 1024 → ((s.enableRing port ring).cxl port).cache =
        (s.cxl port).cache.filter (· != (s.ring port ring).tailAddr / 64 * 64) ++ [(s.ring port ring).tailAddr / 64 * 64]) := by
  unfold State.soundRing at h
  unfold State.enableRing
  dsimp only
  rw [if_pos h]
  split
  next hsnoop =>
    refine ⟨?_, fun hoff => absurd (hsnoop.symm.trans hoff) (by decide), fun _ hroom => ?_⟩
    · rw [State.cacheRead_ring, State.modRing_ring]
    · rw [State.cacheRead_cache (by rw [State.modRing_cache]; exact hroom), State.modRing_cache]
  next hsnoop =>
    exact ⟨State.modRing_ring _ _ _ _, fun _ => State.modRing_cache _ _ _ _, fun hon => absurd hon hsnoop⟩

theorem exec_ringEnable {s : State} {port ring : Nat} (hport : port < 2) (hring : ring < 16) (hup : (s.cxl port).up = true) :
    exec (.ringEnable port ring) s = .next (s.ringOn port ring) := congrArg Host.Outcome.next (if_pos ⟨hport, hring, hup⟩)
theorem State.ringOn_off {s : State} {port ring : Nat} (h : (s.ring port ring).st = 0) : s.ringOn port ring = s.enableRing port ring := by
  rw [State.ringOn, h]
  rfl
theorem State.ringOn_draining {s : State} {port ring : Nat} (h : (s.ring port ring).st = 2) :
    s.ringOn port ring = s.modRing port ring fun r => { r with st := 3 } := by
  rw [State.ringOn, h]
  rfl
theorem State.ringOn_waiting {s : State} {port ring : Nat} (h : (s.ring port ring).st = 3) :
    s.ringOn port ring = s.modRing port ring fun r => { r with busy := true } := by
  rw [State.ringOn, h]
  rfl

/-- Without descriptors a draining ring is OFF (R447). -/
theorem State.endDrain_empty {s : State} {port ring : Nat} (hdescs : (s.ring port ring).descs = []) (hst : (s.ring port ring).st = 2) :
    ((s.endDrain port ring).ring port ring).st = 0 := by
  unfold State.endDrain
  dsimp only
  rw [if_neg (by simp [hdescs, hst]), if_neg (by omega), State.modCxl_ring (by exact rfl), State.modRing_ring]
theorem State.endDrain_busy {s : State} {port ring : Nat} (hdescs : (s.ring port ring).descs ≠ []) : s.endDrain port ring = s :=
  if_pos (.inl hdescs)

theorem State.ringOff_on {s : State} {port ring : Nat} (h : (s.ring port ring).st = 1) : ∃ ends,
    ((s.ring port ring).fetched = [] → ends = []) ∧
    s.ringOff port ring = (s.modRing port ring fun r => { r with
      st := 2, fetched := [], waitLeft := false, descs := r.descs ++ ends }).endDrain port ring := by
  rw [State.ringOff, h]
  exact ⟨_, fun hf => by rw [show (Tab.get ({} : Ring) (s.cxl port).rings ring).fetched = [] from hf]; rfl, rfl⟩
theorem State.ringOff_waiting {s : State} {port ring : Nat} (h : (s.ring port ring).st = 3) :
    s.ringOff port ring = s.modRing port ring fun r => { r with st := 2 } := by
  rw [State.ringOff, h]
  rfl

/-- Settles O38: an open port serves each access as its section says. -/
theorem hostWindowAndRings : Obligations.HostWindowAndRings := by
  refine ⟨fun s port offset data hopen hok hdata h4 hl4 => ?_, fun s port offset length hopen hok h0 hle => ⟨fun hbusy => ?_, fun hbusy hnone => ?_⟩,
    fun s port ring hport hring hup => ⟨fun hst hsq hcq hle hsb hcb hblocked => ?_, fun hst hbad => ?_, fun hst => ?_, fun hst => ?_⟩,
    fun s port ring hopen hring => ⟨fun v hv => ?_, fun v hv => ?_, fun hst hdescs hfetched => ?_, fun hst hdescs => ?_, fun hst => ?_⟩,
    fun s port ring v hopen hring hsnoop hline hv => ?_, fun s port hport hup => ?_, fun s port ring d hst hreading hblocked hlen => ?_⟩
  · refine congrArg Host.Outcome.next ((if_neg hdata).trans ((State.barGate_open hopen _ _).trans (if_neg ?_)))
    simp [hok, h4, hl4]
  · refine congrArg Host.Outcome.next ((if_neg (by omega)).trans ((State.barGate_open hopen _ _).trans ((if_neg (by simp [hok])).trans ?_)))
    exact if_pos (by rw [hbusy]; rfl)
  · refine congrArg Host.Outcome.next ((if_neg (by omega)).trans ((State.barGate_open hopen _ _).trans ((if_neg (by simp [hok])).trans ?_)))
    exact State.startReads_one hbusy (by rw [State.cxl_modCxl_self, hnone]; rfl)
  · exact ⟨_, (exec_ringEnable hport hring hup).trans (congrArg _ (State.ringOn_off hst)),
      State.enableRing_sound ⟨hsq, hcq, hle, hsb, hcb, hblocked⟩⟩
  · rw [exec_ringEnable hport hring hup, State.ringOn_off hst, State.enableRing]
    dsimp only
    rw [if_neg ?_]
    rintro ⟨hsq, hcq, hle, hsb, hcb, hblocked⟩
    simp [hblocked] at hbad
    omega
  · rw [exec_ringEnable hport hring hup, State.ringOn_draining hst]
  · rw [exec_ringEnable hport hring hup, State.ringOn_waiting hst]
  · exact congrArg Host.Outcome.next ((if_pos hring).trans ((State.barGate_open hopen _ _).trans (if_pos hv)))
  · exact congrArg Host.Outcome.next ((if_pos hring).trans ((State.barGate_open hopen _ _).trans (if_neg (by omega))))
  · obtain ⟨ends, hends, heq⟩ := State.ringOff_on hst
    refine ⟨_, congrArg Host.Outcome.next ((if_pos hring).trans ((State.barGate_open hopen _ _).trans heq)), State.endDrain_empty ?_ ?_⟩
    · rw [State.modRing_ring, hends hfetched, hdescs]
      rfl
    · rw [State.modRing_ring]
  · obtain ⟨ends, -, heq⟩ := State.ringOff_on hst
    refine ⟨_, congrArg Host.Outcome.next ((if_pos hring).trans ((State.barGate_open hopen _ _).trans heq)), ?_⟩
    rw [State.endDrain_busy (by rw [State.modRing_ring]; simp [hdescs]), State.modRing_ring]
    exact ⟨rfl, rfl⟩
  · exact congrArg Host.Outcome.next ((if_pos hring).trans ((State.barGate_open hopen _ _).trans (State.ringOff_waiting hst)))
  · refine congrArg Host.Outcome.next ((if_pos ⟨hring, hopen, hsnoop, hline⟩).trans (if_pos ?_))
    rw [State.cacheRead_ring]
    exact hv
  · exact ⟨_, congrArg Host.Outcome.next (if_pos ⟨hport, hup⟩), rfl, rfl, rfl, rfl⟩
  · refine congrArg Host.Outcome.next ((if_neg (by simp [hreading, hblocked])).trans ((if_neg (by simp [hst])).trans ?_))
    dsimp only
    rw [if_pos hlen]

end Sys2Proof.Machine
end

section
/-! SUPPORT. CXL.mem, and the link of a CXL port. -/

namespace Sys2Proof.Machine
open Sys2Proof.Spec

theorem exec_cxlMemRead {s : State} {port ta : Nat} {keep : Bool} (hopen : s.memOpen port ta = true) (hdead : s.tierDead ta = false) :
    exec (.cxlMemRead port ta keep) s =
      let s1 : State := if keep then { s with tier := { s.tier with
        hostHeld := s.heldKey ta :: s.tier.hostHeld.filter (· != s.heldKey ta) } } else s
      .next (if s.memHidden ta then s1.emit (.memData port ta 0 false)
        else (if (s1.tierRead ta 2).2.1 then ((s1.tierRead ta 2).2.2.eventRecord port).assertEvent port 130 else (s1.tierRead ta 2).2.2).emit
          (.memData port ta (s1.tierRead ta 2).1 (s1.tierRead ta 2).2.1)) :=
  congrArg Host.Outcome.next ((if_neg (by simp [hopen])).trans (if_neg (by simp [hdead])))

theorem exec_cxlMemWrite {s : State} {port ta : Nat} {data : Line} {poison : Bool} (hopen : s.memOpen port ta = true)
    (hdead : s.tierDead ta = false) : exec (.cxlMemWrite port ta data poison) s =
      .next ((if s.memHidden ta then s.modDiag fun d => { d with memDiscarded := satAdd 64 d.memDiscarded 1 }
        else if s.runSlot.isSome && s.tierSlot ta == s.runSlot then
          (s.tierWrite ta data poison).modDiag fun d => { d with memWrites := satAdd 32 d.memWrites 1 }
        else s.tierWrite ta data poison).emit (.memDone port ta)) := by
  refine congrArg Host.Outcome.next ((if_neg (by simp [hopen])).trans ?_)
  dsimp only
  rw [if_neg (by simp [hdead])]

/-- The state after a write-back and the end of a back-invalidation, before the rewrite and the accesses that waited for it (R457). -/
def State.answerBack (s : State) (port line : Nat) (own : Bool) : State :=
  { s with tier := { s.tier with
    backInv := s.tier.backInv.filter (· != (port, line)), superseded := s.tier.superseded.filter (· != line)
    answered := if own then s.tier.answered else s.tier.answered ++ [line] } }

theorem State.answerBack_queues (s : State) (port line : Nat) (own : Bool) :
    (s.answerBack port line own).tier.rewrites = s.tier.rewrites ∧ (s.answerBack port line own).tier.backQ = s.tier.backQ := ⟨rfl, rfl⟩
theorem State.answerBack_tierEcc (s : State) (port line : Nat) (own : Bool) (ta : Nat) :
    (s.answerBack port line own).tierEcc ta = s.tierEcc ta := rfl
theorem State.answerBack_tierDecoded (s : State) (port line : Nat) (own : Bool) (ta k e : Nat) :
    (s.answerBack port line own).tierDecoded ta k e = s.tierDecoded ta k e := rfl
theorem State.answerBack_mem (s : State) (port line : Nat) (own : Bool) : (s.answerBack port line own).tier.mem = s.tier.mem := rfl
theorem State.tierWrite_queues (s : State) (ta : Nat) (d : Line) (poison : Bool) :
    (s.tierWrite ta d poison).tier.rewrites = s.tier.rewrites ∧ (s.tierWrite ta d poison).tier.backQ = s.tier.backQ := by
  simp only [State.tierWrite, State.storeTouch, and_self]

theorem exec_bisnpinvResponse_writeback {s : State} {port line : Nat} (hin : (port, line) ∈ s.tier.backInv) (hnew : s.tier.superseded = []) (d : Line) :
    exec (.bisnpinvResponse port line (some d)) s =
      .next ((((s.tierWrite (64 * line) d false).answerBack port line (s.tier.rewrites.contains line)).endRewrite line).pumpBack) := by
  refine congrArg Host.Outcome.next ((if_neg (by simp [hin])).trans ?_)
  dsimp only
  rw [hnew, if_neg (by simp)]
  rfl
theorem exec_bisnpinvResponse_clean {s : State} {port line : Nat} (hin : (port, line) ∈ s.tier.backInv) :
    exec (.bisnpinvResponse port line none) s =
      .next (((s.answerBack port line (s.tier.superseded.contains line || s.tier.rewrites.contains line)).endRewrite line).pumpBack) :=
  congrArg Host.Outcome.next (if_neg (by simp [hin]))

theorem State.pumpBack_of_none {s : State} (h : s.tier.backQ = []) : s.pumpBack = s := by
  rw [State.pumpBack, h]
theorem State.endRewrite_of_none {s : State} {b : Nat} (h : s.tier.rewrites = []) : s.endRewrite b = s :=
  if_pos (by simp [h])
theorem State.rewriteBlock_tier (s : State) (ta : Nat) (d : Line) : (s.rewriteBlock ta d).tier = { s.tier with
    mem := Mem.writeN s.tier.mem (64 * (ta / 64)) (bvBytes 64 d), errs := Tab.del (ta / 64) s.tier.errs } := rfl
theorem State.endRewrite_backQ (s : State) (b : Nat) : (s.endRewrite b).tier.backQ = s.tier.backQ := by
  unfold State.endRewrite
  dsimp only
  split
  · rfl
  · split
    · rw [State.rewriteBlock_tier]
    · rfl
/-- A rewrite that waited for its line happens with the corrected data (R111). -/
theorem State.endRewrite_of_correctable {s : State} {b k e : Nat} (h : b ∈ s.tier.rewrites) (he : s.tierEcc (64 * b) = .correctable k e) :
    s.endRewrite b = ({ s with tier := { s.tier with rewrites := s.tier.rewrites.filter (· != b) } } : State).rewriteBlock (64 * b)
      (s.tierDecoded (64 * b) k e) := by
  refine (if_neg (by simp [h])).trans ?_
  rw [he]

/-- Settles O40: an access of the committed port, the end of a back-invalidation, and the commit. -/
theorem cxlMemory : Obligations.CxlMemory := by
  refine ⟨fun s port ta keep hopen hdead => ⟨fun hhid => ?_, fun hhid hgood => ?_⟩, fun s port ta data poison hopen hdead =>
    ⟨fun hhid => ?_, fun hhid hrun => ?_⟩, fun s port line hin hnew hq hre => ⟨fun d => ⟨_, exec_bisnpinvResponse_writeback hin hnew d, ?_⟩, ?_⟩,
    fun s port line k e hin hre hq hecc => ⟨_, exec_bisnpinvResponse_clean hin, ?_⟩, fun s port hport hup => ⟨fun hother hblocked hfail => ?_, fun hbad => ?_⟩⟩
  · exact (exec_cxlMemRead hopen hdead).trans (congrArg Host.Outcome.next (if_pos hhid))
  · rw [exec_cxlMemRead hopen hdead]
    dsimp only
    rw [if_neg (by simp [hhid]), hgood, if_neg Bool.false_ne_true]
  · rw [exec_cxlMemWrite hopen hdead, if_pos hhid]
    rfl
  · rw [exec_cxlMemWrite hopen hdead, if_neg (by simp [hhid]), if_neg (by simp [hrun])]
  · obtain ⟨hre', hq'⟩ := s.tierWrite_queues (64 * line) d false
    obtain ⟨hre'', hq''⟩ := (s.tierWrite (64 * line) d false).answerBack_queues port line (s.tier.rewrites.contains line)
    rw [State.endRewrite_of_none (by rw [hre'', hre', hre]), State.pumpBack_of_none (by rw [hq'', hq', hq])]
    exact ⟨by simp [State.answerBack], State.answerBack_mem ..⟩
  · obtain ⟨hre', hq'⟩ := s.answerBack_queues port line (s.tier.superseded.contains line || s.tier.rewrites.contains line)
    rw [exec_bisnpinvResponse_clean hin, State.endRewrite_of_none (by rw [hre', hre]), State.pumpBack_of_none (by rw [hq', hq])]
    simp [State.answerBack, hnew, hre]
  · obtain ⟨hre', hq'⟩ := s.answerBack_queues port line (s.tier.superseded.contains line || s.tier.rewrites.contains line)
    rw [State.pumpBack_of_none ((State.endRewrite_backQ _ line).trans (hq'.trans hq)), State.endRewrite_of_correctable
      (by rw [hre', hre]; exact List.mem_singleton_self line) ((State.answerBack_tierEcc ..).trans hecc)]
    have hblock : 64 * line / 64 = line := Nat.mul_div_cancel_left _ (by decide)
    rw [State.rewriteBlock_tier, hblock, State.answerBack_tierDecoded]
    dsimp only
    refine ⟨by rw [State.answerBack_mem], Tab.get_del_self _ _ _, ?_, ?_⟩
    · simp [State.answerBack, hre]
    · rw [hre', hre]
      simp
  · exact congrArg Host.Outcome.next ((if_neg (by simp [hup]; omega)).trans (if_neg (by simp [hother, hblocked, hfail])))
  · exact congrArg Host.Outcome.next ((if_neg (by simp [hup]; omega)).trans (if_pos (by simpa [or_assoc] using hbad)))

theorem exec_perstAssert_up {s : State} {port : Nat} (hport : port < 2) (hup : (s.cxl port).up = true) :
    exec (.perstAssert port) s = .next (((s.resetCxl port).modCxl port fun c => { c with
      perst := true, link := 0, width := 0, rate := 0, flit256 := 0, downs := satAdd 32 c.downs 1 }).assertEvent port 128) := by
  refine congrArg Host.Outcome.next ((if_neg (by omega)).trans ?_)
  dsimp only
  rw [hup, if_pos rfl]
  simp only [if_true, State.cxlEvent]

/-- Settles O41: each command of a CXL port's link in the state that takes it. -/
theorem cxlPort : Obligations.CxlPort := by
  refine ⟨fun s port width rate f hport hlink hmay hw hr => congrArg Host.Outcome.next (if_pos ⟨hport, hlink, hmay, hw, hr⟩),
    fun s port hport hup => ?_, fun s port hport => congrArg Host.Outcome.next (if_neg (by omega)), fun s port stream hport hstream => ⟨fun hide => ?_, fun hup hses => ?_⟩⟩
  · have hgo : ¬(2 ≤ port ∨ (!(s.cxl port).up) = true) := by simp [hup]; omega
    exact ⟨congrArg Host.Outcome.next (if_neg hgo), exec_perstAssert_up hport hup, congrArg Host.Outcome.next (if_neg hgo)⟩
  · exact congrArg Host.Outcome.next (if_pos ⟨hport, hstream, hide⟩)
  · exact congrArg Host.Outcome.next (if_pos ⟨hport, hstream, hup, hses⟩)

end Sys2Proof.Machine
end

section
/-! SUPPORT. The commands of a port's mailbox and of its DOE mailbox. -/

namespace Sys2Proof.Machine
open Sys2Proof.Spec

theorem State.mail_open {s : State} {port : Nat} (h : s.mailOpen port = true) (f : State → State) : s.mail port f = f s := if_pos h

/-- A dictionary write of an open mailbox is refused with its status, or done and answered (R470, R474). -/
theorem exec_dictWrite {s : State} {port : Nat} {p : Bytes} (hopen : s.mailOpen port = true) (h8 : 8 ≤ p.length) (hres : field p 3 1 = 0)
    (hlen : p.length = 8 + field p 4 4) :
    exec (.dictWrite port p) s = .next (s.dictWrite true (field p 0 2) (field p 2 1) (p.drop 8) fun st s => s.dictAnswer port st []) :=
  congrArg Host.Outcome.next ((if_neg (by simp [hopen])).trans (if_neg (by omega)))
theorem State.dictWrite_refused {s : State} {mailbox : Bool} {i sub : Nat} {data : Bytes} (answer : Nat → State → State)
    (h : s.writeStatus mailbox i sub data ≠ 0) : s.dictWrite mailbox i sub data answer = answer (s.writeStatus mailbox i sub data) s := if_pos h
theorem State.dictWrite_done {s : State} {mailbox : Bool} {i sub : Nat} {data : Bytes} (answer : Nat → State → State)
    (h : s.writeStatus mailbox i sub data = 0) (hfirst : answersFirst i = false) :
    s.dictWrite mailbox i sub data answer = answer 0 (s.dictDo i sub data) :=
  (if_neg (not_not_intro h)).trans (if_neg (by simp [hfirst]))
theorem State.dictAnswer_nil (s : State) (port st : Nat) : s.dictAnswer port st [] = s.mailAnswer port 0 (leBytes 2 st ++ leBytes 6 0) := by
  rw [State.dictAnswer, List.append_nil]

/-- Settles O42: an open mailbox runs each command and then answers. -/
theorem mailboxCommands : Obligations.MailboxCommands := by
  intro s port hopen
  have hmail {f : State → State} {t : State} (h : f s = t) : (Host.Outcome.next (s.mail port f) : Out) = .next t := by
    rw [State.mail_open hopen, h]
  refine ⟨fun p hlen hres hzero => ?_, fun p hlen => ?_, fun p h8 hres hlen => ⟨fun hst => ?_, fun hst hfirst => ?_⟩, fun log => hmail rfl,
    fun log hs => hmail rfl, fun log h hnot => hmail ?_, hmail rfl, fun p hlen => hmail (if_pos hlen), hmail rfl,
    fun o n hle => hmail (if_neg (by omega)), fun o n hlt => hmail (if_pos hlt), hmail rfl, hmail rfl, fun v => hmail rfl⟩
  · exact congrArg Host.Outcome.next ((if_neg (by simp [hopen])).trans (if_neg (by simp [hlen, hres, hzero])))
  · exact congrArg Host.Outcome.next ((if_neg (by simp [hopen])).trans (if_pos (.inl hlen)))
  · rw [exec_dictWrite hopen h8 hres hlen, State.dictWrite_refused _ hst, State.dictAnswer_nil]
    rfl
  · rw [exec_dictWrite hopen h8 hres hlen, State.dictWrite_done _ hst hfirst, State.dictAnswer_nil]
    rfl
  · refine if_pos ?_
    simp only [Bool.not_false, Bool.true_and, List.any_cons, List.any_nil, Bool.or_false, Bool.not_eq_true', List.any_eq_false]
    exact fun r hr heq => hnot (List.mem_map.mpr ⟨r, hr, beq_iff_eq.mp heq⟩)

/-! The DOE mailbox. -/

theorem State.doe_up {s : State} {port : Nat} (hport : port < 2) (hup : (s.cxl port).up = true) (f : State → State) : s.doe port f = f s :=
  if_pos ⟨hport, hup⟩
theorem State.negotiated_done {s : State} {port : Nat} (hport : port < 2) (hup : (s.cxl port).up = true) (h : (s.cxl port).spdm = 3)
    (f : State → State) : s.negotiated port f = f s := (State.doe_up hport hup _).trans (if_pos h)
theorem State.negotiated_not {s : State} {port : Nat} (hport : port < 2) (hup : (s.cxl port).up = true) (h : (s.cxl port).spdm ≠ 3)
    (f : State → State) : s.negotiated port f = s.spdmError port 4 := (State.doe_up hport hup _).trans (if_neg h)

theorem State.spdmSay_sessions (s : State) (port st : Nat) (q a : Bytes) :
    ((s.spdmSay port st q a).cxl port).sessions = (s.cxl port).sessions := by
  rw [State.spdmSay, State.emit_cxl, State.cxl_modCxl_self]
theorem State.spdmSay_spdm (s : State) (port st : Nat) (q a : Bytes) : ((s.spdmSay port st q a).cxl port).spdm = st := by
  rw [State.spdmSay, State.emit_cxl, State.cxl_modCxl_self]
theorem State.spdmSay_transcript (s : State) (port st : Nat) (q a : Bytes) :
    ((s.spdmSay port st q a).cxl port).transcript = (s.cxl port).transcript ++ q ++ a := by
  rw [State.spdmSay, State.emit_cxl, State.cxl_modCxl_self]

/-- Each index of a measurement names one block (R463, R540). -/
theorem measurements_filter : ∀ k ∈ measurements, measurements.filter (· == k) = [k] ∧ k ≠ 0 ∧ k ≠ 0xFF := by decide

theorem exec_getMeasurements {s : State} {port k : Nat} {q : Bytes} (hport : port < 2) (hup : (s.cxl port).up = true)
    (h : (s.cxl port).spdm = 3) (hk : k ∈ measurements) : exec (.getMeasurements port k false q) s =
      .next (({ s with free := s.free + 1 } : State).spdmSay port 3 q (spdmMsg 0x60 0 0 (leBytes 1 1 ++ leBytes 3 (s.measBlock k).length
        ++ s.measBlock k ++ bvBytes 32 (Config.drbg s.free) ++ leBytes 2 0))) := by
  obtain ⟨hfilter, h0, hff⟩ := measurements_filter k hk
  refine congrArg Host.Outcome.next ((State.negotiated_done hport hup h _).trans ?_)
  dsimp only
  rw [if_neg hff, hfilter, if_neg (by simp), if_neg h0, if_neg h0, if_neg h0, List.flatMap_singleton]
  rfl

/-- A session of a port ends its exchange and keeps the shared secret (R463). -/
theorem exec_keyExchange {s : State} {port : Nat} {q : Bytes} (hport : port < 2) (hup : (s.cxl port).up = true)
    (h : (s.cxl port).spdm = 3) (hlen : 104 ≤ q.length) (hcurve : onCurve (pointOf (slice q 40 64)) = true) :
    ∃ t e, exec (.keyExchange port q) s = .next t ∧ (t.cxl port).sessions = (s.cxl port).sessions ++ [e]
      ∧ e.secret = ecdh (1 + (Config.drbg s.free).toNat % (p256N - 1)) (pointOf (slice q 40 64)) ∧ e.finished = false := by
  refine ⟨_, { id := field q 4 2 + 65536 * freshKey ((s.cxl port).sessions.map fun e => e.id / 65536)
               secret := ecdh (1 + (Config.drbg s.free).toNat % (p256N - 1)) (pointOf (slice q 40 64)) },
    congrArg Host.Outcome.next ((State.negotiated_done hport hup h _).trans (if_neg (by simp [hcurve]; omega))), ?_, rfl, rfl⟩
  dsimp only
  rw [State.cxl_modCxl_self, State.spdmSay_sessions]
  rfl

/-- Settles O43: requests of a port that is up, in SPDM's order. -/
theorem doeAndSpdm : Obligations.DoeAndSpdm := by
  intro s port hport hup
  have hdoe {f : State → State} {t : State} (h : f s = t) : (Host.Outcome.next (s.doe port f) : Out) = .next t := by
    rw [State.doe_up hport hup, h]
  have hneg {f : State → State} {t : State} (hst : (s.cxl port).spdm = 3) (h : f s = t) :
      (Host.Outcome.next (s.negotiated port f) : Out) = .next t := by rw [State.negotiated_done hport hup hst, h]
  have hnot {f : State → State} (hst : (s.cxl port).spdm ≠ 3) : (Host.Outcome.next (s.negotiated port f) : Out) = .next (s.spdmError port 4) := by
    rw [State.negotiated_not hport hup hst]
  refine ⟨fun k => hdoe rfl, fun e he => hdoe (if_neg (by omega)), ⟨_, hdoe rfl, ?_, rfl, ?_⟩, fun q hst => hdoe (if_pos hst),
    fun q hst => hdoe (if_neg hst), fun q hst => hdoe (if_pos hst), fun q st a b hst => ⟨hnot hst, hnot hst, hnot hst, hnot hst⟩,
    fun q hst => hneg hst rfl, fun q o n hst ho => hneg hst (if_neg (by simpa using ho)), fun q hst => hneg hst rfl,
    fun q k hst hk => exec_getMeasurements hport hup hst hk, fun q hst hlen hcurve => exec_keyExchange hport hup hst hlen hcurve,
    fun x hx => ⟨hdoe (if_pos (by simp only [hx, Bool.and_self])), hdoe (if_neg (by simp)), hdoe (if_pos hx)⟩⟩
  · exact State.spdmSay_spdm _ _ _ _ _
  · rw [State.spdmSay_transcript, State.cxl_modCxl_self]
    rfl

end Sys2Proof.Machine
end

section
/-! SUPPORT. The management port, and writes and reads of registers. -/

namespace Sys2Proof.Machine
open Sys2Proof.Spec

/-! The frame's command (R481). -/

theorem exec_jendyRead {s : State} {f : Bytes} (h2 : field f 1 1 ≠ 2) (h3 : field f 1 1 ≠ 3) : exec (.jendyRead f) s = .next (s.manage f) :=
  congrArg Host.Outcome.next (if_neg (by simp [h2, h3]))
theorem exec_jendyWrite {s : State} {f : Bytes} (h : field f 1 1 = 2) : exec (.jendyWrite f) s = .next (s.manage f) :=
  congrArg Host.Outcome.next (if_pos h)
theorem exec_identify {s : State} {f : Bytes} (h : field f 1 1 = 3) : exec (.identify f) s = .next (s.manage f) :=
  congrArg Host.Outcome.next (if_pos h)
theorem exec_jendyRead_one {s : State} {f : Bytes} (h : field f 1 1 = 1) : exec (.jendyRead f) s = .next (s.manage f) :=
  exec_jendyRead (by rw [h]; decide) (by rw [h]; decide)

/-! The rows of R483. -/

theorem State.manage_version {s : State} {f : Bytes} (hup : s.mcUp = true) (h : field f 0 1 ≠ 1) :
    s.manage f = s.emit (.jendy 0 (s.jendyAnswer f false 10 [])) := (if_neg (by simp [hup])).trans (if_pos h)
theorem State.manage_malformed {s : State} {f : Bytes} (hup : s.mcUp = true) (h : field f 0 1 = 1) (hbad : jendyMalformed f = true) :
    s.manage f = { s with mgmt := { s.mgmt with malformed := satAdd 64 s.mgmt.malformed 1 } } :=
  (if_neg (by simp [hup])).trans ((if_neg (not_not_intro h)).trans (if_pos hbad))
theorem State.manage_untagged {s : State} {f : Bytes} (hup : s.mcUp = true) (h : field f 0 1 = 1) (hgood : jendyMalformed f = false)
    (htag : bit (field f 7 1) 0 = false) : s.manage f =
      if field f 1 1 = 3 ∨ (s.nv.mgmtKey = none ∧ field f 1 1 = 1 ∧ within (field f 4 2) 0x1000 0x11FF = true) then s.jendyPerform f false
      else s.jendyAuth f :=
  (if_neg (by simp [hup])).trans ((if_neg (not_not_intro h)).trans ((if_neg (by simp [hgood])).trans (if_pos (by simp [htag]))))
theorem State.manage_tagged {s : State} {f k : Bytes} (hup : s.mcUp = true) (h : field f 0 1 = 1) (hgood : jendyMalformed f = false)
    (htag : bit (field f 7 1) 0 = true) (hkey : s.nv.mgmtKey = some k) (hmac : jendyTag k s.sec.bootid 0 f = slice f 20 16) :
    s.manage f = s.jendyTagged f := by
  refine (if_neg (by simp [hup])).trans ((if_neg (not_not_intro h)).trans ((if_neg (by simp [hgood])).trans ((if_neg (by simp [htag])).trans ?_)))
  split
  next k' heq =>
    obtain rfl : k' = k := Option.some.inj (heq.symm.trans hkey)
    exact if_pos hmac
  next heq => exact absurd (heq.symm.trans hkey) (by simp)

/-- A repeated request gets the answer that is held for it (R484). -/
theorem State.jendyTagged_held {s : State} {f : Bytes} {h : Nat × Nat × Bytes}
    (hheld : (s.mgmt.held.find? fun h => h.1 == field f 12 8 && h.2.1 == field f 2 2) = some h) :
    s.jendyTagged f = s.emit (.jendy 0 h.2.2) := by
  unfold State.jendyTagged
  dsimp only
  rw [hheld]
/-- A fresh request that the entry allows is performed (R483, R484). -/
theorem State.jendyTagged_fresh {s : State} {f : Bytes}
    (hheld : (s.mgmt.held.find? fun h => h.1 == field f 12 8 && h.2.1 == field f 2 2) = none) (hctr : s.sec.mgmtCtr < field f 12 8)
    (hbox : ¬(field f 1 1 = 2 ∧ s.mailboxOnly (field f 4 2) (field f 6 1) = true)) : s.jendyTagged f = s.jendyPerform f true := by
  unfold State.jendyTagged
  dsimp only
  rw [hheld]
  exact (if_neg (by omega)).trans (if_neg hbox)

theorem State.jendyPerform_read {s : State} {f : Bytes} {tag : Bool} (h : field f 1 1 = 1) : s.jendyPerform f tag =
    ((s.countJendy false).dictRead (field f 4 2) (field f 6 1)).2.2.jendySend f tag ((s.countJendy false).dictRead (field f 4 2) (field f 6 1)).1
      ((s.countJendy false).dictRead (field f 4 2) (field f 6 1)).2.1 := by
  unfold State.jendyPerform
  dsimp only
  rw [h]
  rfl
theorem State.jendyPerform_write {s : State} {f : Bytes} {tag : Bool} (h : field f 1 1 = 2) : s.jendyPerform f tag =
    (s.countJendy false).dictWrite false (field f 4 2) (field f 6 1) (slice f 36 (field f 10 2)) fun st s => s.jendySend f tag st [] := by
  unfold State.jendyPerform
  dsimp only
  rw [h]
  rfl
theorem State.jendyPerform_identify {s : State} {f : Bytes} {tag : Bool} (h : field f 1 1 = 3) : s.jendyPerform f tag =
    (s.countJendy false).jendySend f tag 0 s.identifyData := by
  unfold State.jendyPerform
  dsimp only
  rw [h]
  rfl

/-! Registers. -/

/-- A write that answers no one only acts where its status allows (R470, R474). -/
theorem State.dictWrite_silent_done {s : State} {mailbox : Bool} {i sub : Nat} {data : Bytes} (h : s.writeStatus mailbox i sub data = 0) :
    (s.dictWrite mailbox i sub data fun _ s => s) = s.dictDo i sub data :=
  (if_neg (not_not_intro h)).trans (ite_self _)

theorem barSound_of {o size : Nat} (hsize : size = 4 ∨ size = 8) (hal : o % size = 0) (ho : o < 2 ^ 20) : barSound o size = true := by
  rw [barSound, hal, decide_eq_true ho]
  rcases hsize with rfl | rfl <;> rfl
theorem State.barWrite_open {s : State} {port o size : Nat} {data : Bytes} (hopen : s.hostOpen port = true) (hs : barSound o size = true)
    (hlen : data.length = size) : s.barWrite port o size data = s.barReg port o size (leNat data) := by
  obtain ⟨hport, hup, hblocked⟩ := State.hostOpen_iff.mp hopen
  exact (if_neg (by simp [hup]; omega)).trans ((if_neg (by simp [hs, hlen])).trans (if_neg (by simp [hblocked])))
theorem State.barRead_open {s : State} {port o size : Nat} (hopen : s.hostOpen port = true) (hs : barSound o size = true)
    (hext : barExternal o = false) : s.barRead port o size =
      s.emit (.registerData port (leBytes size (s.barWord port (o / 8 * 8) / 2 ^ (8 * (o % 8)) % 2 ^ (8 * size)))) := by
  obtain ⟨hport, hup, hblocked⟩ := State.hostOpen_iff.mp hopen
  exact (if_neg (by simp [hup]; omega)).trans ((if_neg (by simp [hs])).trans ((if_neg (by simp [hblocked])).trans (if_neg (by simp [hext]))))
theorem State.barRead_unsound {s : State} {port o size : Nat} (hport : port < 2) (hup : (s.cxl port).up = true) (hs : barSound o size = false) :
    s.barRead port o size = s.abortRead port o :=
  (if_neg (by simp [hup]; omega)).trans (if_pos (by simp [hs]))
theorem State.funcRead_data {s : State} {port : Nat} {reg : FuncReg} {d : Bytes} (hport : port < 2) (hup : (s.cxl port).up = true)
    (hretry : s.retriesConfig reg = false) (hblocked : s.hostBlocked port = false) (hd : s.funcData port reg = some d) :
    s.funcRead port reg = s.emit (.registerData port d) := by
  refine (if_neg (by simp [hretry])).trans ((if_neg (by simp [hup]; omega)).trans ((if_neg (by simp [hblocked])).trans ?_))
  rw [hd]

/-- Settles O44: the row of R483 that a frame meets, and the path that a register's access takes. -/
theorem managementPort : Obligations.ManagementPort := by
  refine ⟨fun s i f hup hi => ?_, fun s f hup h1 hgood htag => ⟨fun hop => ?_, fun hop => ?_, fun hop hkey => ?_⟩,
    fun s f k hup h1 hgood htag hkey hmac => ⟨fun h hheld => ?_, fun hheld hctr => ⟨fun hop => ?_, fun hop hbox hst hfirst => ?_⟩⟩,
    fun s f st d => ⟨rfl, rfl⟩, fun s i sub data hup => ⟨fun hst => ?_, fun hst => ?_⟩,
    fun s port o size data hopen hsize hal hlen ho => ?_, fun s port o size data hport hup => ⟨fun hopen hsize hal ho hext => ?_, fun hal hsize => ?_⟩,
    fun s port reg data d hport hup hretry hblocked hd => ?_, fun s port data hport hup hretry => ?_⟩
  · have hexec : exec i s = .next (s.manage f) := by
      rcases hi with ⟨rfl, h2, h3⟩ | ⟨rfl, h2⟩ | ⟨rfl, h3⟩
      · exact exec_jendyRead h2 h3
      · exact exec_jendyWrite h2
      · exact exec_identify h3
    exact ⟨fun hv => hexec.trans (congrArg Host.Outcome.next (State.manage_version hup hv)),
      fun hv hbad => hexec.trans (congrArg Host.Outcome.next (State.manage_malformed hup hv hbad))⟩
  · rw [exec_identify hop, State.manage_untagged hup h1 hgood htag, if_pos (.inl hop), State.jendyPerform_identify hop]
    rfl
  · rw [exec_jendyWrite hop, State.manage_untagged hup h1 hgood htag, if_neg (by simp [hop])]
    rfl
  · rw [exec_jendyRead_one hop, State.manage_untagged hup h1 hgood htag, if_neg (by simp [hop, hkey])]
    rfl
  · have hmanage := (State.manage_tagged hup h1 hgood htag hkey hmac).trans (State.jendyTagged_held hheld)
    exact ⟨fun hop => (exec_jendyRead_one hop).trans (congrArg Host.Outcome.next hmanage),
      fun hop => (exec_jendyWrite hop).trans (congrArg Host.Outcome.next hmanage)⟩
  · rw [exec_jendyRead_one hop, State.manage_tagged hup h1 hgood htag hkey hmac, State.jendyTagged_fresh hheld hctr (by simp [hop]),
      State.jendyPerform_read hop]
  · rw [exec_jendyWrite hop, State.manage_tagged hup h1 hgood htag hkey hmac, State.jendyTagged_fresh hheld hctr (by simp [hbox]),
      State.jendyPerform_write hop, State.dictWrite_done _ hst hfirst]
  · exact congrArg Host.Outcome.next ((if_pos hup).trans (State.dictWrite_silent_done hst))
  · exact congrArg Host.Outcome.next ((if_pos hup).trans (State.dictWrite_refused _ hst))
  · exact congrArg Host.Outcome.next (State.barWrite_open hopen (barSound_of hsize hal ho) hlen)
  · exact congrArg Host.Outcome.next (State.barRead_open hopen (barSound_of hsize hal ho) hext)
  · refine congrArg Host.Outcome.next (State.barRead_unsound hport hup ?_)
    simp [barSound, hsize, hal]
  · exact congrArg Host.Outcome.next (State.funcRead_data hport hup hretry hblocked hd)
  · exact congrArg Host.Outcome.next ((if_neg (by simp [hretry])).trans (if_neg (by simp [hup]; omega)))

end Sys2Proof.Machine
end

section
/-! SUPPORT. The functions that follow an enable entry. -/

namespace Sys2Proof.Machine
open Sys2Proof.Spec

/-- Every port's function and state are those of `s`. -/
def State.SameFaces (s t : State) : Prop := ∀ k, (t.port k).func = (s.port k).func ∧ (t.port k).st = (s.port k).st

theorem State.SameFaces.refl (s : State) : State.SameFaces s s := fun _ => ⟨rfl, rfl⟩
theorem State.SameFaces.trans {s t u : State} (h : State.SameFaces s t) (k : State.SameFaces t u) : State.SameFaces s u :=
  fun n => ⟨(k n).1.trans (h n).1, (k n).2.trans (h n).2⟩
theorem State.SameFaces.of_ports {s t : State} (h : t.ports = s.ports) : State.SameFaces s t :=
  fun k => by rw [State.port, h, State.port]; exact ⟨rfl, rfl⟩
theorem State.SameFaces.foldl {α : Type} {f : State → α → State} (hf : ∀ t x, State.SameFaces t (f t x)) (l : List α) (s : State) :
    State.SameFaces s (l.foldl f s) := by
  induction l generalizing s with
  | nil => exact .refl s
  | cons x l ih => exact (hf s x).trans (ih _)
theorem State.sameFaces_modPort {f : Port → Port} (hfunc : ∀ p, (f p).func = p.func) (hst : ∀ p, (f p).st = p.st) (s : State) (n : Nat) :
    State.SameFaces s (s.modPort n f) := by
  intro k
  rw [State.modPort_eq, State.port_setPort]
  split
  next h => exact h ▸ ⟨hfunc _, hst _⟩
  · exact ⟨rfl, rfl⟩

theorem State.sameFaces_sendMuster (s : State) (ports : List Nat) (b : Block) (fresh : Bool) : State.SameFaces s (s.sendMuster ports b fresh) := by
  refine .foldl (fun t p => ?_) _ _
  split
  · exact State.sameFaces_modPort (f := fun q => q.control 5 b fresh) (fun _ => rfl) (fun _ => rfl) _ _
  · exact .refl _
theorem State.TierFrame.ports {s t : State} (h : State.TierFrame s t) : t.ports = s.ports := by rw [← h]
theorem State.sameFaces_applyKvQueue (s : State) (slot : Nat) : State.SameFaces s (s.applyKvQueue slot) := by
  have hkv (t : State) (q : KvReq) : State.SameFaces t (t.applyKv slot q) := by
    refine .foldl (fun u c => ?_) _ _
    split
    · exact .of_ports (State.tierFrame_spill _ _ _ _ _).ports
    · exact .refl _
  exact (State.SameFaces.foldl hkv _ s).trans (.of_ports rfl)
theorem State.sameFaces_ctxState (s : State) (slot : Nat) (st : CtxSt) : State.SameFaces s (s.ctxState slot st) := by
  obtain ⟨-, -, -, hports, -⟩ := s.ctxState_frame slot st
  exact .of_ports hports
theorem State.sameFaces_musterEnds (s : State) (reason fmodid rx : Nat) (b : Block) : State.SameFaces s (s.musterEnds reason fmodid rx b) := by
  unfold State.musterEnds
  split
  · exact .refl s
  · dsimp only
    refine State.SameFaces.trans ?_ (State.sameFaces_applyKvQueue _ _)
    refine State.SameFaces.trans ?_ (.of_ports (State.assertEvent_ports _ _ _))
    refine State.SameFaces.trans ?_ (State.sameFaces_ctxState _ _ _)
    exact State.SameFaces.trans (.of_ports rfl) (State.sameFaces_sendMuster _ _ _ _)
/-- What a MATCH port that leaves ACTIVE does to the muster leaves the ports' states (R361). -/
theorem State.sameFaces_checkLeft (s : State) (port : Nat) : State.SameFaces s (s.checkLeft port) := by
  unfold State.checkLeft
  split
  · unfold State.musterFail
    split
    · exact .refl s
    · exact State.sameFaces_musterEnds _ _ _ _ _
  · exact .refl s

theorem enableValue_of {v : Byte} (h : v = 0 ∨ v = 1) : enableValue v = true := by rcases h with rfl | rfl <;> rfl

/-- A port whose enable does not stop it takes its new state (R488). -/
theorem setPortEn_kept {s : State} {p v st : Nat} (hw : funcWrite (s.port p).func v = some st)
    (hkeep : st = 3 → (s.port p).func = 3 ∨ (s.port p).func = 4) :
    s.setPortEn p v = some ((s.modPortNv p fun q => { q with en := v }).setPort p { s.port p with func := st }) := by
  unfold State.setPortEn
  rw [hw]
  exact if_neg fun h => (hkeep h.1).elim h.2.1 h.2.2
/-- A port that is on goes through RESET (R344, R488). -/
theorem setPortEn_stops {s : State} {p v : Nat} (hw : funcWrite (s.port p).func v = some 3) (h3 : (s.port p).func ≠ 3)
    (h4 : (s.port p).func ≠ 4) :
    ∃ t, s.setPortEn p v = some t ∧ (t.port p).func = 3 ∧ (t.port p).st = .reset := by
  unfold State.setPortEn
  rw [hw]
  refine ⟨_, if_pos ⟨rfl, h3, h4⟩, ?_⟩
  obtain ⟨hfunc, hst⟩ := State.sameFaces_checkLeft ((((s.modPortNv p fun q => { q with en := v }).resetPort p 4 true true).modPort p
    fun q => { q with func := 3, st := .reset })) p p
  rw [hfunc, hst, State.port_modPort_self]
  exact ⟨rfl, rfl⟩

/-- Settles O45: the table of R488, and each function's start and shutdown. -/
theorem functionEnables : Obligations.FunctionEnables := by
  refine ⟨by decide, fun s v hv => ⟨fun st hserves hw => ?_, fun st hserves hw => ?_, fun st hserves hbusy hw => ?_, fun hbusy => ?_,
    fun p st hp hserves hw hkeep => ?_, fun p hp hfunc hserves h0 => ?_⟩,
    fun s p hp => ⟨fun hfunc hpow hfail => congrArg Host.Outcome.next (if_pos ⟨hp, hfunc, hpow, hfail⟩), fun hfunc => ?_, fun hfunc => ?_⟩,
    fun s h => congrArg Host.Outcome.next (if_pos h), fun s h => congrArg Host.Outcome.next (if_pos h),
    fun s h h6 => congrArg Host.Outcome.next (if_pos ⟨h, h6⟩), fun s h => ⟨_, congrArg Host.Outcome.next (if_pos (by simp [h])), ?_, rfl, rfl, rfl⟩,
    fun s h => ?_, fun s h => ?_⟩
  · refine congrArg Host.Outcome.next ((if_pos ⟨enableValue_of hv, hserves⟩).trans ?_)
    rw [State.setSramScrub, hw]
    rfl
  · refine congrArg Host.Outcome.next ((if_pos ⟨enableValue_of hv, hserves⟩).trans ?_)
    rw [State.setTierScrub, hw]
    rfl
  · refine congrArg Host.Outcome.next ((if_pos ⟨enableValue_of hv, hserves⟩).trans ?_)
    rw [State.setCompute, if_neg (by simp [hbusy]), hw]
    rfl
  · refine congrArg Host.Outcome.next ?_
    rw [State.setCompute, if_pos hbusy, Option.getD_none, ite_self]
  · refine congrArg Host.Outcome.next ((if_pos ⟨hp, enableValue_of hv, hserves⟩).trans ?_)
    rw [setPortEn_kept hw hkeep, Option.getD_some]
  · subst h0
    obtain ⟨t, ht, hf, hst⟩ := setPortEn_stops (s := s) (p := p) (v := (0 : Byte).toNat) (by rw [hfunc]; rfl) (by omega) (by omega)
    refine ⟨t, congrArg Host.Outcome.next ((if_pos ⟨hp, enableValue_of hv, hserves⟩).trans ?_), hf, hst⟩
    rw [ht, Option.getD_some]
  · refine congrArg Host.Outcome.next ((if_pos ⟨hp, by simp [hfunc]⟩).trans ?_)
    rw [State.modPort_eq, hfunc]
    rfl
  · refine congrArg Host.Outcome.next ((if_pos ⟨hp, by simp [hfunc]⟩).trans ?_)
    rw [State.modPort_eq, hfunc]
    rfl
  · simp [h, funcStopped]
  · refine congrArg Host.Outcome.next ((if_pos (by simp [h])).trans ?_)
    rw [h]
    rfl
  · refine congrArg Host.Outcome.next ((if_pos (by simp [h])).trans ?_)
    rw [h]
    rfl

end Sys2Proof.Machine
end

section
/-! SUPPORT. Keeper mode, loss of power, resets and start-up. -/

namespace Sys2Proof.Machine
open Sys2Proof.Spec

/-! The level of a source other than the guard summary (R504). -/

theorem bankBit_setBankBit_ne {t : List (Nat × BitVec 64)} {src x : Nat} (b : Bool) (h : x ≠ src) :
    bankBit (setBankBit t src b) x = bankBit t x := by
  unfold bankBit setBankBit
  rw [Tab.get_put]
  split
  next hbank =>
    have hbit : x % 64 ≠ src % 64 := fun hmod => h (by rw [← Nat.div_add_mod x 64, ← Nat.div_add_mod src 64, hbank, hmod])
    have hx := Nat.mod_lt x (show 0 < 64 by decide)
    cases b
    · rw [if_neg Bool.false_ne_true, BitVec.getLsbD_and, BitVec.getLsbD_not, natBit_getLsbD _ hx, decide_eq_false hbit, hbank]
      simp [hx]
    · rw [if_pos rfl, BitVec.getLsbD_or, natBit_getLsbD _ hx, decide_eq_false hbit, hbank, Bool.or_false]
  · rfl
theorem bankBit_setBankBit_false (t : List (Nat × BitVec 64)) (src : Nat) : bankBit (setBankBit t src false) src = false := by
  have hlt := Nat.mod_lt src (show 0 < 64 by decide)
  rw [bankBit, setBankBit, Tab.get_put_self, if_neg Bool.false_ne_true, BitVec.getLsbD_and, BitVec.getLsbD_not, natBit_getLsbD _ hlt,
    decide_eq_true rfl, Bool.not_true, Bool.and_false, Bool.and_false]

theorem State.setPend_level (s : State) (d src : Nat) : ((s.setPend d src).evc d).level = (s.evc d).level := by
  unfold State.setPend; dsimp only; split <;> simp
theorem State.guardSummary_level (s : State) (d : Nat) {x : Nat} (h : x ≠ 1) :
    bankBit ((s.guardSummary d).evc d).level x = bankBit (s.evc d).level x := by
  unfold State.guardSummary; dsimp only; split
  · rw [State.setPend_level]
    simp [bankBit_setBankBit_ne _ h]
  · simp [bankBit_setBankBit_ne _ h]
theorem stormCount_level (g : GuardNv) (now : Nat) (e : Evc) (src : Nat) : (stormCount g now e src).1.level = e.level := by
  unfold stormCount
  extract_lets fresh
  (repeat' split) <;> rfl
theorem State.assertEvent_level (s : State) (d src : Nat) {x : Nat} (h : x ≠ 1) :
    bankBit ((s.assertEvent d src).evc d).level x = bankBit (s.evc d).level x := by
  unfold State.assertEvent
  split
  · rfl
  · dsimp only
    split
    · rw [State.setPend_level]
      rfl
    · split
      · rw [State.guardSummary_level _ _ h]
        refine congrArg (bankBit · x) ((State.setPend_level _ _ _).trans ?_)
        simp [stormCount_level]
      · rw [State.setPend_level]
        simp [stormCount_level]
/-- The input of a level source is kept (R504). -/
theorem State.levelInput_level (s : State) (d src : Nat) (b : Bool) (h : src ≠ 1) :
    bankBit ((s.levelInput d src b).evc d).level src = b := by
  have hset : bankBit (setBankBit (s.evc d).level src b) src = b := by
    cases b
    · exact bankBit_setBankBit_false _ _
    · exact bankBit_setBankBit_self _ _
  unfold State.levelInput
  dsimp only
  split
  · rw [State.assertEvent_level _ _ _ h]
    simpa using hset
  · simpa using hset

/-! Keeper mode (R526 to R528). -/

/-- The rails that a cause of keeper mode switches off (R526). -/
def State.keeperRails (s : State) (code die : Nat) : List Nat :=
  if code = 1 ∨ code = 2 then (dieRails die).filter fun r => !s.pw.railsOff.contains r else []

/-- Rails of no I/O die only go off (R527). -/
theorem State.railsDown_of_not_iod {s : State} {off : List Nat} (h4 : 4 ∉ off) (h5 : 5 ∉ off) :
    s.railsDown off = { s with pw := { s.pw with railsOff := s.pw.railsOff ++ off } } := by
  unfold State.railsDown
  dsimp only
  rw [if_neg (by simpa using h4), if_neg (by simpa using h5)]

theorem State.foldl_pw {α : Type} {f : State → α → State} (hf : ∀ t x, (f t x).pw = t.pw) (l : List α) (s : State) :
    (l.foldl f s).pw = s.pw := by
  induction l generalizing s with
  | nil => rfl
  | cons x l ih => exact (ih (f s x)).trans (hf s x)

/-- Keeper mode begins with its cause, and then its rails go off (R526, R527). -/
theorem State.enterKeeper_first {s : State} (hon : s.pw.on = true) (hk : s.pw.keeper = false) (code die detail : Nat) : ∃ u : State,
    (u.pw.keeper = true ∧ u.pw.keeperCause = code + 256 * die + 65536 * detail ∧ u.pw.railsOff = s.pw.railsOff)
    ∧ s.enterKeeper code die detail = u.railsDown (s.keeperRails code die) := by
  have hviral (t : State) : ([0, 1].foldl (fun (s : State) p => if (s.cxl p).up && (s.cxl p).viral then s.emit (.viral p) else s) t).pw = t.pw :=
    State.foldl_pw (by intro t p; split <;> rfl) _ _
  unfold State.enterKeeper
  dsimp only
  rw [if_neg (by simp [hon]), if_neg (by simp [hk])]
  refine ⟨_, ?_, rfl⟩
  rw [hviral, State.assertEvent_pw, State.assertEvent_pw]
  exact ⟨rfl, rfl, rfl⟩
/-- In keeper mode a further cause only switches its rails off (R7, R528). -/
theorem State.enterKeeper_again {s : State} (hon : s.pw.on = true) (hk : s.pw.keeper = true) (code die detail : Nat) :
    s.enterKeeper code die detail = s.railsDown (s.keeperRails code die) := by
  unfold State.enterKeeper
  dsimp only
  rw [if_neg (by simp [hon]), if_pos hk]
  rfl

/-- A compute or SRAM die has one rail. -/
theorem keeperRails_of_die {s : State} {code k : Nat} (hcode : code = 1 ∨ code = 2) (h1 : 1 ≤ k) (h12 : k ≤ 12)
    (hon : s.pw.railsOff.contains (13 + k) = false) : s.keeperRails code k = [13 + k] := by
  rw [State.keeperRails, if_pos hcode, dieRails, if_pos ⟨h1, h12⟩, List.filter_cons_of_pos (by rw [hon]; rfl), List.filter_nil]

/-! Loss of power, resets and start-up. -/

theorem State.foldl_detect_pw (l : List Nat) (s : State) : (l.foldl (fun (t : State) q =>
    if (Tab.get {} t.nv.ports q).en = 1 then t.modPort q fun x => { x with st := .detect, func := 2 } else t) s).pw = s.pw :=
  State.foldl_pw (by intro t q; split <;> rfl) l s
/-- The state of a port after the enabled ports of a list enter DETECT (R564). -/
theorem State.foldl_detect_st (l : List Nat) (s : State) (p : Nat) :
    ((l.foldl (fun (t : State) q => if (Tab.get {} t.nv.ports q).en = 1 then t.modPort q fun x => { x with st := .detect, func := 2 } else t) s).port
      p).st = if p ∈ l ∧ (Tab.get {} s.nv.ports p).en = 1 then .detect else (s.port p).st := by
  induction l generalizing s with
  | nil => simp
  | cons q l ih =>
    rw [List.foldl_cons, ih]
    by_cases hen : (Tab.get {} s.nv.ports q).en = 1
    · rw [if_pos hen, State.modPort_nv, State.modPort_eq, State.port_setPort]
      by_cases hp : p = q
      · subst hp
        simp [hen]
      · simp [hp]
    · rw [if_neg hen]
      by_cases hp : p = q
      · subst hp
        simp [hen]
      · simp [hp]

end Sys2Proof.Machine
end

section
/-! SUPPORT. The commands of input power, rails, clocks and start-up. -/

namespace Sys2Proof.Machine
open Sys2Proof.Spec

theorem State.turnOn_keeps (s : State) : s.turnOn.pw.on = true ∧ s.turnOn.pw.step = 1 ∧ s.turnOn.pw.stage = 0 ∧ s.turnOn.cores = []
    ∧ s.turnOn.pw.disconnected = s.pw.disconnected := ⟨rfl, rfl, rfl, rfl, rfl⟩
theorem State.turnOff_keeps (s : State) : s.turnOff.pw.on = false ∧ s.turnOff.pw.shutdown = s.pw.shutdown
    ∧ s.turnOff.pw.disconnected = s.pw.disconnected ∧ s.turnOff.pw.seqRec = s.pw.seqRec ∧ s.turnOff.cores = [] ∧ s.turnOff.nv = s.nv :=
  ⟨rfl, rfl, rfl, rfl, rfl, rfl⟩
theorem State.protect_keeps (s : State) (cause which : Nat) : (s.protect cause which).pw.on = false
    ∧ (s.protect cause which).pw.shutdown = true ∧ (s.protect cause which).pw.seqRec = cause + 256 * which := ⟨rfl, rfl, rfl⟩
theorem State.resetModule_keeps (s : State) : s.resetModule.pw.step = 2 ∧ s.resetModule.pw.failWait = false
    ∧ s.resetModule.pw.vinOut = s.pw.vinOut ∧ s.resetModule.pw.mrst = s.pw.mrst ∧ s.resetModule.pw.mrstWait = s.pw.mrst
    ∧ s.resetModule.cores = [] := by
  unfold State.resetModule State.showOk
  dsimp only
  split
  · rw [State.levelInput_pw, State.levelInput_cores]
    exact ⟨rfl, rfl, rfl, rfl, rfl, rfl⟩
  · exact ⟨rfl, rfl, rfl, rfl, rfl, rfl⟩
theorem State.sayReset_pw (s : State) : s.sayReset.pw = s.pw := State.foldl_pw (by intros; rfl) _ _

/-! Start-up (R564, R565). -/

theorem State.startStep_one {s : State} (hgo : (!s.pw.on || s.pw.failWait || s.pw.mrstWait || s.pw.stage == 6) = false) (h : s.pw.step = 1) :
    s.startStep none = { s with pw := { s.pw with stage := 1, step := 2, railsOff := (List.range 22).map (· + 4) } } := by
  unfold State.startStep
  rw [if_neg (by simp [hgo]), h]
  rfl
theorem State.startStep_noBank {s : State} (hgo : (!s.pw.on || s.pw.failWait || s.pw.mrstWait || s.pw.stage == 6) = false) (h : s.pw.step = 2) :
    s.startStep (some .noBank) = s.toRecovery := by
  unfold State.startStep
  rw [if_neg (by simp [hgo]), h]
  rfl
theorem State.startStep_three {s : State} (hgo : (!s.pw.on || s.pw.failWait || s.pw.mrstWait || s.pw.stage == 6) = false) (h : s.pw.step = 3) :
    s.startStep none = { s with pw := { s.pw with stage := 3, step := 4, railsOff := s.railsUp } } := by
  unfold State.startStep
  rw [if_neg (by simp [hgo]), h]
  rfl
theorem State.startStep_four {s : State} (hgo : (!s.pw.on || s.pw.failWait || s.pw.mrstWait || s.pw.stage == 6) = false) (h : s.pw.step = 4) :
    s.startStep none = { s with pw := { s.pw with stage := 4, step := 5 }, time := { s.time with lock := some s.now } } := by
  unfold State.startStep
  rw [if_neg (by simp [hgo]), h]
  rfl
theorem State.startStep_five {s : State} (hgo : (!s.pw.on || s.pw.failWait || s.pw.mrstWait || s.pw.stage == 6) = false) (h : s.pw.step = 5) :
    s.startStep none = { s.initAll with pw := { s.initAll.pw with stage := 5, step := 6 } } := by
  unfold State.startStep
  rw [if_neg (by simp [hgo]), h]
  rfl
theorem State.startStep_six {s : State} (hgo : (!s.pw.on || s.pw.failWait || s.pw.mrstWait || s.pw.stage == 6) = false) (h : s.pw.step = 6) :
    s.startStep none = s.ready := by
  unfold State.startStep
  rw [if_neg (by simp [hgo]), h]
  rfl

theorem State.initAll_tier (s : State) : s.initAll.tier.usable = true ∧ s.initAll.tier.mem = [] := by
  unfold State.initAll
  dsimp only
  split <;> exact ⟨rfl, rfl⟩

/-- Start-up is through: the stage, and every enabled port in DETECT (R489, R564). -/
theorem State.ready_keeps {s : State} (h : s.pw.startFail = 0) : s.ready.pw.stage = 6
    ∧ ∀ p < 32, (s.ready.port p).st = if (Tab.get {} s.nv.ports p).en = 1 then .detect else (s.port p).st := by
  obtain ⟨l, hl⟩ : ∃ l, l = List.range 32 := ⟨_, rfl⟩
  unfold State.ready State.showOk
  rw [← hl]
  dsimp only
  rw [if_pos h]
  refine ⟨by rw [State.foldl_detect_pw], fun p hp => (State.foldl_detect_st l _ p).trans ?_⟩
  have hmem : p ∈ l := hl ▸ List.mem_range.mpr hp
  simp only [hmem, true_and]
  rfl

/-- The wait after a power-fail: every group but M is off (R553). -/
theorem State.failPower_keeps (s : State) :
    let t := (({ s.groupsOff with pw := { s.groupsOff.pw with failWait := true, vinOut := true, stage := 0, seqRec := 1 } } : State).levelInput
      0 8 true).showOk
    t.pw.failWait = true ∧ t.pw.stage = 0 ∧ t.pw.seqRec = 1 ∧ t.pw.modOk = false ∧ t.cores = [] ∧ t.ctxs = [] ∧ t.tier.mem = [] ∧ t.nv = s.nv := by
  dsimp only
  unfold State.showOk
  dsimp only
  rw [State.levelInput_pw, State.levelInput_cores, State.levelInput_ctxs, State.levelInput_tier, State.levelInput_nv]
  refine ⟨rfl, rfl, rfl, ?_, rfl, rfl, rfl, rfl⟩
  simp

theorem exec_railOutOfRegulation {s : State} {rail : Nat} (hon : s.pw.on = true) (h1 : 1 ≤ rail) (h25 : rail ≤ 25)
    (hup : s.pw.railsOff.contains rail = false) : exec (.railOutOfRegulation rail) s = .next (if rail < 14 then s.protect 3 rail
      else if s.starting then s.railFailed rail else s.enterKeeper 2 (rail - 13) rail) := by
  refine congrArg Host.Outcome.next (if_neg ?_)
  have h0 : rail ≠ 0 := by omega
  rw [hon, hup, decide_eq_false (by omega), beq_false_of_ne h0]
  decide

/-- A compute or SRAM die whose temperature or rail takes the module into keeper mode loses its rail (R526). -/
theorem State.enterKeeper_die {s : State} {code k : Nat} (hon : s.pw.on = true) (hk : s.pw.keeper = false) (hcode : code = 1 ∨ code = 2)
    (h1 : 1 ≤ k) (h12 : k ≤ 12) (hup : s.pw.railsOff.contains (13 + k) = false) (detail : Nat) :
    ∃ t, s.enterKeeper code k detail = t ∧ t.pw.keeper = true ∧ t.pw.keeperCause = code + 256 * k + 65536 * detail
      ∧ t.pw.railsOff = s.pw.railsOff ++ [13 + k] := by
  obtain ⟨u, ⟨hkeep, hcause, hoff⟩, heq⟩ := State.enterKeeper_first hon hk code k detail
  refine ⟨_, heq, ?_⟩
  rw [keeperRails_of_die hcode h1 h12 hup, State.railsDown_of_not_iod (by simp; omega) (by simp; omega)]
  exact ⟨hkeep, hcause, congrArg (· ++ [13 + k]) hoff⟩

theorem State.on_of_powered {s : State} (h : s.powered = true) : s.pw.on = true := by
  simp only [State.powered, State.mcUp, Bool.and_eq_true] at h
  exact h.1.1.1

/-! The PLL of a domain of groups other than M loses lock while the module is powered (R561). -/

theorem exec_pllLossOfLock_ioFabric {s : State} {i : Nat} (hpow : s.powered = true) (hi : i < 2) :
    exec (.pllLossOfLock (.ioFabric i)) s = .next (s.protect 4 (13 + i)) :=
  congrArg Host.Outcome.next ((if_neg (by simp [State.on_of_powered hpow])).trans ((if_neg nofun).trans ((if_neg nofun).trans
    ((if_neg (by simp [hpow])).trans (if_pos hi)))))
theorem exec_pllLossOfLock_timeUnit {s : State} (hpow : s.powered = true) : exec (.pllLossOfLock .timeUnit) s = .next (s.protect 4 13) :=
  congrArg Host.Outcome.next ((if_neg (by simp [State.on_of_powered hpow])).trans ((if_neg nofun).trans ((if_neg nofun).trans
    (if_neg (by simp [hpow])))))
theorem exec_pllLossOfLock_memory {s : State} {i : Nat} (hpow : s.powered = true) (hi : i < 2) :
    exec (.pllLossOfLock (.memory i)) s = .next { s with tier := { s.tier with
      lost := s.tier.lost ++ (s.channels.filter fun c => c / 32 == i && !s.tier.lost.contains c) } } :=
  congrArg Host.Outcome.next ((if_neg (by simp [State.on_of_powered hpow])).trans ((if_neg nofun).trans ((if_neg nofun).trans
    ((if_neg (by simp [hpow])).trans (if_pos hi)))))
theorem exec_pllLossOfLock_fabricPorts {s : State} {i : Nat} (hpow : s.powered = true) (hi : i < 2) :
    exec (.pllLossOfLock (.fabricPorts i)) s = .next (s.portsDown i) :=
  congrArg Host.Outcome.next ((if_neg (by simp [State.on_of_powered hpow])).trans ((if_neg nofun).trans ((if_neg nofun).trans
    ((if_neg (by simp [hpow])).trans (if_pos hi)))))
/-- A compute die's PLL takes the module that runs into keeper mode with cause 3, which switches no rail off (R526). -/
theorem exec_pllLossOfLock_compute {s : State} {d : Nat} (hpow : s.powered = true) (hd : d < 4) (hup : s.pw.railsOff.contains (14 + d) = false)
    (hstart : s.starting = false) (hk : s.pw.keeper = false) :
    ∃ t, exec (.pllLossOfLock (.compute d)) s = .next t ∧ t.pw.keeper = true ∧ t.pw.keeperCause = 3 + 256 * (1 + d) := by
  have hon := State.on_of_powered hpow
  obtain ⟨u, ⟨hkeep, hcause, -⟩, heq⟩ := State.enterKeeper_first
    (s := { s with pw := { s.pw with pllLost := d :: s.pw.pllLost.filter (· != d) } }) hon hk 3 (1 + d) 0
  refine ⟨_, congrArg Host.Outcome.next ((if_neg (by simp [hon])).trans ((if_neg nofun).trans ((if_neg nofun).trans
    ((if_neg (by simp [hpow])).trans ((if_neg ?_).trans ((if_neg (by simp [hstart])).trans heq)))))), ?_⟩
  · exact not_or.mpr ⟨by omega, by simp only [hup]; decide⟩
  · rw [State.keeperRails, if_neg (by omega), State.railsDown_of_not_iod List.not_mem_nil List.not_mem_nil]
    exact ⟨hkeep, hcause⟩

/-- Settles O48: the thresholds, the groups and the start-up steps. -/
theorem powerEvents : Obligations.PowerEvents := by
  refine ⟨fun s hoff hshut => ⟨fun hdis => ⟨s.turnOn, congrArg Host.Outcome.next (if_pos (by simp [hoff, hshut, hdis])), ?_⟩, fun hdis => ?_⟩,
    fun s hon hfail hwait h6 => ?_, fun s hon => ⟨?_, ?_, fun hfail => ?_, fun hfail => ?_⟩, fun s => ⟨⟨_, rfl, ?_⟩, ⟨_, rfl, ?_⟩⟩,
    fun s rail hon h1 h25 hup => ⟨fun hlt => ?_, fun hge hstart hk hpow => ?_⟩, fun s hpow => ?_, fun s => ⟨fun hmrst hpow => ?_, rfl⟩⟩
  · obtain ⟨hon, hstep, hstage, hcores, -⟩ := s.turnOn_keeps
    exact ⟨hon, hstep, hstage, hcores⟩
  · refine ⟨_, congrArg Host.Outcome.next ((if_pos hdis).trans (if_neg (by simp [hshut]))), ?_⟩
    obtain ⟨hon, hstep, -, -, hd⟩ := ({ s with pw := { s.pw with disconnected := false } } : State).turnOn_keeps
    exact ⟨hon, hstep, hd⟩
  · have hgo : (!s.pw.on || s.pw.failWait || s.pw.mrstWait || s.pw.stage == 6) = false := by simp [hon, hfail, hwait, h6]
    refine ⟨fun h => congrArg Host.Outcome.next (State.startStep_one hgo h),
      fun h => ⟨_, congrArg Host.Outcome.next (State.startStep_noBank hgo h), rfl, rfl, rfl⟩,
      fun h => congrArg Host.Outcome.next (State.startStep_three hgo h), fun h => congrArg Host.Outcome.next (State.startStep_four hgo h),
      fun h => ⟨_, congrArg Host.Outcome.next (State.startStep_five hgo h), rfl, rfl, ?_⟩,
      fun h h0 => ⟨_, congrArg Host.Outcome.next (State.startStep_six hgo h), State.ready_keeps h0⟩⟩
    exact s.initAll_tier
  · refine ⟨_, congrArg Host.Outcome.next (if_pos hon), ?_, State.levelInput_level _ _ _ _ (by decide)⟩
    rw [State.levelInput_pw]
  · refine ⟨_, congrArg Host.Outcome.next (if_pos hon), ?_, State.levelInput_level _ _ _ _ (by decide)⟩
    rw [State.levelInput_pw]
  · exact ⟨_, congrArg Host.Outcome.next (if_pos ⟨hon, hfail⟩), s.failPower_keeps⟩
  · refine ⟨_, congrArg Host.Outcome.next (if_pos ⟨hon, hfail⟩), ?_⟩
    obtain ⟨hstep, hf, hv, -⟩ := ({ s with pw := { s.pw with vinOut := false } } : State).resetModule_keeps
    exact ⟨hf, hv, hstep⟩
  · obtain ⟨hon, hshut, -, -, hcores, hnv⟩ := ({ s with pw := { s.pw with shutdown := false } } : State).turnOff_keeps
    exact ⟨hon, hshut, hcores, hnv⟩
  · obtain ⟨hon, -, hdis, -, hcores, -⟩ := ({ s with pw := { s.pw with
      disconnected := true, seqRec := if s.pw.on then 2 else s.pw.seqRec } } : State).turnOff_keeps
    exact ⟨hon, hdis, hcores⟩
  · rw [exec_railOutOfRegulation hon h1 h25 hup, if_pos hlt]
    exact ⟨_, rfl, s.protect_keeps 3 rail⟩
  · rw [exec_railOutOfRegulation hon h1 h25 hup, if_neg (by omega), if_neg (by simp [hstart])]
    obtain ⟨t, ht, hkeep, hcause, hoff⟩ := State.enterKeeper_die hon hk (.inr rfl) (k := rail - 13) (by omega) (by omega)
      (by rw [Nat.add_sub_cancel' (by omega)]; exact hup) rail
    refine ⟨t, congrArg _ ht, hkeep, hcause, ?_⟩
    rw [hoff, Nat.add_sub_cancel' (by omega)]
    simp
  · refine ⟨fun pll w hw => ?_, fun d hd hup hstart hk => ?_, fun i hi => ?_, fun i hi => ?_⟩
    · simp only [List.mem_cons, Prod.mk.injEq, List.not_mem_nil, or_false] at hw
      refine ⟨s.protect 4 w, ?_, s.protect_keeps 4 w⟩
      have hon : ¬ (!s.pw.on) = true := by simp [State.on_of_powered hpow]
      obtain ⟨rfl, rfl⟩ | ⟨rfl, rfl⟩ | ⟨rfl, rfl⟩ | ⟨rfl, rfl⟩ | ⟨rfl, rfl⟩ := hw
      · exact exec_pllLossOfLock_ioFabric hpow (by decide)
      · exact exec_pllLossOfLock_ioFabric hpow (by decide)
      · exact congrArg Host.Outcome.next ((if_neg hon).trans (if_pos rfl))
      · exact exec_pllLossOfLock_timeUnit hpow
      · exact congrArg Host.Outcome.next ((if_neg hon).trans ((if_neg nofun).trans (if_pos rfl)))
    · exact exec_pllLossOfLock_compute hpow hd hup hstart hk
    · exact exec_pllLossOfLock_memory hpow hi
    · exact exec_pllLossOfLock_fabricPorts hpow hi
  · refine ⟨_, congrArg Host.Outcome.next ((if_neg (by simp [hmrst])).trans (if_pos (by exact hpow))), ?_⟩
    obtain ⟨hstep, -, -, hm, hw, hcores⟩ := ({ s with pw := { s.pw with mrst := true } } : State).sayReset.resetModule_keeps
    rw [State.sayReset_pw] at hm hw
    exact ⟨hm, hw, hstep, hcores⟩

end Sys2Proof.Machine
end

section
/-! SUPPORT. What the loss of a die's rails leaves of the power state, and throttling. -/

namespace Sys2Proof.Machine
open Sys2Proof.Spec

/-! The reset of a fabric port (R344 to R347) leaves the power state. -/

theorem State.injectAt_pw (s : State) (node : Nat) (p : Packet) : (s.injectAt node p).pw = s.pw := by
  unfold State.injectAt
  split <;> rfl
theorem State.answerDropped_pw (s : State) (port : Nat) (p : Packet) : (s.answerDropped port p).pw = s.pw := by
  unfold State.answerDropped
  dsimp only
  split
  · exact State.injectAt_pw _ _ _
  · split
    · exact (State.injectAt_pw _ _ _).trans (State.injectAt_pw _ _ _)
    · exact State.injectAt_pw _ _ _
theorem State.latchSwitch_pw (s : State) (m : FoldMsg) : (s.latchSwitch m).pw = s.pw := by
  unfold State.latchSwitch
  split
  · rfl
  · dsimp only
    (repeat' split) <;> rfl
theorem State.holdOutcome_pw (s : State) (m : FoldMsg) : (s.holdOutcome m).pw = s.pw := by
  unfold State.holdOutcome
  extract_lets own kids slot s1 _ _ s2 s3
  have h3 : s3.pw = s.pw := rfl
  split
  · rfl
  · split
    · exact (State.latchSwitch_pw _ m).trans h3
    · exact (State.assertEvent_pw _ _ _).trans h3
theorem State.parentFailed_pw (s : State) (fold tally reason parent : Nat) : (s.parentFailed fold tally reason parent).pw = s.pw := by
  unfold State.parentFailed
  split
  · rfl
  · exact State.holdOutcome_pw _ _
theorem State.noteReset_pw (s : State) (port : Nat) : (s.noteReset port).pw = s.pw := by
  unfold State.noteReset
  split <;> rfl
/-- A port that resets without a LINK-RESET flit of its own. -/
theorem State.resetPort_pw (s : State) (port r : Nat) (off : Bool) : (s.resetPort port r false off).pw = s.pw := by
  unfold State.resetPort
  extract_lets p heads s1 _ p1 s2 i null s3 _ s4 s5 s6
  have h2 : s2.pw = s.pw := (State.noteReset_pw _ _).trans (State.assertEvent_pw _ _ _)
  have h5 : s5.pw = s.pw := (State.foldl_pw (fun _ _ => State.answerDropped_pw _ _ _) heads s4).trans h2
  have h6 : s6.pw = s.pw := h5
  split
  · split
    · split
      · exact (State.parentFailed_pw _ _ _ _ _).trans h6
      · exact h6
    · exact h6
  · exact h5

/-! The end of a muster (R361) leaves the power state. -/

theorem State.ctxState_pw (s : State) (slot : Nat) (st : CtxSt) : (s.ctxState slot st).pw = s.pw := by
  unfold State.ctxState
  dsimp only
  rw [State.assertEvent_pw, State.modCtx_pw]
  split <;> rfl
theorem State.TierFrame.pw {s t : State} (h : State.TierFrame s t) : t.pw = s.pw := by rw [← h]
theorem State.applyKv_pw (s : State) (slot : Nat) (q : KvReq) : (s.applyKv slot q).pw = s.pw := by
  refine State.foldl_pw (fun t c => ?_) _ s
  rw [State.modCtx_pw]
  split
  · exact (State.tierFrame_spill _ _ _ _ _).pw
  · rfl
theorem State.applyKvQueue_pw (s : State) (slot : Nat) : (s.applyKvQueue slot).pw = s.pw :=
  State.foldl_pw (fun _ _ => State.applyKv_pw _ _ _) _ s
theorem State.sendMuster_pw (s : State) (ports : List Nat) (b : Block) (fresh : Bool) : (s.sendMuster ports b fresh).pw = s.pw :=
  State.foldl_pw (by intro t p; split <;> rfl) ports s
theorem State.musterEnds_pw (s : State) (reason fmodid rx : Nat) (b : Block) : (s.musterEnds reason fmodid rx b).pw = s.pw := by
  unfold State.musterEnds
  split
  · rfl
  · dsimp only
    rw [State.applyKvQueue_pw, State.assertEvent_pw, State.ctxState_pw]
    exact State.sendMuster_pw _ _ _ _
theorem State.checkLeft_pw (s : State) (port : Nat) : (s.checkLeft port).pw = s.pw := by
  unfold State.checkLeft State.musterFail
  split
  · split
    · rfl
    · exact State.musterEnds_pw _ _ _ _ _
  · rfl

/-! The reset of a CXL port (R466) leaves the power state. -/

theorem State.startPending_pw (s : State) : s.startPending.pw = s.pw := by
  unfold State.startPending State.startLoad
  split
  · rfl
  · split
    · rw [State.emit_pw, State.ctxState_pw, State.modCtx_pw]
    · rfl
theorem State.failLoad_pw (s : State) (slot status detail : Nat) : (s.failLoad slot status detail).pw = s.pw :=
  (State.startPending_pw _).trans (State.ctxState_pw _ _ _)
theorem State.finishLoad_pw (s : State) (slot : Nat) : (s.finishLoad slot).pw = s.pw := by
  unfold State.finishLoad
  dsimp only
  split
  · rw [State.startPending_pw, State.ctxState_pw, State.modCtx_pw]
  · rfl
theorem State.startShards_pw (s : State) (slot : Nat) : (s.startShards slot).pw = s.pw :=
  State.foldl_pw (by intro t h; dsimp only; split <;> rfl) _ s
theorem State.endAttempt_pw (s : State) (slot i status : Nat) (cs : Nat × Nat × Nat) : (s.endAttempt slot i status cs).pw = s.pw := by
  unfold State.endAttempt
  dsimp only
  split
  · rfl
  · split
    · exact (State.finishLoad_pw _ _).trans (State.startShards_pw _ _)
    · exact State.failLoad_pw _ _ _ _
theorem State.portLoads_pw (s : State) (port : Nat) : (s.portLoads port).pw = s.pw := by
  refine State.foldl_pw (fun t k => ?_) _ s
  dsimp only
  split
  · rfl
  · split
    · refine State.foldl_pw (fun u h => ?_) _ t
      split
      · exact State.endAttempt_pw _ _ _ _ _
      · rfl
    · split
      · exact State.failLoad_pw _ _ _ _
      · rfl
theorem State.rewriteBlock_pw (s : State) (ta : Nat) (d : Line) : (s.rewriteBlock ta d).pw = s.pw := by rw [State.rewriteBlock]
theorem State.endRewrite_pw (s : State) (b : Nat) : (s.endRewrite b).pw = s.pw := by
  unfold State.endRewrite
  dsimp only
  split
  · rfl
  · split
    · rw [State.rewriteBlock_pw]
    · rfl
theorem State.resetCxl_pw (s : State) (port : Nat) : (s.resetCxl port).pw = s.pw := by
  unfold State.resetCxl
  extract_lets c s1 s2
  exact (State.portLoads_pw _ _).trans (State.foldl_pw State.endRewrite_pw _ s2)

/-! Rails that go off (R527). -/

theorem State.iodDark_pw (s : State) (iod : Nat) : (s.iodDark iod).pw = s.pw := by
  unfold State.iodDark
  extract_lets s1
  have h1 : s1.pw = s.pw := by
    refine State.foldl_pw (fun t k => ?_) _ s
    split
    · rfl
    · rw [State.checkLeft_pw, State.modPort_pw, State.resetPort_pw]
  split
  · rw [State.assertEvent_pw, State.modCxl_pw, State.resetCxl_pw, h1]
  · exact h1
theorem State.railsDown_pw (s : State) (off : List Nat) : (s.railsDown off).pw = { s.pw with railsOff := s.pw.railsOff ++ off } := by
  unfold State.railsDown
  dsimp only
  split
  · exact State.iodDark_pw _ _
  · split
    · exact State.iodDark_pw _ _
    · rfl

/-- The first cause of keeper mode is the one kept (R526). -/
theorem State.enterKeeper_cause {s : State} (hon : s.pw.on = true) (hk : s.pw.keeper = false) (code die detail : Nat) :
    (s.enterKeeper code die detail).pw.keeper = true
      ∧ (s.enterKeeper code die detail).pw.keeperCause = code + 256 * die + 65536 * detail := by
  obtain ⟨u, ⟨hkeep, hcause, -⟩, heq⟩ := State.enterKeeper_first hon hk code die detail
  rw [heq, State.railsDown_pw]
  exact ⟨hkeep, hcause⟩

/-! Throttling (R567 to R569). -/

theorem State.throttleSources_pw (s : State) : s.throttleSources.pw = s.pw := by
  unfold State.throttleSources
  dsimp only
  rw [State.levelInput_pw, State.levelInput_pw, State.levelInput_pw]

theorem dutyStep_decide (d : Nat) (up down : Prop) [Decidable up] [Decidable down] :
    dutyStep d (decide up) (decide down) = if up then min (d + 8) 224 else if down then d - 4 else d := by
  simp [dutyStep]

/-- Settles O49: the duties by `dutyStep`, keeper mode by its first cause. -/
theorem throttling : Obligations.Throttling := by
  refine ⟨fun s w hon => ⟨⟨_, congrArg Host.Outcome.next (if_pos hon), ?_⟩, fun hlt => ⟨_, congrArg Host.Outcome.next (if_pos ⟨hon, hlt⟩), ?_⟩,
      fun hle => congrArg Host.Outcome.next (if_neg fun h => absurd h.2 (Nat.not_lt.mpr hle))⟩,
    fun s d p hon => ⟨_, congrArg Host.Outcome.next (if_pos hon), ?_⟩,
    fun s die hd hc hr => congrArg Host.Outcome.next (if_pos ⟨hd, hc, hr⟩), fun s k c hon hk h1 h12 hup => ?_,
    fun s k c hon hk => ⟨fun h1 h14 => ⟨_, congrArg Host.Outcome.next ((if_neg Bool.false_ne_true).trans (if_pos ⟨h1, h14⟩)), ?_⟩,
      fun h1 hmax => ⟨_, congrArg Host.Outcome.next ((if_pos rfl).trans (if_pos ⟨h1, hmax⟩)), ?_⟩⟩⟩
  · rw [State.throttleSources_pw, dutyStep_decide]
  · rw [State.throttleSources_pw]
  · rw [State.throttleSources_pw]
    refine ⟨rfl, rfl, fun k hk => ?_, fun hio => ?_⟩
    · dsimp only
      rw [List.getD_eq_getElem?_getD, List.getElem?_map, List.getElem?_range hk]
      exact dutyStep_decide _ _ _
    · dsimp only
      rw [decide_eq_true hio, Bool.true_or]
      rfl
  · refine congrArg Host.Outcome.next ((if_neg Bool.false_ne_true).trans ((if_pos ⟨h1, by omega⟩).trans ?_))
    rw [State.enterKeeper_again hon hk, keeperRails_of_die (.inl rfl) h1 h12 hup, State.railsDown_of_not_iod (by simp; omega) (by simp; omega)]
  · exact State.enterKeeper_cause hon hk 1 k (c % 256)
  · exact State.enterKeeper_cause hon hk 1 (packageDie k) (c % 256 + 256 * k)

end Sys2Proof.Machine
end
